-- ==== Sys2Proof/Word.lean ====
section
/-! DEFINITION. The words of the link (bytes and their 16-, 24- and 32-bit groups) and the plainest
arithmetic of counters: saturating counts and the two number cycles of 32 bits. -/

namespace Sys2Proof

/-- One byte on the link. -/
abbrev Byte := BitVec 8
/-- Two bytes, most significant first (11.1). -/
abbrev W16 := BitVec 16
/-- Three bytes, most significant first (11.1). -/
abbrev W24 := BitVec 24
/-- Four bytes, most significant first (11.1). -/
abbrev W32 := BitVec 32

/-- The greatest value of a 16-bit counter. -/
abbrev maxU16 : Nat := 65535
/-- The greatest value of a 32-bit counter. -/
abbrev maxU32 : Nat := 4294967295

/-- A counter that saturates at `cap` (00, Events: it stays at its greatest value). -/
def satAdd (cap n k : Nat) : Nat := min cap (n + k)

/-- The number after `n` in a cycle of the numbers 1 to 4,294,967,295 (R72, R125, R138). -/
def nextInCycle (n : Nat) : Nat := if n = maxU32 then 1 else n + 1

/-- The distance back of `n` when `next` is the next number of the cycle (R72). -/
def distanceBack (next n : Nat) : Nat := (next + maxU32 - n) % maxU32

end Sys2Proof
end

