-- ==== Sys2Proof/Config.lean ====
section
/-! DEFINITION. What is fixed for the part: the levels and times of chapters 2, 5, 9 and 10, and the
one value that the spec leaves open (a constant without a body). -/

namespace Sys2Proof.Config

/-- R40: the abort timer runs for 20 ms. -/
def abortMs : Nat := 20
/-- R37: the EFO timer when no program is selected, in ms. -/
def efoDefaultMs : Nat := 50
/-- R182, 10.9: the reset level, in mV. -/
def resetMv : Nat := 2850
/-- R182, 10.9: the retention level, in mV. -/
def retentionMv : Nat := 1500
/-- R186: the HIGH warning level, in mV. -/
def warnHighMv : Nat := 3150
/-- R186: the LOW warning level, in mV. -/
def warnLowMv : Nat := 3050
/-- R186: the rise above the warning level that ends SUPPLY-LOW, in mV. -/
def hysteresisMv : Nat := 40
/-- R170, R172: entries of a receive queue and of a transmit queue. -/
def queueDepth : Nat := 8
/-- R172: NORMAL frames that the transmit queue of port U takes at most. -/
def normalDepth : Nat := 6
/-- R170: taken entries at which HOLD-OFF is sent. -/
def holdOffMark : Nat := 6
/-- R170: taken entries at or below which GO is sent. -/
def goMark : Nat := 3
/-- R82: NORMAL frames on port U at or below which a RECORD-REPLY is queued. -/
def fetchMark : Nat := 3
/-- R162: the greatest payload length. -/
def maxPayload : Nat := 96
/-- R71: bond records that the store holds. -/
def storeSize : Nat := 1024
/-- R115: pull records that the log holds. -/
def logSize : Nat := 256
/-- R67: entries of a trace ring. -/
def ringSize : Nat := 64
/-- R173: the broadcast destination. -/
def broadcast : Byte := 0xFF

/-- FREE VALUE. Section 11.4 gives the ERASE mark of a TABLE-WRITE as 1 for ERASE and 0 for contents
and does not state how another byte is read; whether it is read as ERASE is this constant (log 18). -/
opaque eraseMark : Byte → Bool

end Sys2Proof.Config
end

