-- ==== Sys2Proof/Syntax.lean ====
section
/-! DEFINITION. The commands of the block: one constructor of `Instr` for each row of
spec/opcode_table.json, with the operands that the row's event or frame carries (chapter 11). -/

namespace Sys2Proof

/-- The two heads. -/
inductive Head | a | b
  deriving DecidableEq, Repr

/-- The six link ports (00, TABLE 2). -/
inductive Port | u | ha | hb | ix | pt | ot
  deriving DecidableEq, Repr

/-- The six strap pins as a reset reads them (R187): the value of the four address straps and the
two rate straps, true for high. -/
structure Straps where
  address : BitVec 4
  rateFirst : Bool
  rateSecond : Bool
  deriving DecidableEq, Repr

/-- The four bytes of a frame header (R162, 11 TABLE 1). -/
structure Header where
  dst : Byte
  src : Byte
  kind : Byte
  len : Byte
  deriving DecidableEq, Repr

/-- A whole frame; its length byte is the length of its payload. -/
structure Frame where
  dst : Byte
  src : Byte
  kind : Byte
  payload : List Byte
  deriving DecidableEq, Repr

/-- What a forwarded frame carries beside the bytes its kind needs: its addresses and the extra
payload bytes, which the part forwards unchanged (R175, R190). -/
structure Envelope where
  dst : Byte
  src : Byte
  extra : List Byte
  deriving DecidableEq, Repr

/-- One sample of a SAMPLE frame (11 TABLE 4). -/
structure Triple where
  v : W16
  i : W16
  z : W16
  deriving DecidableEq, Repr

/-- One segment slot of a program entry: level or power, and duration (11 TABLE 9). -/
structure SlotPair where
  level : W16
  duration : W16
  deriving DecidableEq, Repr

/-- The contents of a program write (11 TABLE 9). -/
structure ProgramBody where
  kind : Byte
  forceCount : Byte
  usCount : Byte
  force : List SlotPair
  us : List SlotPair
  window : W16
  eMin : W24
  eMax : W24
  dNonstick : W16
  dMin : W16
  dMax : W16
  iPeakMax : W16
  strict : Bool
  efoPresent : Bool
  tMin : W16
  tMax : W16
  efoTimeout : Byte
  rebond : Byte
  weakRun : Byte
  deriving DecidableEq, Repr

/-- The contents of a device-type write (11 TABLE 19). -/
structure DeviceBody where
  columns : Byte
  rows : Byte
  map : Byte
  deriving DecidableEq, Repr

/-- One slot of a MAP-ENTRIES write (11 TABLE 19). -/
structure SlotBody where
  ball : Byte
  stitch : Byte
  loop : Byte
  skip : Bool
  deriving DecidableEq, Repr

/-- The contents of a pull-plan write (11 TABLE 19). -/
structure PlanBody where
  interval : Byte
  unitCount : Byte
  units : List Byte
  wireCount : Byte
  wires : List Byte
  limit : Byte
  deriving DecidableEq, Repr

/-- The contents of a pull-limits write (11 TABLE 19). -/
structure LimitsBody where
  fMin : W16
  fLift : W16
  deriving DecidableEq, Repr

/-- The contents of an action write (11 TABLE 19). -/
structure ActionBody where
  level : Byte
  rank : Byte
  action : Byte
  deriving DecidableEq, Repr

/-- The contents of a node write (11 TABLE 19). -/
structure NodeBody where
  address : Byte
  mask : Byte
  deriving DecidableEq, Repr

/-- A TABLE-WRITE carries either the mark ERASE or the new contents (R1, R2). -/
inductive WriteOp (α : Type) where
  | erase
  | put (contents : α)
  deriving DecidableEq, Repr

/-- One position entry of a TRACK-SET (11 TABLE 21). -/
structure PosEntry where
  type : Byte
  id : W16
  device : Byte
  column : Byte
  deriving DecidableEq, Repr

/-- The fields of a TRACK-SET (11 TABLE 21); `window` is 0xFF when none is given. -/
structure TrackSetBody where
  entry : PosEntry
  bond : PosEntry
  pull : PosEntry
  exit : PosEntry
  window : Byte
  deriving DecidableEq, Repr

/-- The commands. Each constructor is the row of spec/opcode_table.json that LAWS.json names. A
management request carries its request tag first (R178). -/
inductive Instr where
  -- resets, supply, part time (chapter 10)
  | powerOnReset (straps : Straps) (mv : W16)
  | pinReset (straps : Straps)
  | supplyReset (straps : Straps) (mv : W16)
  | resetPinLow
  | supplyBelowResetLevel (mv : W16)
  | supplyFallsBelowWarning (mv : W16)
  | supplyRisesAboveWarning (mv : W16)
  -- the bond link (chapter 9)
  | lineReady (p : Port)
  | lineNotReady (p : Port)
  | wakeTrainingReceived (p : Port) (intervals : List W32)
  | wakeAnswerTimeout (p : Port)
  | farEndWake (p : Port) (training : Option (List W32))
  | wakeRetryTimerExpiry (p : Port)
  | sleepTimerExpiry (p : Port)
  | frameHeaderReceived (p : Port) (hdr : Header)
  | frameEndReceived (p : Port) (tail : List Bool)
  | holdOff (p : Port)
  | go (p : Port)
  | holdOffTimerExpiry (p : Port)
  | frameSent (p : Port)
  | downstreamFrameForwarded (p : Port) (f : Frame)
  -- the bond cycle and the quality engine (chapters 2 and 3)
  | bondStart (head : Byte) (strip : W16) (unit wire kind : Byte)
  | bondAbort (head : Byte)
  | abortTimerExpiry (h : Head)
  | touchdown (h : Head) (e : Envelope) (z : W16) (stamp : Byte)
  | lift (h : Head) (e : Envelope)
  | aborted (h : Head) (e : Envelope)
  | headFault (h : Head) (e : Envelope) (code : Byte)
  | strayEvent (h : Head) (e : Envelope) (code : Byte)
  | sample (h : Head) (stamp : Byte) (samples : List Triple)
  | efoStart (h : Head) (e : Envelope) (time : W16)
  | efoEnd (h : Head) (e : Envelope) (time : W16)
  | efoTimerExpiry (h : Head)
  -- track and magazines (chapter 5)
  | indexStep (skip : Bool)
  | indexTransfer (skip : Bool)
  | holdTimerExpiry
  | indexDoneStep (e : Envelope) (code inSlot outSlot : Byte)
  | indexDoneTransfer (e : Envelope) (inSlot outSlot : Byte)
  | completionTimerExpiry
  | jam (e : Envelope) (position : Byte)
  | magInLoaded (e : Envelope) (count : Byte)
  | magInRemoved (e : Envelope)
  | magOutLoaded (e : Envelope) (count : Byte)
  | magOutRemoved (e : Envelope)
  | trackSet (tag : Byte) (body : TrackSetBody)
  -- pull testing (chapter 6)
  | pullOrderQueued
  | pullResult (e : Envelope) (strip : W16) (unit wire : Byte) (force : W16) (mode : Byte)
  | pullAbort (e : Envelope) (strip : W16)
  | pullStationTimerExpiry
  -- the operator terminal (chapter 8) and supervision (chapter 10)
  | screenFrameQueued
  | refreshTimerExpiry
  | supervisionTimerExpiry
  | keyPage (page : Byte)
  | keyScrollUp
  | keyScrollDown
  | keyAck
  | keyPause (head mode : Byte)
  | keyResume (head : Byte)
  | keyRetry (head : Byte)
  | keyRejectUnit (head : Byte)
  | keyReleasePull (head : Byte)
  | keyUnknown (code : Byte)
  -- management requests (chapters 1, 4 to 10)
  | managementRequestRefused (kind tag op : Byte)
  | tableWriteProgram (tag index : Byte) (w : WriteOp ProgramBody)
  | tableWriteDeviceType (tag index : Byte) (w : WriteOp DeviceBody)
  | tableWriteMapLength (tag index : Byte) (w : WriteOp W16)
  | tableWriteMapEntries (tag index : Byte) (w : WriteOp (Byte × Byte × List SlotBody))
  | tableWritePullPlan (tag index : Byte) (w : WriteOp PlanBody)
  | tableWritePullLimits (tag index : Byte) (w : WriteOp LimitsBody)
  | tableWriteAction (tag index : Byte) (w : WriteOp ActionBody)
  | tableWriteNode (tag index : Byte) (w : WriteOp NodeBody)
  | tableWriteUnknownTable (tag code : Byte)
  | tableReadProgram (tag index : Byte)
  | tableReadDeviceType (tag index : Byte)
  | tableReadMapLength (tag index : Byte)
  | tableReadMapEntries (tag index first count : Byte)
  | tableReadSummary (tag : Byte)
  | tableReadPullPlan (tag index : Byte)
  | tableReadPullLimits (tag index : Byte)
  | tableReadPullStatus (tag : Byte)
  | tableReadAction (tag index : Byte)
  | tableReadAlarmList (tag index : Byte)
  | tableReadNode (tag index : Byte)
  | tableReadPortStatus (tag index : Byte)
  | tableReadPartStatus (tag : Byte)
  | recordFetchBond (tag : Byte) (first : W32) (count : Byte)
  | recordFetchTrace (tag head : Byte) (first : W32) (count : Byte)
  | recordFetchPull (tag : Byte) (first : W32) (count : Byte)
  | recordReplyQueued
  | controlRun (tag : Byte)
  | controlConfig (tag : Byte)
  | controlSupervision (tag steps : Byte)
  | controlSupplyLevel (tag code : Byte)
  | controlInputType (tag device : Byte)
  | controlIndexTimers (tag hold done : Byte)
  | controlMagStop (tag slot : Byte) (set : Bool)
  | controlPause (tag head mode : Byte)
  | controlResume (tag head : Byte)
  | controlRetry (tag head : Byte)
  | controlRejectUnit (tag head : Byte)
  | controlTraceCapture (tag head : Byte) (on : Bool)
  | controlTraceRelease (tag head : Byte)
  | controlClearResults (tag head : Byte)
  | controlPullTimer (tag seconds : Byte)
  | controlPullCancel (tag : Byte)
  | controlClearPullStats (tag head : Byte)
  | controlReleasePull (tag head : Byte)
  | controlScreenRefresh (tag steps : Byte)
  | controlPortEnable (tag port : Byte)
  | controlPortDisable (tag port : Byte) (force : Bool)
  | controlPortRate (tag port rate : Byte)
  | controlLinkThreshold (tag : Byte) (threshold : W16)
  | controlClearCounters (tag port : Byte)
  | reset (straps : Straps)
  | alarmAck (tag cls obj : Byte)
  | alarmAckAll (tag : Byte)
  | forceTest (tag : Byte)
  | terminalLevel (tag level : Byte)
  | keepalive (tag : Byte)
  | partTimeTick
  | supplyBelowRetentionLevel (mv : W16)
  | tableReadUnknownTable (tag code : Byte)
  | recordFetchUnknownStore (tag store : Byte)
  deriving DecidableEq, Repr

end Sys2Proof
end

