-- ==== Sys2Proof/Decode.lean ====
section
/-! DEFINITION. The commands that received frames spell, by the layouts of chapter 11: reading
(`commandOfFrame`) and, after it, writing (`frameOf`). No row of spec/opcode_table.json gives bits,
so `decodeTableWord` answers none for every word. -/

namespace Sys2Proof

/-- No row of the opcode table gives bits: no word spells a command. -/
def decodeTableWord (_nbits _w : Nat) : Option Instr := none

/-! ## Kind codes (11 TABLE 2) -/

namespace Kind
def bondStart : Byte := 0x01
def bondAbort : Byte := 0x03
def sample : Byte := 0x10
def event : Byte := 0x11
def index : Byte := 0x20
def indexDone : Byte := 0x22
def magIn : Byte := 0x24
def magOut : Byte := 0x25
def jam : Byte := 0x26
def pullResult : Byte := 0x31
def pullAbort : Byte := 0x32
def key : Byte := 0x42
def management : Byte := 0x60
def holdOff : Byte := 0x7E
def go : Byte := 0x7F
end Kind

/-! ## Bytes (11.1: most significant byte first) -/

/-- Byte `k` of a payload. -/
def byteAt (l : List Byte) (k : Nat) : Byte := l.getD k 0

/-- The two bytes at `k`. -/
def word16At (l : List Byte) (k : Nat) : W16 := byteAt l k ++ byteAt l (k + 1)

/-- The three bytes at `k`. -/
def word24At (l : List Byte) (k : Nat) : W24 := byteAt l k ++ word16At l (k + 1)

/-- The four bytes at `k`. -/
def word32At (l : List Byte) (k : Nat) : W32 := word16At l k ++ word16At l (k + 2)

/-- The bytes of a 16-bit number. -/
def bytes16 (w : W16) : List Byte := [w.extractLsb' 8 8, w.extractLsb' 0 8]

/-- The bytes of a 24-bit number. -/
def bytes24 (w : W24) : List Byte :=
  [w.extractLsb' 16 8, w.extractLsb' 8 8, w.extractLsb' 0 8]

/-- The bytes of a 32-bit number. -/
def bytes32 (w : W32) : List Byte :=
  [w.extractLsb' 24 8, w.extractLsb' 16 8, w.extractLsb' 8 8, w.extractLsb' 0 8]

/-- The answer `x` when the payload has the `n` bytes that the frame needs, else none (R189). -/
def needBytes (n : Nat) (l : List Byte) (x : Instr) : Option Instr :=
  if l.length < n then none else some x

/-- The envelope of a frame whose kind needs `n` payload bytes. -/
def Frame.envelope (f : Frame) (n : Nat) : Envelope := ⟨f.dst, f.src, f.payload.drop n⟩

/-! ## Table-write contents (11 TABLE 9, TABLE 19), from offset 5 -/

/-- Segment slot `j` of four, from offset `o`. -/
def readPair (l : List Byte) (o j : Nat) : SlotPair :=
  ⟨word16At l (o + 4 * j), word16At l (o + 4 * j + 2)⟩

def readPairs (l : List Byte) (o : Nat) : List SlotPair :=
  [readPair l o 0, readPair l o 1, readPair l o 2, readPair l o 3]

/-- 11 TABLE 9: a program entry. -/
def readProgramBody (l : List Byte) : ProgramBody where
  kind := byteAt l 0
  forceCount := byteAt l 1
  usCount := byteAt l 2
  force := readPairs l 3
  us := readPairs l 19
  window := word16At l 35
  eMin := word24At l 37
  eMax := word24At l 40
  dNonstick := word16At l 43
  dMin := word16At l 45
  dMax := word16At l 47
  iPeakMax := word16At l 49
  strict := (byteAt l 51).getLsbD 0
  efoPresent := (byteAt l 51).getLsbD 1
  tMin := word16At l 52
  tMax := word16At l 54
  efoTimeout := byteAt l 56
  rebond := byteAt l 57
  weakRun := byteAt l 58

def readDeviceBody (l : List Byte) : DeviceBody := ⟨byteAt l 0, byteAt l 1, byteAt l 2⟩

/-- One slot of a MAP-ENTRIES run, from offset `o`: skip is 0 for clear, any other value set. -/
def readSlotBody (l : List Byte) (o : Nat) : SlotBody :=
  ⟨byteAt l o, byteAt l (o + 1), byteAt l (o + 2), byteAt l (o + 3) != 0⟩

/-- `n` slots of a run, from offset `o`. -/
def readSlots (l : List Byte) (o : Nat) : Nat → List SlotBody
  | 0 => []
  | n + 1 => readSlotBody l o :: readSlots l (o + 4) n

def readPlanBody (l : List Byte) : PlanBody where
  interval := byteAt l 0
  unitCount := byteAt l 1
  units := [byteAt l 2, byteAt l 3, byteAt l 4, byteAt l 5]
  wireCount := byteAt l 6
  wires := [byteAt l 7, byteAt l 8, byteAt l 9, byteAt l 10, byteAt l 11, byteAt l 12,
            byteAt l 13, byteAt l 14]
  limit := byteAt l 15

def readPosEntry (l : List Byte) (o : Nat) : PosEntry :=
  ⟨byteAt l o, word16At l (o + 1), byteAt l (o + 3), byteAt l (o + 4)⟩

/-- Section 11.4: the mark 1 is ERASE and 0 is contents; another byte is a free value (log 18). -/
def isErase (mark : Byte) : Bool :=
  if mark = 1 then true else if mark = 0 then false else Config.eraseMark mark

/-- A TABLE-WRITE: ERASE needs 5 bytes, contents of `n` bytes need 5 + n (11 TABLE 17). -/
def readWrite {α : Type} (l : List Byte) (n : Nat) (contents : α) (mk : WriteOp α → Instr) :
    Option Instr :=
  if l.length < 5 then none
  else if isErase (byteAt l 4) then some (mk .erase)
  else needBytes (5 + n) l (mk (.put contents))

/-- A TABLE-WRITE by its table code (11 TABLE 18). -/
def readTableWrite (l : List Byte) : Option Instr :=
  let tag := byteAt l 1
  let index := byteAt l 3
  let c := l.drop 5
  let runCount := byteAt c 1
  match (byteAt l 2).toNat with
  | 0 => readWrite l 59 (readProgramBody c) (.tableWriteProgram tag index)
  | 1 => readWrite l 3 (readDeviceBody c) (.tableWriteDeviceType tag index)
  | 2 => readWrite l 2 (word16At c 0) (.tableWriteMapLength tag index)
  | 3 => readWrite l (if c.length < 2 then 2 else 2 + 4 * runCount.toNat)
          (byteAt c 0, runCount, readSlots c 2 runCount.toNat) (.tableWriteMapEntries tag index)
  | 4 => readWrite l 16 (readPlanBody c) (.tableWritePullPlan tag index)
  | 5 => readWrite l 4 (⟨word16At c 0, word16At c 2⟩ : LimitsBody) (.tableWritePullLimits tag index)
  | 6 => readWrite l 3 (⟨byteAt c 0, byteAt c 1, byteAt c 2⟩ : ActionBody) (.tableWriteAction tag index)
  | 7 => readWrite l 2 (⟨byteAt c 0, byteAt c 1⟩ : NodeBody) (.tableWriteNode tag index)
  | _ => needBytes 5 l (.tableWriteUnknownTable tag (byteAt l 2))

/-- A TABLE-READ by its table code (11 TABLE 17, TABLE 18). -/
def readTableRead (l : List Byte) : Option Instr :=
  let tag := byteAt l 1
  let index := byteAt l 3
  match (byteAt l 2).toNat with
  | 0 => needBytes 4 l (.tableReadProgram tag index)
  | 1 => needBytes 4 l (.tableReadDeviceType tag index)
  | 2 => needBytes 4 l (.tableReadMapLength tag index)
  | 3 => needBytes 6 l (.tableReadMapEntries tag index (byteAt l 4) (byteAt l 5))
  | 4 => needBytes 4 l (.tableReadPullPlan tag index)
  | 5 => needBytes 4 l (.tableReadPullLimits tag index)
  | 6 => needBytes 4 l (.tableReadAction tag index)
  | 7 => needBytes 4 l (.tableReadNode tag index)
  | 8 => needBytes 3 l (.tableReadSummary tag)
  | 9 => needBytes 3 l (.tableReadPullStatus tag)
  | 10 => needBytes 4 l (.tableReadAlarmList tag index)
  | 11 => needBytes 4 l (.tableReadPortStatus tag index)
  | 12 => needBytes 3 l (.tableReadPartStatus tag)
  | _ => needBytes 4 l (.tableReadUnknownTable tag (byteAt l 2))

/-- A RECORD-FETCH by its store (11 TABLE 17). -/
def readRecordFetch (l : List Byte) : Option Instr :=
  let tag := byteAt l 1
  let first := word32At l 4
  let count := byteAt l 8
  needBytes 9 l <|
    match (byteAt l 2).toNat with
    | 0 => .recordFetchBond tag first count
    | 1 => .recordFetchTrace tag (byteAt l 3) first count
    | 2 => .recordFetchPull tag first count
    | _ => .recordFetchUnknownStore tag (byteAt l 2)

/-- A CONTROL by its operation code (11 TABLE 20). -/
def readControl (l : List Byte) : Option Instr :=
  let tag := byteAt l 1
  let x := byteAt l 3
  let y := byteAt l 4
  match (byteAt l 2).toNat with
  | 0 => needBytes 3 l (.controlRun tag)
  | 1 => needBytes 3 l (.controlConfig tag)
  | 2 => needBytes 4 l (.controlSupervision tag x)
  | 3 => needBytes 4 l (.controlSupplyLevel tag x)
  | 4 => needBytes 4 l (.controlInputType tag x)
  | 5 => needBytes 5 l (.controlIndexTimers tag x y)
  | 6 => needBytes 5 l (.controlMagStop tag x (y != 0))
  | 7 => needBytes 5 l (.controlPause tag x y)
  | 8 => needBytes 4 l (.controlResume tag x)
  | 9 => needBytes 4 l (.controlRetry tag x)
  | 10 => needBytes 4 l (.controlRejectUnit tag x)
  | 11 => needBytes 5 l (.controlTraceCapture tag x (y != 0))
  | 12 => needBytes 4 l (.controlTraceRelease tag x)
  | 13 => needBytes 4 l (.controlClearResults tag x)
  | 14 => needBytes 4 l (.controlPullTimer tag x)
  | 15 => needBytes 3 l (.controlPullCancel tag)
  | 16 => needBytes 4 l (.controlClearPullStats tag x)
  | 17 => needBytes 4 l (.controlReleasePull tag x)
  | 18 => needBytes 4 l (.controlScreenRefresh tag x)
  | 19 => needBytes 4 l (.controlPortEnable tag x)
  | 20 => needBytes 5 l (.controlPortDisable tag x (y.getLsbD 0))
  | 21 => needBytes 5 l (.controlPortRate tag x y)
  | 22 => needBytes 5 l (.controlLinkThreshold tag (word16At l 3))
  | 23 => needBytes 4 l (.controlClearCounters tag x)
  | _ => needBytes 3 l (.managementRequestRefused 3 tag (byteAt l 2))

/-- A management request by its request kind (R178, 11 TABLE 17); none is a payload shorter than the
request needs. A kind that is none of TABLE 17 needs its kind and tag. -/
def readManagement (pins : Straps) (l : List Byte) : Option Instr :=
  let tag := byteAt l 1
  if l.length < 2 then none
  else match (byteAt l 0).toNat with
    | 0 => if l.length < 3 then none else readTableWrite l
    | 1 => if l.length < 3 then none else readTableRead l
    | 2 => readRecordFetch l
    | 3 => if l.length < 3 then none else readControl l
    | 4 => some (.reset pins)
    | 5 => if l.length < 3 then none
           else if byteAt l 2 = 0xFF then some (.alarmAckAll tag)
           else needBytes 4 l (.alarmAck tag (byteAt l 2) (byteAt l 3))
    | 6 => some (.forceTest tag)
    | 7 => needBytes 23 l (.trackSet tag
            ⟨readPosEntry l 2, readPosEntry l 7, readPosEntry l 12, readPosEntry l 17, byteAt l 22⟩)
    | 8 => needBytes 3 l (.terminalLevel tag (byteAt l 2))
    | 9 => some (.keepalive tag)
    | _ => some (.managementRequestRefused (byteAt l 0) tag 0)

/-- `n` samples of a SAMPLE frame, from offset `o` (11 TABLE 4). -/
def readTriples (l : List Byte) (o : Nat) : Nat → List Triple
  | 0 => []
  | n + 1 => ⟨word16At l o, word16At l (o + 2), word16At l (o + 4)⟩ :: readTriples l (o + 6) n

/-- A frame of a head port (11 TABLE 4, TABLE 11). -/
def readHeadFrame (h : Head) (p : Port) (f : Frame) : Option Instr :=
  let l := f.payload
  if f.kind = Kind.sample then
    if l.length < 2 then none
    else needBytes (2 + 6 * (byteAt l 1).toNat) l
      (.sample h (byteAt l 0) (readTriples l 2 (byteAt l 1).toNat))
  else if f.kind = Kind.event then
    if l.length < 1 then none
    else match (byteAt l 0).toNat with
      | 0 => needBytes 4 l (.touchdown h (f.envelope 4) (word16At l 1) (byteAt l 3))
      | 1 => some (.lift h (f.envelope 1))
      | 2 => some (.aborted h (f.envelope 1))
      | 3 => needBytes 3 l (.efoStart h (f.envelope 3) (word16At l 1))
      | 4 => needBytes 3 l (.efoEnd h (f.envelope 3) (word16At l 1))
      | 5 => needBytes 2 l (.headFault h (f.envelope 2) (byteAt l 1))
      | _ => some (.strayEvent h (f.envelope 1) (byteAt l 0))
  else some (.downstreamFrameForwarded p f)

/-- A frame of port IX (11 TABLE 13 and the text after it). A MAG-IN or MAG-OUT of another sub-kind
is not taken by the track controller (R91, R94) and is forwarded (log 30). -/
def readIndexerFrame (f : Frame) : Option Instr :=
  let l := f.payload
  if f.kind = Kind.indexDone then
    needBytes 3 l
      (if byteAt l 0 = 1 then .indexDoneTransfer (f.envelope 3) (byteAt l 1) (byteAt l 2)
       else .indexDoneStep (f.envelope 3) (byteAt l 0) (byteAt l 1) (byteAt l 2))
  else if f.kind = Kind.jam then needBytes 1 l (.jam (f.envelope 1) (byteAt l 0))
  else if f.kind = Kind.magIn then
    if l.length < 1 then none
    else if byteAt l 0 = 0 then needBytes 2 l (.magInLoaded (f.envelope 2) (byteAt l 1))
    else if byteAt l 0 = 1 then some (.magInRemoved (f.envelope 1))
    else some (.downstreamFrameForwarded .ix f)
  else if f.kind = Kind.magOut then
    if l.length < 1 then none
    else if byteAt l 0 = 0 then needBytes 2 l (.magOutLoaded (f.envelope 2) (byteAt l 1))
    else if byteAt l 0 = 1 then some (.magOutRemoved (f.envelope 1))
    else some (.downstreamFrameForwarded .ix f)
  else some (.downstreamFrameForwarded .ix f)

/-- A frame of port PT (11 TABLE 15). -/
def readPullFrame (f : Frame) : Option Instr :=
  let l := f.payload
  if f.kind = Kind.pullResult then
    needBytes 7 l (.pullResult (f.envelope 7) (word16At l 0) (byteAt l 2) (byteAt l 3)
      (word16At l 4) (byteAt l 6))
  else if f.kind = Kind.pullAbort then needBytes 2 l (.pullAbort (f.envelope 2) (word16At l 0))
  else some (.downstreamFrameForwarded .pt f)

/-- A frame of port OT (11 TABLE 16). -/
def readKeyFrame (f : Frame) : Option Instr :=
  let l := f.payload
  let x := byteAt l 1
  if f.kind = Kind.key then
    if l.length < 1 then none
    else match (byteAt l 0).toNat with
      | 0 => needBytes 2 l (.keyPage x)
      | 1 => some .keyScrollUp
      | 2 => some .keyScrollDown
      | 3 => some .keyAck
      | 4 => needBytes 3 l (.keyPause x (byteAt l 2))
      | 5 => needBytes 2 l (.keyResume x)
      | 6 => needBytes 2 l (.keyRetry x)
      | 7 => needBytes 2 l (.keyRejectUnit x)
      | 8 => needBytes 2 l (.keyReleasePull x)
      | _ => some (.keyUnknown (byteAt l 0))
  else some (.downstreamFrameForwarded .ot f)

/-- A frame of port U that the part keeps (R173 steps 1 and 2). An INDEX whose kind names neither
STEP nor TRANSFER spells no command: it is dropped (R96). -/
def readUpstreamFrame (pins : Straps) (f : Frame) : Option Instr :=
  let l := f.payload
  if f.kind = Kind.bondStart then
    needBytes 6 l (.bondStart (byteAt l 0) (word16At l 1) (byteAt l 3) (byteAt l 4) (byteAt l 5))
  else if f.kind = Kind.bondAbort then needBytes 1 l (.bondAbort (byteAt l 0))
  else if f.kind = Kind.index then
    if l.length < 2 then none
    else if byteAt l 0 = 0 then some (.indexStep ((byteAt l 1).getLsbD 0))
    else if byteAt l 0 = 1 then some (.indexTransfer ((byteAt l 1).getLsbD 0))
    else none
  else if f.kind = Kind.management then readManagement pins l
  else none

/-- The command that a good frame received whole on port `p` spells, with the strap pins at
`pins` (they matter to RESET alone). None: a frame shorter than its kind needs (R189), or an INDEX
of neither kind. -/
def commandOfFrame (pins : Straps) (p : Port) (f : Frame) : Option Instr :=
  if f.kind = Kind.holdOff then some (.holdOff p)
  else if f.kind = Kind.go then some (.go p)
  else match p with
    | .u => readUpstreamFrame pins f
    | .ha => readHeadFrame .a .ha f
    | .hb => readHeadFrame .b .hb f
    | .ix => readIndexerFrame f
    | .pt => readPullFrame f
    | .ot => readKeyFrame f

/-! ## The encoder: the frame that spells a command -/

/-- A bit as bit `k` of a byte. -/
def bitByte (k : Nat) (x : Bool) : Byte := if x then BitVec.ofNat 8 (2 ^ k) else 0

def writePairs (l : List SlotPair) : List Byte :=
  l.flatMap fun x => bytes16 x.level ++ bytes16 x.duration

/-- 11 TABLE 9. -/
def writeProgramBody (x : ProgramBody) : List Byte :=
  [x.kind, x.forceCount, x.usCount] ++ writePairs x.force ++ writePairs x.us ++ bytes16 x.window
    ++ bytes24 x.eMin ++ bytes24 x.eMax ++ bytes16 x.dNonstick ++ bytes16 x.dMin ++ bytes16 x.dMax
    ++ bytes16 x.iPeakMax ++ [bitByte 0 x.strict ||| bitByte 1 x.efoPresent]
    ++ bytes16 x.tMin ++ bytes16 x.tMax ++ [x.efoTimeout, x.rebond, x.weakRun]

def writeSlots (l : List SlotBody) : List Byte :=
  l.flatMap fun x => [x.ball, x.stitch, x.loop, bitByte 0 x.skip]

def writePlanBody (x : PlanBody) : List Byte :=
  [x.interval, x.unitCount] ++ x.units ++ [x.wireCount] ++ x.wires ++ [x.limit]

def writePosEntry (x : PosEntry) : List Byte := [x.type] ++ bytes16 x.id ++ [x.device, x.column]

def writeTriples (l : List Triple) : List Byte :=
  l.flatMap fun x => bytes16 x.v ++ bytes16 x.i ++ bytes16 x.z

/-- The payload of a TABLE-WRITE. -/
def writeWrite {α : Type} (tag code index : Byte) (bytes : α → List Byte) : WriteOp α → List Byte
  | .erase => [0, tag, code, index, 1]
  | .put c => [0, tag, code, index, 0] ++ bytes c

/-- The port of a head. -/
def Head.port : Head → Port
  | .a => .ha
  | .b => .hb

/-- A frame to the part that is not forwarded: its addresses do not matter to the command. -/
def plainFrame (kind : Byte) (payload : List Byte) : Frame := ⟨0, 0, kind, payload⟩

/-- A frame that is forwarded, with its addresses and extra bytes. -/
def Envelope.frame (e : Envelope) (kind : Byte) (needed : List Byte) : Frame :=
  ⟨e.dst, e.src, kind, needed ++ e.extra⟩

/-- A management request of port U. -/
def managementFrame (l : List Byte) : Option (Port × Frame) :=
  some (.u, plainFrame Kind.management l)

/-- A CONTROL request. -/
def controlFrame (tag op : Byte) (operands : List Byte) : Option (Port × Frame) :=
  managementFrame ([3, tag, op] ++ operands)

/-- The port and the frame that spell a command; none for the commands that no frame carries. -/
def frameOf : Instr → Option (Port × Frame)
  | .holdOff p => some (p, plainFrame Kind.holdOff [])
  | .go p => some (p, plainFrame Kind.go [])
  | .downstreamFrameForwarded p f => some (p, f)
  | .bondStart h s u w k => some (.u, plainFrame Kind.bondStart ([h] ++ bytes16 s ++ [u, w, k]))
  | .bondAbort h => some (.u, plainFrame Kind.bondAbort [h])
  | .touchdown h e z st => some (h.port, e.frame Kind.event ([0] ++ bytes16 z ++ [st]))
  | .lift h e => some (h.port, e.frame Kind.event [1])
  | .aborted h e => some (h.port, e.frame Kind.event [2])
  | .efoStart h e t => some (h.port, e.frame Kind.event ([3] ++ bytes16 t))
  | .efoEnd h e t => some (h.port, e.frame Kind.event ([4] ++ bytes16 t))
  | .headFault h e c => some (h.port, e.frame Kind.event [5, c])
  | .strayEvent h e c => some (h.port, e.frame Kind.event [c])
  | .sample h st xs => some (h.port, plainFrame Kind.sample
      ([st, BitVec.ofNat 8 xs.length] ++ writeTriples xs))
  | .indexStep s => some (.u, plainFrame Kind.index [0, bitByte 0 s])
  | .indexTransfer s => some (.u, plainFrame Kind.index [1, bitByte 0 s])
  | .indexDoneStep e c i o => some (.ix, e.frame Kind.indexDone [c, i, o])
  | .indexDoneTransfer e i o => some (.ix, e.frame Kind.indexDone [1, i, o])
  | .jam e x => some (.ix, e.frame Kind.jam [x])
  | .magInLoaded e c => some (.ix, e.frame Kind.magIn [0, c])
  | .magInRemoved e => some (.ix, e.frame Kind.magIn [1])
  | .magOutLoaded e c => some (.ix, e.frame Kind.magOut [0, c])
  | .magOutRemoved e => some (.ix, e.frame Kind.magOut [1])
  | .pullResult e s u w f m => some (.pt, e.frame Kind.pullResult
      (bytes16 s ++ [u, w] ++ bytes16 f ++ [m]))
  | .pullAbort e s => some (.pt, e.frame Kind.pullAbort (bytes16 s))
  | .keyPage x => some (.ot, plainFrame Kind.key [0, x])
  | .keyScrollUp => some (.ot, plainFrame Kind.key [1])
  | .keyScrollDown => some (.ot, plainFrame Kind.key [2])
  | .keyAck => some (.ot, plainFrame Kind.key [3])
  | .keyPause h m => some (.ot, plainFrame Kind.key [4, h, m])
  | .keyResume h => some (.ot, plainFrame Kind.key [5, h])
  | .keyRetry h => some (.ot, plainFrame Kind.key [6, h])
  | .keyRejectUnit h => some (.ot, plainFrame Kind.key [7, h])
  | .keyReleasePull h => some (.ot, plainFrame Kind.key [8, h])
  | .keyUnknown c => some (.ot, plainFrame Kind.key [c])
  | .managementRequestRefused k t op => managementFrame (if k = 3 then [k, t, op] else [k, t])
  | .tableWriteProgram t i w => managementFrame (writeWrite t 0 i writeProgramBody w)
  | .tableWriteDeviceType t i w =>
      managementFrame (writeWrite t 1 i (fun c => [c.columns, c.rows, c.map]) w)
  | .tableWriteMapLength t i w => managementFrame (writeWrite t 2 i bytes16 w)
  | .tableWriteMapEntries t i w =>
      managementFrame (writeWrite t 3 i (fun c => [c.1, c.2.1] ++ writeSlots c.2.2) w)
  | .tableWritePullPlan t i w => managementFrame (writeWrite t 4 i writePlanBody w)
  | .tableWritePullLimits t i w =>
      managementFrame (writeWrite t 5 i (fun c => bytes16 c.fMin ++ bytes16 c.fLift) w)
  | .tableWriteAction t i w =>
      managementFrame (writeWrite t 6 i (fun c => [c.level, c.rank, c.action]) w)
  | .tableWriteNode t i w => managementFrame (writeWrite t 7 i (fun c => [c.address, c.mask]) w)
  | .tableWriteUnknownTable t c => managementFrame [0, t, c, 0, 0]
  | .tableReadProgram t i => managementFrame [1, t, 0, i]
  | .tableReadDeviceType t i => managementFrame [1, t, 1, i]
  | .tableReadMapLength t i => managementFrame [1, t, 2, i]
  | .tableReadMapEntries t i f c => managementFrame [1, t, 3, i, f, c]
  | .tableReadPullPlan t i => managementFrame [1, t, 4, i]
  | .tableReadPullLimits t i => managementFrame [1, t, 5, i]
  | .tableReadAction t i => managementFrame [1, t, 6, i]
  | .tableReadNode t i => managementFrame [1, t, 7, i]
  | .tableReadSummary t => managementFrame [1, t, 8]
  | .tableReadPullStatus t => managementFrame [1, t, 9]
  | .tableReadAlarmList t i => managementFrame [1, t, 10, i]
  | .tableReadPortStatus t i => managementFrame [1, t, 11, i]
  | .tableReadPartStatus t => managementFrame [1, t, 12]
  | .tableReadUnknownTable t c => managementFrame [1, t, c, 0]
  | .recordFetchBond t f c => managementFrame ([2, t, 0, 0] ++ bytes32 f ++ [c])
  | .recordFetchTrace t h f c => managementFrame ([2, t, 1, h] ++ bytes32 f ++ [c])
  | .recordFetchPull t f c => managementFrame ([2, t, 2, 0] ++ bytes32 f ++ [c])
  | .recordFetchUnknownStore t s => managementFrame ([2, t, s, 0] ++ bytes32 0 ++ [0])
  | .controlRun t => controlFrame t 0 []
  | .controlConfig t => controlFrame t 1 []
  | .controlSupervision t x => controlFrame t 2 [x]
  | .controlSupplyLevel t x => controlFrame t 3 [x]
  | .controlInputType t x => controlFrame t 4 [x]
  | .controlIndexTimers t x y => controlFrame t 5 [x, y]
  | .controlMagStop t x y => controlFrame t 6 [x, bitByte 0 y]
  | .controlPause t h m => controlFrame t 7 [h, m]
  | .controlResume t h => controlFrame t 8 [h]
  | .controlRetry t h => controlFrame t 9 [h]
  | .controlRejectUnit t h => controlFrame t 10 [h]
  | .controlTraceCapture t h x => controlFrame t 11 [h, bitByte 0 x]
  | .controlTraceRelease t h => controlFrame t 12 [h]
  | .controlClearResults t h => controlFrame t 13 [h]
  | .controlPullTimer t x => controlFrame t 14 [x]
  | .controlPullCancel t => controlFrame t 15 []
  | .controlClearPullStats t h => controlFrame t 16 [h]
  | .controlReleasePull t h => controlFrame t 17 [h]
  | .controlScreenRefresh t x => controlFrame t 18 [x]
  | .controlPortEnable t p => controlFrame t 19 [p]
  | .controlPortDisable t p x => controlFrame t 20 [p, bitByte 0 x]
  | .controlPortRate t p x => controlFrame t 21 [p, x]
  | .controlLinkThreshold t x => controlFrame t 22 (bytes16 x)
  | .controlClearCounters t p => controlFrame t 23 [p]
  | .reset _ => managementFrame [4, 0]
  | .alarmAck t c o => managementFrame [5, t, c, o]
  | .alarmAckAll t => managementFrame [5, t, 0xFF]
  | .forceTest t => managementFrame [6, t]
  | .trackSet t b => managementFrame ([7, t] ++ writePosEntry b.entry ++ writePosEntry b.bond
      ++ writePosEntry b.pull ++ writePosEntry b.exit ++ [b.window])
  | .terminalLevel t x => managementFrame [8, t, x]
  | .keepalive t => managementFrame [9, t]
  | _ => none

end Sys2Proof
end

