-- ==== Sys2Proof/Machine/Types.lean ====
section
/-! DEFINITION. The data of every block of the part: the records of chapters 1 to 10, the frames that
the part builds, and the small enumerations that the manual writes in capitals. -/

namespace Sys2Proof.Machine

/-! ## Tables (chapters 1, 6, 7, 9) -/

inductive BondKind | ball | stitch
  deriving DecidableEq, Repr

/-- A force or ultrasonic segment: level or power, and duration in µs (R4). -/
structure Segment where
  level : Nat
  duration : Nat
  deriving DecidableEq, Repr

/-- The EFO part of a ball program (R4): window in µs, end timeout in ms. -/
structure EfoPart where
  tMin : Nat
  tMax : Nat
  timeout : Nat
  deriving DecidableEq, Repr

/-- A VALID program entry (R4). -/
structure Program where
  kind : BondKind
  force : List Segment
  us : List Segment
  window : Nat
  eMin : Nat
  eMax : Nat
  dNonstick : Nat
  dMin : Nat
  dMax : Nat
  iPeakMax : Nat
  efo : Option EfoPart
  rebond : Nat
  weakRun : Nat
  strict : Bool
  deriving DecidableEq, Repr

/-- A VALID device-type entry (R9). -/
structure DeviceType where
  columns : Nat
  rows : Nat
  map : Nat
  deriving DecidableEq, Repr

/-- A slot of a wire map (R13). -/
structure Slot where
  ball : Nat
  stitch : Nat
  loop : Nat
  skip : Bool
  deriving DecidableEq, Repr

/-- A wire map: its length and its 256 slots (R13). -/
structure WireMap where
  length : Nat
  slots : List Slot
  deriving DecidableEq, Repr

/-- A pull plan (R116). -/
structure PullPlan where
  interval : Nat
  units : List Nat
  wires : List Nat
  limit : Nat
  deriving DecidableEq, Repr

/-- The pull limits of a loop class (R117). -/
structure PullLimits where
  fMin : Nat
  fLift : Nat
  deriving DecidableEq, Repr

/-- The actions, in rising strength (R135). -/
inductive Action | note | holdHead | holdBoth | safeStop
  deriving DecidableEq, Repr

/-- An entry of the action table (R136). -/
structure ActionEntry where
  level : Nat
  rank : Nat
  action : Action
  deriving DecidableEq, Repr

/-- An entry of the node table (R176). -/
structure NodeEntry where
  address : Byte
  mask : Byte
  deriving DecidableEq, Repr

/-- The table memory (00, TABLE 1) with the node table of the router. -/
structure Tables where
  programs : List (Option Program)
  devices : List (Option DeviceType)
  maps : List WireMap
  plans : List PullPlan
  limits : List PullLimits
  actions : List ActionEntry
  nodes : List NodeEntry
  deriving DecidableEq, Repr

/-! ## The bond cycle controllers (chapter 2) -/

inductive HeadState | offline | idle | armed | inBond | aborting | hold
  deriving DecidableEq, Repr

inductive EfoStatus | none | timing | passed | failed
  deriving DecidableEq, Repr

inductive PauseMode | now | afterBond | afterUnit
  deriving DecidableEq, Repr

inductive BondClass | good | weak | overBond | nonstick | noData | aborted
  deriving DecidableEq, Repr

/-- The set of hold reasons of a head (R20, R43). -/
structure Holds where
  operator : Bool
  alarm : Bool
  safeStop : Bool
  link : Bool
  deriving DecidableEq, Repr

/-- The bond under construction (R20). -/
structure Bond where
  program : Nat
  kind : BondKind
  record : Nat
  strip : Nat
  unit : Nat
  wire : Nat
  attempt : Nat
  efo : Option Nat
  deriving DecidableEq, Repr

/-- The last bond fields (R20, R33). -/
structure LastBond where
  cls : BondClass
  kind : BondKind
  energy : Int
  deformation : Nat
  deriving DecidableEq, Repr

/-- The six result counters of a head (R80). -/
structure Results where
  good : Nat
  weak : Nat
  overBond : Nat
  nonstick : Nat
  noData : Nat
  aborted : Nat
  deriving DecidableEq, Repr

/-- The head context (R20). -/
structure HeadCtx where
  state : HeadState
  claim : Option Nat
  bond : Option Bond
  efo : EfoStatus
  efoStart : Option Nat
  efoTimer : Option Nat
  efoDuration : Option Nat
  pause : Option PauseMode
  holds : Holds
  abortTimer : Bool
  weakRun : Nat
  stray : Nat
  last : Option LastBond
  results : Results
  deriving DecidableEq, Repr

/-! ## The quality engines (chapter 3) -/

inductive EngineState | disarmed | armed | opened
  deriving DecidableEq, Repr

/-- The program limits loaded at arming (R48, R49). -/
structure Limits where
  kind : BondKind
  window : Nat
  eMin : Nat
  eMax : Nat
  dNonstick : Nat
  dMin : Nat
  dMax : Nat
  iPeakMax : Nat
  strict : Bool
  weakRun : Nat
  deriving DecidableEq, Repr

/-- A trace entry (R67); `beyond` is the mark BEYOND, its absence ACCUMULATED. -/
structure TraceEntry where
  position : Nat
  v : Int
  i : Int
  z : Nat
  beyond : Bool
  deriving DecidableEq, Repr

inductive RingState | following | frozen | released
  deriving DecidableEq, Repr

/-- A frozen trace (R69). -/
structure FrozenTrace where
  record : Nat
  cls : BondClass
  entries : List TraceEntry
  deriving DecidableEq, Repr

/-- The engine context (R48). -/
structure Engine where
  state : EngineState
  limits : Option Limits
  zTouch : Nat
  expected : Nat
  n : Nat
  energy : Int
  peak : Nat
  peakIndex : Nat
  zMin : Nat
  missing : Nat
  position : Nat
  gap : Bool
  long : Bool
  ring : List TraceEntry
  ringState : RingState
  frozen : Option FrozenTrace
  capture : Bool
  deriving DecidableEq, Repr

/-- What the engine hands over at a close (R66). -/
structure Figures where
  cls : BondClass
  energy : Int
  peak : Nat
  peakIndex : Nat
  deformation : Nat
  n : Nat
  missing : Nat
  limit : Bool
  gap : Bool
  long : Bool
  deriving DecidableEq, Repr

/-! ## The record store (chapter 4) -/

/-- The five flags of a bond record (R73, 11 TABLE 3). -/
structure BondFlags where
  limit : Bool
  gap : Bool
  long : Bool
  abortLate : Bool
  link : Bool
  deriving DecidableEq, Repr

/-- A bond record (R73). -/
structure BondRecord where
  number : Nat
  time : Nat
  head : Head
  strip : Nat
  unit : Nat
  wire : Nat
  kind : BondKind
  program : Nat
  attempt : Nat
  cls : BondClass
  energy : Int
  peak : Nat
  peakIndex : Nat
  deformation : Nat
  n : Nat
  missing : Nat
  flags : BondFlags
  efo : Option Nat
  pullRef : Option Nat
  pinned : Bool
  deriving DecidableEq, Repr

/-- The fetch in progress (R71), with the request tag that its replies carry (R179). -/
inductive Fetch where
  | bond (tag : Byte) (next remaining : Nat)
  | pull (tag : Byte) (next remaining : Nat)
  | trace (tag : Byte) (head : Head) (record next frames : Nat)
  deriving DecidableEq, Repr

/-- The record store (R71). -/
structure Store where
  records : List BondRecord
  nextRecord : Nat
  fetch : Option Fetch
  deriving DecidableEq, Repr

/-! ## Track and magazines (chapter 5) -/

inductive UnitState | pending | claimed (h : Head) | done | reject
  deriving DecidableEq, Repr

inductive Phase | ballDue | stitchDue
  deriving DecidableEq, Repr

/-- A unit record (R21); the cursor `none` is past the end. -/
structure UnitRecord where
  state : UnitState
  cursor : Option Nat
  phase : Phase
  rebond : Nat
  completed : Nat
  weakCount : Nat
  overCount : Nat
  deriving DecidableEq, Repr

inductive PullState | none | waiting | ordered | complete
  deriving DecidableEq, Repr

/-- A strip record (R87). -/
structure Strip where
  id : Nat
  device : Nat
  window : Nat
  units : List UnitRecord
  pullDue : Bool
  pullState : PullState
  passes : Nat
  fails : Nat
  deriving DecidableEq, Repr

inductive MagInState | absent | ready | exhausted
  deriving DecidableEq, Repr

inductive InSlot | unreached | taken | empty | stop
  deriving DecidableEq, Repr

/-- The input magazine (R91). -/
structure MagIn where
  state : MagInState
  count : Nat
  slots : List InSlot
  cursor : Nat
  deriving DecidableEq, Repr

inductive MagOutState | absent | ready | full
  deriving DecidableEq, Repr

inductive OutSlot | free | filled
  deriving DecidableEq, Repr

/-- The output magazine (R94). -/
structure MagOut where
  state : MagOutState
  count : Nat
  slots : List OutSlot
  cursor : Nat
  deriving DecidableEq, Repr

inductive IndexKind | step | transfer
  deriving DecidableEq, Repr

/-- The blocking reasons of a held request (R99). -/
structure GateReasons where
  claims : Bool
  pull : Bool
  output : Bool
  deriving DecidableEq, Repr

/-- The held request (R86). -/
structure HeldRequest where
  kind : IndexKind
  reasons : GateReasons
  deriving DecidableEq, Repr

/-- The request in flight (R86, R103). -/
structure FlightRequest where
  kind : IndexKind
  inSlot : Option Nat
  outSlot : Option Nat
  inChanged : Bool
  outChanged : Bool
  deriving DecidableEq, Repr

/-- The last delivered strip (R86). -/
structure Delivered where
  id : Nat
  done : Nat
  rejected : Nat
  deriving DecidableEq, Repr

/-- The track record (R86). -/
structure Track where
  entry : Option Strip
  bond : Option Strip
  pull : Option Strip
  exit : Option Strip
  known : Bool
  magIn : MagIn
  loadCount : Nat
  magOut : MagOut
  held : Option HeldRequest
  holdTimer : Option Nat
  inFlight : Option FlightRequest
  doneTimer : Option Nat
  inputType : Nat
  holdTimeout : Nat
  doneTimeout : Nat
  stripCounter : Nat
  taken : Nat
  introduced : Nat
  delivered : Nat
  dropped : Nat
  lastDelivered : Option Delivered
  deriving DecidableEq, Repr

/-! ## Pull testing (chapter 6) -/

/-- A task of the task list (R119). -/
structure Task where
  unit : Nat
  wire : Nat
  loop : Nat
  ballRecord : Nat
  ballHead : Head
  stitchRecord : Nat
  stitchHead : Head
  result : Option Nat
  deriving DecidableEq, Repr

/-- The current pull (R115). -/
structure CurrentPull where
  strip : Nat
  device : Nat
  tasks : List Task
  limit : Nat
  timedOut : Bool
  deriving DecidableEq, Repr

inductive PullMode | ballLift | ballNeck | midSpan | heel | stitchLift
  deriving DecidableEq, Repr

inductive Verdict | pass | fail | noResult
  deriving DecidableEq, Repr

/-- A pull record (R125). -/
structure PullRecord where
  number : Nat
  time : Nat
  strip : Nat
  unit : Nat
  wire : Nat
  loop : Nat
  force : Option Nat
  mode : Option PullMode
  verdict : Verdict
  head : Head
  ballRecord : Nat
  stitchRecord : Nat
  deriving DecidableEq, Repr

/-- The pull statistics of a head (R126); the mean is formed from them. -/
structure PullStats where
  passes : Nat
  fails : Nat
  noResults : Nat
  sum : Nat
  minimum : Option Nat
  deriving DecidableEq, Repr

/-- The last result (R115). -/
structure LastResult where
  verdict : Verdict
  force : Option Nat
  mode : Option PullMode
  deriving DecidableEq, Repr

/-- The pull controller (R115). -/
structure Puller where
  current : Option CurrentPull
  ordersQueued : Nat
  timer : Option Nat
  timeout : Nat
  log : List PullRecord
  nextPull : Nat
  statsA : PullStats
  statsB : PullStats
  runA : Nat
  runB : Nat
  stray : Nat
  last : Option LastResult
  deriving DecidableEq, Repr

/-! ## Alarms (chapter 7) -/

/-- The twenty fault classes, in the order of their codes (R135). -/
inductive AlarmClass
  | nonstickBall | nonstickStitch | weakRun | overBond | efoFault | sampleLoss | headFault
  | pullFail | rebondLimit | magInEmpty | magOutFull | indexStall | jam | trackUnknown
  | pullTimeout | linkLoss | linkError | supplyLow | tableInvalid | test
  deriving DecidableEq, Repr

/-- The objects of alarms (R135, 11 TABLE 17). -/
inductive AlarmObject | head (h : Head) | track | pullStation | port (p : Port) | part
  deriving DecidableEq, Repr

inductive AlarmState | activeUnacked | activeAcked | clearedUnacked
  deriving DecidableEq, Repr

/-- An entry of the alarm list (R137). -/
structure AlarmEntry where
  cls : AlarmClass
  obj : AlarmObject
  level : Nat
  rank : Nat
  action : Action
  seq : Nat
  count : Nat
  state : AlarmState
  deriving DecidableEq, Repr

/-- The alarm unit (R134). -/
structure Alarms where
  entries : List AlarmEntry
  lastSeq : Nat
  safeStop : Bool
  deriving DecidableEq, Repr

/-- What an ALARM-NOTE says happened (R145). -/
inductive NoteEvent | raised | acked | cleared | removed
  deriving DecidableEq, Repr

/-! ## The terminal server (chapter 8) -/

/-- The terminal server (R148). Page 0 is MACHINE; `denied` is the message DENIED. -/
structure Terminal where
  page : Nat
  scroll : Nat
  changed : List Nat
  clearPending : Bool
  screenQueued : Nat
  level : Nat
  denied : Bool
  refreshPeriod : Nat
  refreshTimer : Nat
  deriving DecidableEq, Repr

/-- A value shown on a field (R149, 08 TABLE 1). -/
inductive FieldValue where
  | absent
  | noSlot
  | pastEnd
  | emptyLine
  | num (n : Nat)
  | int (z : Int)
  | runState (running : Bool)
  | headState (x : HeadState)
  | trackState (known : Bool)
  | topAlarm (cls : AlarmClass) (obj : AlarmObject) (level : Nat) (state : AlarmState)
  | line (cls : AlarmClass) (obj : AlarmObject) (level : Nat) (state : AlarmState) (count : Nat)
  | message (denied : Bool)
  | holds (x : Holds)
  | pause (x : Option PauseMode)
  | phase (x : Phase)
  | efo (x : EfoStatus)
  | cls (x : BondClass)
  | pullState (x : PullState)
  | tasks (done total : Nat)
  | verdict (x : Verdict)
  | mode (x : PullMode)
  | magIn (x : MagInState)
  | magOut (x : MagOutState)
  | delivered (x : Delivered)
  deriving DecidableEq, Repr

inductive KeyOutcome | done | denied
  deriving DecidableEq, Repr

/-! ## The bond link (chapter 9) and management (chapter 10) -/

/-- Who began a wake (R161). -/
inductive WakeOrigin | localEnd | farEnd
  deriving DecidableEq, Repr

/-- The port state, with the wake origin while WAKING (R161). -/
inductive PortState | down | quiet | waking (origin : WakeOrigin) | live
  deriving DecidableEq, Repr

/-- The four rates: 6.25, 12.5, 25 and 50 Mbit/s (R161). -/
inductive Rate | r6 | r12 | r25 | r50
  deriving DecidableEq, Repr

/-- The counters of a port (R161): six error counters and the further counts. -/
structure Counters where
  crc : Nat
  framing : Nat
  overlong : Nat
  rxOverrun : Nat
  txDrop : Nat
  poisoned : Nat
  wakeFail : Nat
  holdExpired : Nat
  unrouted : Nat
  sourceError : Nat
  deriving DecidableEq, Repr

/-- The marks of the reset cause record (R182). -/
structure ResetCause where
  power : Bool
  supply : Bool
  pin : Bool
  command : Bool
  deriving DecidableEq, Repr

/-- The four counts of the table state (R19). -/
structure TableState where
  programs : Nat
  devices : Nat
  maps : Nat
  usable : Nat
  deriving DecidableEq, Repr

/-- The reason codes 1 to 27, in their order (11 TABLE 23). -/
inductive Reason
  | unknownTable | range | inUse | inconsistent | invalid | busy | notRunning | portDown | held
  | moving | noStrip | strip | unitRange | unitClosed | claimed | otherUnit | outOfOrder | phase
  | table | noBall | queueFull | unknown | stopped | empty | endOfStrip | unitsOpen | timedOut
  deriving DecidableEq, Repr

/-- The outcome of a CONTROL-REPLY (R179, 11 TABLE 22). -/
inductive Reply | accepted | clamped | refused (r : Reason) | cancelled
  deriving DecidableEq, Repr

/-- The answer for one number of a BOND fetch (R83). -/
inductive BondItem where
  | record (r : BondRecord)
  | gone (number : Nat)
  | notYet (number : Nat)
  deriving DecidableEq, Repr

/-- The answer for one number of a PULL fetch (R133). -/
inductive PullItem where
  | record (r : PullRecord)
  | gone (number : Nat)
  | notYet (number : Nat)
  deriving DecidableEq, Repr

/-- The answer of one frame of a TRACE fetch (R84). -/
inductive TraceAnswer where
  | entries (trace : FrozenTrace) (place : Nat) (shown : List TraceEntry)
  | gone (frozenRecord : Nat)
  | notYet (fetchRecord : Nat)
  deriving DecidableEq, Repr

/-- The statistics of a head as PULL-STATUS shows them (R133). -/
structure PullHeadStatus where
  stats : PullStats
  mean : Option Nat
  run : Nat
  deriving DecidableEq, Repr

/-- The current pull as PULL-STATUS shows it (R133). -/
structure PullNow where
  strip : Nat
  state : PullState
  tasks : Nat
  results : Nat
  ordersQueued : Nat
  deriving DecidableEq, Repr

/-- The contents of a READ-REPLY (R3, R116, R117, R133, R136, R147, R176, R177, R179). -/
inductive ReadContents where
  | program (p : Option Program)
  | device (d : Option DeviceType) (unitCount : Nat)
  | mapLength (length wires : Nat) (valid : Bool)
  | mapEntries (first : Nat) (slots : List Slot)
  | summary (t : TableState)
  | pullPlan (p : PullPlan)
  | pullLimits (l : PullLimits)
  | pullStatus (now : Option PullNow) (held next : Nat) (a b : PullHeadStatus) (stray timeout : Nat)
  | action (e : ActionEntry) (minimum : Action)
  | alarmList (count : Nat) (safeStop : Bool) (entries : List AlarmEntry)
  | node (e : NodeEntry)
  | portStatus (state : PortState) (enabled : Bool) (rate : Rate) (rx urgent normal : Nat)
      (hoSent hoReceived : Bool) (count : Counters)
  | partStatus (running : Bool) (time : Nat) (cause : ResetCause) (supervision : Nat)
      (supTimer : Option Nat) (warnHigh supplyLow : Bool) (own : Byte) (rate : Rate)
  deriving DecidableEq, Repr

/-- The frames that stand in transmit queues: those the part builds, by their fields, a forwarded
frame as received, and a pass-through copy whose inbound frame has not ended (R174). -/
inductive Msg where
  | bondOrder (kind : BondKind) (force us : List Segment) (window record : Nat)
  | abort
  | bondRefused (head : Byte) (strip : W16) (unit wire : Byte) (r : Reason)
  | bondReport (record : Nat) (head : Head) (unit wire : Nat) (kind : BondKind) (cls : BondClass)
      (energy : Int) (deformation : Nat) (flags : BondFlags)
  | index (kind : IndexKind) (inSlot outSlot : Option Nat)
  | indexRefused (kind : IndexKind) (r : Reason)
  | freeze
  | stripReport (id : Nat) (outSlot : Option Nat) (done rejected weaks overs passes fails : Nat)
  | pullOrder (strip : Nat) (tasks : List (Nat × Nat × Nat))
  | pullReport (number : Nat) (verdict : Verdict) (force : Option Nat) (mode : Option PullMode)
  | screenClear (page : Nat)
  | screenUpdate (page : Nat) (fields : List (Nat × FieldValue))
  | keyNote (code page mode : Byte) (outcome : KeyOutcome)
  | alarmNote (cls : AlarmClass) (obj : AlarmObject) (level : Nat) (what : NoteEvent)
  | started (cause : ResetCause) (running : Bool) (tables : TableState) (own : Byte)
  | controlReply (kind tag : Byte) (outcome : Reply)
  | readReply (tag code index : Byte) (contents : ReadContents)
  | bondReply (tag : Byte) (items : List BondItem)
  | pullReply (tag : Byte) (items : List PullItem)
  | traceReply (tag : Byte) (answer : TraceAnswer)
  | forwarded (f : Frame)
  | arriving (h : Header)
  deriving DecidableEq, Repr

/-- An entry of a transmit queue: its frame, its class on port U (URGENT or NORMAL, R172), and
whether it has begun on the line. -/
structure TxEntry where
  msg : Msg
  urgent : Bool
  begun : Bool
  deriving DecidableEq, Repr

/-- An entry of a receive queue (R170); `body` is the payload once the frame is whole. -/
structure RxEntry where
  hdr : Header
  body : Option (List Byte)
  deriving DecidableEq, Repr

/-- What becomes of the frame being received: kept in its receive queue entry, passed through to
copies (R173 steps 3 and 4), dropped by the router (UNROUTED), discarded as RX-OVERRUN, or counted
OVERLONG at its header and passed over (R162). -/
inductive RxFate | stored | passing | dropped | overrun | passedOver
  deriving DecidableEq, Repr

/-- The frame being received on a port. -/
structure Receiving where
  hdr : Header
  fate : RxFate
  deriving DecidableEq, Repr

/-- A link control frame (R170). -/
inductive LinkControl | holdOff | go
  deriving DecidableEq, Repr

/-- The state of a port (R161) with its line-ready input. -/
structure PortRec where
  state : PortState
  enabled : Bool
  lineReady : Bool
  rate : Rate
  rx : List RxEntry
  receiving : Option Receiving
  tx : List TxEntry
  control : List LinkControl
  hoSent : Bool
  hoReceived : Bool
  sleepTimer : Bool
  retryTimer : Bool
  count : Counters
  deriving DecidableEq, Repr

/-- The six ports. -/
structure Ports where
  u : PortRec
  ha : PortRec
  hb : PortRec
  ix : PortRec
  pt : PortRec
  ot : PortRec
  deriving DecidableEq, Repr

/-- The management unit (chapter 10) with the supply monitor and the reset inputs. -/
structure Mgmt where
  run : Bool
  time : Nat
  cause : ResetCause
  supervision : Nat
  supTimer : Option Nat
  started : Bool
  own : Byte
  linkThreshold : Nat
  supplyLow : Bool
  warnHigh : Bool
  supplyMv : Nat
  powerMark : Bool
  supplyDown : Bool
  pinLow : Bool
  deriving DecidableEq, Repr

end Sys2Proof.Machine
end

