-- ==== Sys2Proof/Machine/Flags.lean ====
section
/-! DEFINITION. The figures, flags and class of a bond: energy with its rounding and the flag LIMIT
(R60), deformation (R61), class (R62) and the flag bits of records (11 TABLE 3). -/

namespace Sys2Proof.Machine

/-- R60: e / 4096 rounded to the nearest integer, halves to the even one, from the exact quotient. -/
def roundEnergy (e : Int) : Int :=
  let q := e / 4096
  let r := e % 4096
  if r < 2048 then q else if 2048 < r then q + 1 else if q % 2 = 0 then q else q + 1

/-- R60: the energy figure, clamped to its range. -/
def energyFigure (e : Int) : Int := max (-8388608) (min (roundEnergy e) 8388607)

/-- R60: LIMIT is set when the clamp changed the value. -/
def energyLimit (e : Int) : Bool := energyFigure e != roundEnergy e

/-- R61: the deformation, 0 when z_min is not below z_td. -/
def deformation (zTouch zMin : Nat) : Nat := zTouch - zMin

/-- R62, rows 2 to 6: the class of a bond closed by LIFT. -/
def liftClass (l : Limits) (n : Nat) (q : Int) (limit : Bool) (peak d : Nat) (gap long : Bool) :
    BondClass :=
  if n = 0 then .noData
  else if d < l.dNonstick then .nonstick
  else if limit || (l.eMax : Int) < q || l.iPeakMax < peak || l.dMax < d then .overBond
  else if q < (l.eMin : Int) || d < l.dMin || (l.strict && (gap || long)) then .weak
  else .good

/-- 11 TABLE 3: the flag bits of a bond record. -/
def BondFlags.bits (f : BondFlags) : Nat :=
  f.limit.toNat + 2 * f.gap.toNat + 4 * f.long.toNat + 8 * f.abortLate.toNat + 16 * f.link.toNat

/-- R80: the counter of a class rises by 1, saturating. -/
def Results.countClass (r : Results) : BondClass → Results
  | .good => { r with good := satAdd maxU16 r.good 1 }
  | .weak => { r with weak := satAdd maxU16 r.weak 1 }
  | .overBond => { r with overBond := satAdd maxU16 r.overBond 1 }
  | .nonstick => { r with nonstick := satAdd maxU16 r.nonstick 1 }
  | .noData => { r with noData := satAdd maxU16 r.noData 1 }
  | .aborted => { r with aborted := satAdd maxU16 r.aborted 1 }

end Sys2Proof.Machine
end

