-- ==== Sys2Proof/Machine/Initial.lean ====
section
/-! DEFINITION. The value that each block takes after a POWER-ON reset, and the default tables:
the reset columns of R18, R20, R48, R71, R86, R115, R134, R148, R161, R182. -/

namespace Sys2Proof.Machine

/-- R13: the cleared slot. -/
def Slot.cleared : Slot := ⟨0, 0, 0, true⟩

/-- R18: a map of length 0 with every slot the cleared slot. -/
def WireMap.cleared : WireMap := ⟨0, List.replicate 256 Slot.cleared⟩

/-- R116: the default pull plan. -/
def PullPlan.default : PullPlan := ⟨0, [], [], 3⟩

/-- R117: the default pull limits. -/
def PullLimits.default : PullLimits := ⟨30, 40⟩

/-- R135, TABLE 1: the default level, rank and action of a class. -/
def AlarmClass.default : AlarmClass → ActionEntry
  | .nonstickBall => ⟨5, 6, .holdHead⟩
  | .nonstickStitch => ⟨5, 5, .holdHead⟩
  | .weakRun => ⟨4, 4, .holdHead⟩
  | .overBond => ⟨3, 4, .note⟩
  | .efoFault => ⟨5, 7, .holdHead⟩
  | .sampleLoss => ⟨3, 2, .note⟩
  | .headFault => ⟨6, 6, .holdHead⟩
  | .pullFail => ⟨6, 3, .holdHead⟩
  | .rebondLimit => ⟨4, 6, .note⟩
  | .magInEmpty => ⟨2, 5, .note⟩
  | .magOutFull => ⟨3, 6, .note⟩
  | .indexStall => ⟨4, 2, .note⟩
  | .jam => ⟨7, 5, .safeStop⟩
  | .trackUnknown => ⟨4, 7, .holdBoth⟩
  | .pullTimeout => ⟨3, 3, .note⟩
  | .linkLoss => ⟨7, 7, .safeStop⟩
  | .linkError => ⟨2, 2, .note⟩
  | .supplyLow => ⟨6, 7, .note⟩
  | .tableInvalid => ⟨4, 5, .holdBoth⟩
  | .test => ⟨1, 0, .note⟩

/-- The twenty classes in the order of their codes (R135). -/
def AlarmClass.all : List AlarmClass :=
  [.nonstickBall, .nonstickStitch, .weakRun, .overBond, .efoFault, .sampleLoss, .headFault,
   .pullFail, .rebondLimit, .magInEmpty, .magOutFull, .indexStall, .jam, .trackUnknown,
   .pullTimeout, .linkLoss, .linkError, .supplyLow, .tableInvalid, .test]

/-- 09 TABLE 1: the node table defaults, in the order HA, HB, IX, PT, OT. -/
def nodeDefaults : List NodeEntry :=
  [⟨0x20, 0xFF⟩, ⟨0x30, 0xFF⟩, ⟨0x40, 0xF0⟩, ⟨0x50, 0xFF⟩, ⟨0x60, 0xFF⟩]

/-- R18, R116, R117, R136, R176: the tables after a POWER-ON, PIN or SUPPLY reset. -/
def Tables.initial : Tables where
  programs := List.replicate 32 none
  devices := List.replicate 8 none
  maps := List.replicate 8 WireMap.cleared
  plans := List.replicate 8 PullPlan.default
  limits := List.replicate 4 PullLimits.default
  actions := AlarmClass.all.map AlarmClass.default
  nodes := nodeDefaults

def Results.zero : Results := ⟨0, 0, 0, 0, 0, 0⟩

/-- R20: the head context after every reset, before the alarm unit lists TRACK-UNKNOWN. -/
def HeadCtx.initial : HeadCtx where
  state := .offline
  claim := none
  bond := none
  efo := .none
  efoStart := none
  efoTimer := none
  efoDuration := none
  pause := none
  holds := ⟨false, false, false, true⟩
  abortTimer := false
  weakRun := 0
  stray := 0
  last := none
  results := Results.zero

/-- R48: the engine context after every reset. -/
def Engine.initial : Engine where
  state := .disarmed
  limits := none
  zTouch := 0
  expected := 0
  n := 0
  energy := 0
  peak := 0
  peakIndex := 0
  zMin := 65535
  missing := 0
  position := 0
  gap := false
  long := false
  ring := []
  ringState := .following
  frozen := none
  capture := false

/-- R71: the record store after a POWER-ON, PIN or SUPPLY reset. -/
def Store.initial : Store := ⟨[], 1, none⟩

/-- R91: an absent input magazine. The cursor of an absent magazine is the model's (log 9). -/
def MagIn.absent : MagIn := ⟨.absent, 0, List.replicate 40 .unreached, 1⟩

/-- R94: an absent output magazine. The cursor of an absent magazine is the model's (log 9). -/
def MagOut.absent : MagOut := ⟨.absent, 0, List.replicate 40 .free, 1⟩

/-- R86: the track record after a POWER-ON, PIN or SUPPLY reset. -/
def Track.initial : Track where
  entry := none
  bond := none
  pull := none
  exit := none
  known := false
  magIn := MagIn.absent
  loadCount := 0
  magOut := MagOut.absent
  held := none
  holdTimer := none
  inFlight := none
  doneTimer := none
  inputType := 0
  holdTimeout := 50
  doneTimeout := 30
  stripCounter := 0
  taken := 0
  introduced := 0
  delivered := 0
  dropped := 0
  lastDelivered := none

/-- R126: cleared pull statistics. -/
def PullStats.cleared : PullStats := ⟨0, 0, 0, 0, none⟩

/-- R115: the pull controller after a POWER-ON, PIN or SUPPLY reset. -/
def Puller.initial : Puller where
  current := none
  ordersQueued := 0
  timer := none
  timeout := 60
  log := []
  nextPull := 1
  statsA := PullStats.cleared
  statsB := PullStats.cleared
  runA := 0
  runB := 0
  stray := 0
  last := none

/-- R134: the alarm unit after a reset, before TRACK-UNKNOWN is listed. -/
def Alarms.initial : Alarms := ⟨[], 0, false⟩

/-- R148: the terminal server after a POWER-ON, PIN or SUPPLY reset. -/
def Terminal.initial : Terminal where
  page := 0
  scroll := 0
  changed := []
  clearPending := false
  screenQueued := 0
  level := 0
  denied := false
  refreshPeriod := 5
  refreshTimer := 5

def Counters.zero : Counters := ⟨0, 0, 0, 0, 0, 0, 0, 0, 0, 0⟩

/-- R161: a port after a reset, with its enabled mark, line-ready input and rate. -/
def PortRec.afterReset (enabled lineReady : Bool) (rate : Rate) : PortRec where
  state := .down
  enabled := enabled
  lineReady := lineReady
  rate := rate
  rx := []
  receiving := none
  tx := []
  control := []
  hoSent := false
  hoReceived := false
  sleepTimer := false
  retryTimer := false
  count := Counters.zero

/-- R187: the rate of port U by the rate straps. -/
def strapRate (x : Straps) : Rate :=
  match x.rateFirst, x.rateSecond with
  | false, false => .r6
  | true, false => .r12
  | false, true => .r25
  | true, true => .r50

/-- R187: the own address, 0xE0 plus the value of the address straps. -/
def strapOwn (x : Straps) : Byte := 0xE0 + x.address.setWidth 8

end Sys2Proof.Machine
end

