-- ==== Sys2Proof/Machine/Operands.lean ====
section
/-! DEFINITION. What the bytes of a command name: heads, ports, modes, slots, classes and objects
by the codes of chapter 11, and the clamping of numeric fields (R1 step 4). -/

namespace Sys2Proof.Machine

/-- 11 TABLE 3: the head that a head field names. -/
def headOf (x : Byte) : Option Head :=
  if x = 0 then some .a else if x = 1 then some .b else none

/-- 11 TABLE 20: the heads that a head field names where 2 stands for BOTH. -/
def headsOf (x : Byte) : Option (List Head) :=
  if x = 0 then some [.a] else if x = 1 then some [.b] else if x = 2 then some [.a, .b] else none

/-- The ports in the order of their codes (11.7). -/
def allPorts : List Port := [.u, .ha, .hb, .ix, .pt, .ot]

/-- The downstream ports in the order of R173 step 4. -/
def downstream : List Port := [.ha, .hb, .ix, .pt, .ot]

/-- 11.7: the port that a port code names. -/
def portOf (x : Byte) : Option Port := allPorts[x.toNat]?

/-- 11.7: the downstream port that a port code names. -/
def downstreamOf (x : Byte) : Option Port := (portOf x).filter (· ≠ .u)

/-- 11.7: the code of a port. -/
def portCode : Port → Nat
  | .u => 0
  | .ha => 1
  | .hb => 2
  | .ix => 3
  | .pt => 4
  | .ot => 5

/-- 11 TABLE 3: the bond kind of a kind byte. -/
def bondKindOf (x : Byte) : Option BondKind :=
  if x = 0 then some .ball else if x = 1 then some .stitch else none

/-- 11 TABLE 16: the mode of a PAUSE. -/
def pauseModeOf (x : Byte) : Option PauseMode :=
  if x = 0 then some .now else if x = 1 then some .afterBond
  else if x = 2 then some .afterUnit else none

/-- 11 TABLE 3: the mode of a pull. -/
def pullModeOf (x : Byte) : Option PullMode :=
  [.ballLift, .ballNeck, .midSpan, .heel, .stitchLift][x.toNat]?

/-- 11 TABLE 19: the action of an action byte. -/
def actionOf (x : Byte) : Option Action := [.note, .holdHead, .holdBoth, .safeStop][x.toNat]?

/-- 11 TABLE 20: the rate of a rate code. -/
def rateOf (x : Byte) : Option Rate := [.r6, .r12, .r25, .r50][x.toNat]?

/-- 11.6: a slot field carries 0 for NONE. -/
def slotOf (x : Byte) : Option Nat := if x = 0 then none else some x.toNat

/-- R135: the class of a class code. -/
def classOf (x : Byte) : Option AlarmClass := AlarmClass.all[x.toNat]?

/-- 11 TABLE 17: the objects in the order of their codes. -/
def allObjects : List AlarmObject :=
  [.head .a, .head .b, .track, .pullStation, .port .u, .port .ix, .port .pt, .port .ot, .part]

/-- 11 TABLE 17: the object of an object code. -/
def objectOf (x : Byte) : Option AlarmObject := allObjects[x.toNat]?

/-- R135, TABLE 1: the objects of a class. -/
def AlarmClass.objects : AlarmClass → List AlarmObject
  | .magInEmpty | .magOutFull | .indexStall | .jam | .trackUnknown => [.track]
  | .pullTimeout => [.pullStation]
  | .linkLoss => [.port .u]
  | .linkError => [.port .u, .port .ix, .port .pt, .port .ot]
  | .supplyLow | .tableInvalid | .test => [.part]
  | _ => [.head .a, .head .b]

/-- R135: the classes whose objects are the heads. -/
def AlarmClass.ofHeads (c : AlarmClass) : Bool := c.objects == [.head .a, .head .b]

/-- R135, TABLE 1: the minimum action of a class. -/
def AlarmClass.minimum : AlarmClass → Action
  | .jam | .linkLoss => .safeStop
  | _ => .note

/-- R135: the classes by their codes. -/
def AlarmClass.code (c : AlarmClass) : Nat := AlarmClass.all.idxOf c

/-- R135: the actions rise in strength in this order. -/
def Action.strength : Action → Nat
  | .note => 0
  | .holdHead => 1
  | .holdBoth => 2
  | .safeStop => 3

/-- R1 step 4: a value below the range becomes its lowest value, one above it its highest. -/
def clampTo (lo hi n : Nat) : Nat := max lo (min n hi)

/-- Two's complement (11.1): a 16-bit number as signed. -/
def signed16 (x : W16) : Int := x.toInt

end Sys2Proof.Machine
end

