-- ==== Sys2Proof/Machine/State.lean ====
section
/-! DEFINITION. The state of the part with the queue of waiting commands, the reasons a step could
stop for, and the machine right after a POWER-ON reset. -/

namespace Sys2Proof.Machine

/-- Faults. No meaning of this model raises one: the spec gives every command an effect, and what
the manual calls faults are entries of the alarm list. -/
inductive Fault where
  /-- Kept so that the type has a name; raised by nobody, hence safe. -/
  | neverRaised
  deriving DecidableEq, Repr

/-- Refusals. -/
inductive Refusal where
  /-- Raised by an arm of `exec` whose command has no meaning yet (there is none); stopping is safe. -/
  | notModelled (mnemonic : String)
  deriving DecidableEq, Repr

/-- The state of the part, block by block (00, TABLE 1), and the commands that wait. -/
structure State where
  tables : Tables
  headA : HeadCtx
  headB : HeadCtx
  engineA : Engine
  engineB : Engine
  store : Store
  track : Track
  puller : Puller
  alarms : Alarms
  term : Terminal
  ports : Ports
  mgmt : Mgmt
  pending : List Instr
  deriving DecidableEq, Repr

/-- The straps as State.reset assumes them: all low (log 8). -/
def strapsAssumed : Straps := ⟨0, false, false⟩

/-- R161: the ports after a POWER-ON reset; the line-ready inputs are assumed not ready (log 8). -/
def Ports.initial : Ports where
  u := PortRec.afterReset true false (strapRate strapsAssumed)
  ha := PortRec.afterReset false false .r25
  hb := PortRec.afterReset false false .r25
  ix := PortRec.afterReset false false .r25
  pt := PortRec.afterReset false false .r25
  ot := PortRec.afterReset false false .r25

/-- R182, R185 to R188: the management unit after a POWER-ON reset; the supply is assumed at its
nominal 3.3 V (log 8). -/
def Mgmt.initial : Mgmt where
  run := false
  time := 0
  cause := ⟨true, true, false, false⟩
  supervision := 0
  supTimer := none
  started := false
  own := strapOwn strapsAssumed
  linkThreshold := 100
  supplyLow := false
  warnHigh := false
  supplyMv := 3300
  powerMark := true
  supplyDown := false
  pinLow := false

/-- R90, R134: TRACK-UNKNOWN as it is listed after a reset with the default action table. -/
def AlarmEntry.trackUnknownAtReset : AlarmEntry :=
  ⟨.trackUnknown, .track, 4, 7, .holdBoth, 1, 1, .activeUnacked⟩

/-- R20, R134: a head after a reset, LINK with the ALARM that TRACK-UNKNOWN's HOLD-BOTH adds. -/
def HeadCtx.afterReset : HeadCtx := { HeadCtx.initial with holds := ⟨false, true, false, true⟩ }

/-- The machine right after a POWER-ON reset (R182), with no command waiting. -/
def State.reset : State where
  tables := Tables.initial
  headA := HeadCtx.afterReset
  headB := HeadCtx.afterReset
  engineA := Engine.initial
  engineB := Engine.initial
  store := Store.initial
  track := Track.initial
  puller := Puller.initial
  alarms := ⟨[AlarmEntry.trackUnknownAtReset], 1, false⟩
  term := Terminal.initial
  ports := Ports.initial
  mgmt := Mgmt.initial
  pending := []

end Sys2Proof.Machine
end

