-- ==== Sys2Proof/Machine/Ops.lean ====
section
/-! DEFINITION. The shared operations over the parts of the state: reading and writing one port or
one head, counting, and the queues of a port with the link control frames (R161, R164, R166, R170 to
R172). -/

namespace Sys2Proof.Machine

/-! ## One port of six, one head of two -/

def Ports.get (ps : Ports) : Port → PortRec
  | .u => ps.u
  | .ha => ps.ha
  | .hb => ps.hb
  | .ix => ps.ix
  | .pt => ps.pt
  | .ot => ps.ot

def Ports.set (ps : Ports) (x : Port) (p : PortRec) : Ports :=
  match x with
  | .u => { ps with u := p }
  | .ha => { ps with ha := p }
  | .hb => { ps with hb := p }
  | .ix => { ps with ix := p }
  | .pt => { ps with pt := p }
  | .ot => { ps with ot := p }

/-- Port `x` changed by `f`. -/
def Ports.update (ps : Ports) (x : Port) (f : PortRec → PortRec) : Ports := ps.set x (f (ps.get x))

def State.port (s : State) (x : Port) : PortRec := s.ports.get x

def State.updatePort (s : State) (x : Port) (f : PortRec → PortRec) : State :=
  { s with ports := s.ports.update x f }

def State.head (s : State) : Head → HeadCtx
  | .a => s.headA
  | .b => s.headB

def State.setHead (s : State) (h : Head) (c : HeadCtx) : State :=
  match h with
  | .a => { s with headA := c }
  | .b => { s with headB := c }

def State.updateHead (s : State) (h : Head) (f : HeadCtx → HeadCtx) : State := s.setHead h (f (s.head h))

def State.engine (s : State) : Head → Engine
  | .a => s.engineA
  | .b => s.engineB

def State.setEngine (s : State) (h : Head) (e : Engine) : State :=
  match h with
  | .a => { s with engineA := e }
  | .b => { s with engineB := e }

def State.updateEngine (s : State) (h : Head) (f : Engine → Engine) : State :=
  s.setEngine h (f (s.engine h))

def Puller.stats (p : Puller) : Head → PullStats
  | .a => p.statsA
  | .b => p.statsB

def Puller.setStats (p : Puller) (h : Head) (x : PullStats) : Puller :=
  match h with
  | .a => { p with statsA := x }
  | .b => { p with statsB := x }

def Puller.run (p : Puller) : Head → Nat
  | .a => p.runA
  | .b => p.runB

def Puller.setRun (p : Puller) (h : Head) (n : Nat) : Puller :=
  match h with
  | .a => { p with runA := n }
  | .b => { p with runB := n }

def otherHead : Head → Head
  | .a => .b
  | .b => .a

/-- R182: the part is held in reset: the reset pin is low or the supply is below the reset level. -/
def State.inReset (s : State) : Bool := s.mgmt.pinLow || s.mgmt.supplyDown

/-! ## Counters of a port -/

def Counters.addTxDrop (c : Counters) (n : Nat) : Counters := { c with txDrop := satAdd maxU16 c.txDrop n }
def Counters.addRxOverrun (c : Counters) (n : Nat) : Counters :=
  { c with rxOverrun := satAdd maxU16 c.rxOverrun n }
def Counters.addPoisoned (c : Counters) (n : Nat) : Counters :=
  { c with poisoned := satAdd maxU16 c.poisoned n }
def Counters.addWakeFail (c : Counters) : Counters := { c with wakeFail := satAdd maxU16 c.wakeFail 1 }
def Counters.addUnrouted (c : Counters) : Counters := { c with unrouted := satAdd maxU16 c.unrouted 1 }

/-! ## Queues and flow control -/

def Rate.index : Rate → Nat
  | .r6 => 0
  | .r12 => 1
  | .r25 => 2
  | .r50 => 3

/-- R172: the NORMAL frames that stand in a transmit queue. -/
def PortRec.normals (p : PortRec) : Nat := (p.tx.filter fun e => !e.urgent).length

/-- R172: the URGENT frames that stand in a transmit queue. -/
def PortRec.urgents (p : PortRec) : Nat := (p.tx.filter fun e => e.urgent).length

/-- R172: room for a frame of this class in the transmit queue of port `x`. -/
def PortRec.hasRoom (p : PortRec) (x : Port) (urgent : Bool) : Bool :=
  p.tx.length < Config.queueDepth && (x != .u || urgent || p.normals < Config.normalDepth)

/-- R172: the place of the frame to send next: the oldest URGENT one, else the oldest. Frames of the
downstream ports are never URGENT. -/
def nextPlace (l : List TxEntry) : Option Nat :=
  match l.findIdx? (fun e => e.urgent) with
  | some k => some k
  | none => if l.isEmpty then none else some 0

/-- R174: a frame may begin; a copy whose inbound frame is still arriving only when the outbound rate
is not greater than the rate of port U. -/
def mayBegin (rateU : Rate) (p : PortRec) (e : TxEntry) : Bool :=
  match e.msg with
  | .arriving _ => p.rate.index ≤ rateU.index
  | _ => true

/-- R171, R172: the next frame begins on the line when the port is LIVE and not held off and the line
is free. -/
def PortRec.kick (p : PortRec) (rateU : Rate) : PortRec :=
  if p.state = .live ∧ p.hoReceived = false ∧ p.control = [] ∧ p.tx.all (fun e => !e.begun) then
    match nextPlace p.tx with
    | none => p
    | some k =>
      match p.tx[k]? with
      | none => p
      | some e =>
        if mayBegin rateU p e then
          { p with tx := p.tx.set k { e with begun := true }, sleepTimer := false }
        else p
  else p

/-- R166: the sleep timer starts when the line of a LIVE port falls still with nothing to send. -/
def PortRec.rest (p : PortRec) : PortRec :=
  if p.state = .live ∧ p.tx = [] ∧ p.control = [] ∧ p.receiving = none then
    { p with sleepTimer := true }
  else p

/-- R170: HOLD-OFF is sent when 6 entries are taken. -/
def PortRec.sendHoldOff (p : PortRec) : PortRec :=
  if p.state = .live ∧ p.hoSent = false ∧ Config.holdOffMark ≤ p.rx.length then
    { p with control := p.control ++ [.holdOff], hoSent := true, sleepTimer := false }
  else p

/-- R170: GO is sent when the taken entries have fallen to 3 or fewer. -/
def PortRec.sendGo (p : PortRec) : PortRec :=
  if p.state = .live ∧ p.hoSent = true ∧ p.rx.length ≤ Config.goMark then
    { p with control := p.control ++ [.go], hoSent := false, sleepTimer := false }
  else p

/-- R164, R172: a frame is queued on port `x`; a DOWN port or a full queue drops it. A QUIET port
wakes. -/
def PortRec.enqueue (p : PortRec) (x : Port) (rateU : Rate) (urgent : Bool) (m : Msg) : PortRec :=
  if p.state = .down ∨ p.hasRoom x urgent = false then { p with count := p.count.addTxDrop 1 }
  else
    let q := { p with tx := p.tx ++ [TxEntry.mk m urgent false], sleepTimer := false }
    if p.state = .quiet then { q with state := .waking .localEnd } else q.kick rateU

/-- A frame is queued on port `x`. -/
def Ports.enqueue (ps : Ports) (x : Port) (urgent : Bool) (m : Msg) : Ports :=
  ps.update x fun p => p.enqueue x ps.u.rate urgent m

/-- A NORMAL frame is queued on port `x`. -/
def State.send (s : State) (x : Port) (m : Msg) : State :=
  { s with ports := s.ports.enqueue x false m }

/-- R175: the frame that a command spells is queued on port U as received, NORMAL. -/
def State.forward (s : State) (c : Instr) : State :=
  match frameOf c with
  | none => s
  | some y => s.send .u (.forwarded y.2)

/-- R179: a CONTROL-REPLY is queued on port U. -/
def State.reply (s : State) (kind tag : Byte) (r : Reply) : State :=
  s.send .u (.controlReply kind tag r)

/-- R179: a READ-REPLY is queued on port U. -/
def State.readReply (s : State) (tag code index : Byte) (x : ReadContents) : State :=
  s.send .u (.readReply tag code index x)

/-! ## Taking a frame from a receive queue -/

/-- The list without its first element that satisfies `f`. -/
def dropFirst {α : Type} (f : α → Bool) : List α → List α
  | [] => []
  | x :: l => if f x then l else x :: dropFirst f l

/-- The frame of a whole entry. -/
def RxEntry.frame (e : RxEntry) : Option Frame :=
  e.body.map fun l => ⟨e.hdr.dst, e.hdr.src, e.hdr.kind, l⟩

/-- R170: the oldest whole frame of a receive queue, the one to be handed on next. -/
def PortRec.oldest (p : PortRec) : Option Frame := p.rx.findSome? RxEntry.frame

/-- R170: the entry of the oldest whole frame is freed, and GO is sent where it is due. -/
def PortRec.freeOldest (p : PortRec) : PortRec :=
  ({ p with rx := dropFirst (fun e => e.body.isSome) p.rx } : PortRec).sendGo

/-- The strap pins that a command carries; they matter to RESET alone. -/
def commandPins : Instr → Straps
  | .reset x => x
  | _ => strapsAssumed

/-- The frame `f` of port `x` spells the command `c` (log 2). -/
def spells (x : Port) (c : Instr) (f : Frame) : Bool := commandOfFrame (commandPins c) x f == some c

/-- R170, R178: it is the turn of the command `c` of port `x`: the part is not held in reset, and the
oldest whole frame of the receive queue, when there is one, spells `c` (log 2). -/
def State.inTurn (s : State) (x : Port) (c : Instr) : Bool :=
  !s.inReset && (s.port x).oldest.all (spells x c)

/-- R170: the oldest whole frame of the queue is taken where it spells `c`. -/
def State.takeRx (s : State) (x : Port) (c : Instr) : State :=
  s.updatePort x fun p => if p.oldest.any (spells x c) then p.freeOldest else p

end Sys2Proof.Machine
end

