-- ==== Sys2Proof/Machine/EngineOps.lean ====
section
/-! DEFINITION. The quality engine: arming, the window, the intake and accumulation of samples, the
figures of a close and the trace ring (R48 to R63, R66 to R70). -/

namespace Sys2Proof.Machine

/-- R49: the program limits. -/
def Program.limits (p : Program) : Limits where
  kind := p.kind
  window := p.window
  eMin := p.eMin
  eMax := p.eMax
  dNonstick := p.dNonstick
  dMin := p.dMin
  dMax := p.dMax
  iPeakMax := p.iPeakMax
  strict := p.strict
  weakRun := p.weakRun

/-- R49: the engine is armed. -/
def Engine.arm (e : Engine) (l : Limits) : Engine where
  state := .armed
  limits := some l
  zTouch := 0
  expected := 0
  n := 0
  energy := 0
  peak := 0
  peakIndex := 0
  zMin := 65535
  missing := 0
  position := 0
  gap := false
  long := false
  ring := if e.ringState = .frozen then e.ring else []
  ringState := if e.ringState = .frozen then .frozen else .following
  frozen := e.frozen
  capture := e.capture

/-- R50: TOUCHDOWN opens the window. -/
def Engine.openWindow (e : Engine) (z stamp : Nat) : Engine :=
  { e with state := .opened, zTouch := z, expected := stamp }

/-- R67: a sample enters a FOLLOWING ring as its newest entry. -/
def Engine.trace (e : Engine) (x : TraceEntry) : Engine :=
  if e.ringState = .following then
    { e with ring := (if e.ring.length < Config.ringSize then e.ring else e.ring.drop 1) ++ [x] }
  else e

/-- R55 to R57: a sample is accumulated. -/
def Engine.accumulate (e : Engine) (v i : Int) (z : Nat) : Engine :=
  { e with
    n := e.n + 1
    energy := e.energy + v * i
    peak := if e.peak < i.natAbs then i.natAbs else e.peak
    peakIndex := if e.peak < i.natAbs then e.n + 1 else e.peakIndex
    zMin := if z < e.zMin then z else e.zMin }

/-- The window limit of the armed program. -/
def Engine.windowLimit (e : Engine) : Nat := e.limits.elim 0 fun l => l.window

/-- R54: a taken sample. -/
def Engine.takeSample (e : Engine) (x : Triple) : Engine :=
  let p := satAdd maxU16 e.position 1
  let beyond := decide (e.windowLimit ≤ e.n)
  let e := { e with position := p }.trace ⟨p, signed16 x.v, signed16 x.i, x.z.toNat, beyond⟩
  if beyond then { e with long := true } else e.accumulate (signed16 x.v) (signed16 x.i) x.z.toNat

/-- R53: how far a stamp lies ahead of the expected one. -/
def Engine.ahead (e : Engine) (stamp : Nat) : Nat := (stamp + 256 - e.expected) % 256

/-- R53: a frame that is not stale is taken, after a gap when its stamp lies ahead. -/
def Engine.takeFrame (e : Engine) (stamp : Nat) (xs : List Triple) : Engine :=
  let d := e.ahead stamp
  let e := if d = 0 then e else
    { e with gap := true, missing := satAdd 255 e.missing d, position := satAdd maxU16 e.position d }
  { xs.foldl Engine.takeSample e with expected := (stamp + xs.length) % 256 }

/-- R58, R60 to R63: the figures and the class of a close, by LIFT or not. -/
def Engine.figures (e : Engine) (lift : Bool) : Figures :=
  let q := energyFigure e.energy
  let limit := energyLimit e.energy
  let d := deformation e.zTouch e.zMin
  { cls := if lift then
        e.limits.elim .noData fun l => liftClass l e.n q limit e.peak d e.gap e.long
      else .aborted
    energy := q
    peak := e.peak
    peakIndex := e.peakIndex
    deformation := d
    n := e.n
    missing := e.missing
    limit := limit
    gap := e.gap
    long := e.long }

/-- R69: the classes that freeze the ring. -/
def BondClass.freezes : BondClass → Bool
  | .nonstick | .overBond | .noData => true
  | _ => false

/-- R59 steps 4 and 7: the ring is frozen where R69 asks for it, and the engine is DISARMED. -/
def Engine.close (e : Engine) (record : Nat) (c : BondClass) : Engine :=
  let e := { e with state := .disarmed }
  if e.capture = true ∧ c.freezes = true ∧ e.ringState = .following then
    { e with ringState := .frozen, frozen := some ⟨record, c, e.ring⟩ }
  else e

/-- R70: a FROZEN ring is released. -/
def Engine.release (e : Engine) : Engine :=
  if e.ringState = .frozen then
    { e with
      frozen := none
      ring := []
      ringState := if e.state = .disarmed then .following else .released }
  else e

end Sys2Proof.Machine
end

