-- ==== Sys2Proof/Machine/TermOps.lean ====
section
/-! DEFINITION. The pages of the operator terminal (R149, 08 TABLE 1) and the marking of changed
fields (R150, R151, R153, R154). -/

namespace Sys2Proof.Machine

/-- R149: the number of fields of a page. -/
def pageSize : Nat → Nat
  | 0 => 10
  | 1 => 9
  | 2 => 18
  | 3 => 18
  | 4 => 18
  | 5 => 11
  | _ => 0

def optNum : Option Nat → FieldValue
  | none => .absent
  | some n => .num n

/-- R126: the mean force, formed from the sum and the number of results with a force. -/
def PullStats.mean (p : PullStats) : Option Nat :=
  let n := p.passes + p.fails
  if n = 0 then none else some ((2 * p.sum + n) / (2 * n))

/-- The strips on the track, from ENTRY to EXIT. -/
def Track.strips (t : Track) : List Strip :=
  t.entry.toList ++ t.bond.toList ++ t.pull.toList ++ t.exit.toList

/-- A unit record of the strip at BOND. -/
def Track.unitAtBond (t : Track) (u : Nat) : Option UnitRecord := t.bond.bind fun x => x.units[u]?

/-- R119, R133: the tasks that have a result. -/
def CurrentPull.answered (p : CurrentPull) : Nat := (p.tasks.filter fun x => x.result.isSome).length

/-- Page 0, MACHINE. -/
def machineField (s : State) : Nat → FieldValue
  | 0 => .runState s.mgmt.run
  | 1 => .headState s.headA.state
  | 2 => .headState s.headB.state
  | 3 => .trackState s.track.known
  | 4 => .num s.track.strips.length
  | 5 => .num s.alarms.entries.length
  | 6 => match s.alarms.entries with
    | [] => .absent
    | e :: _ => .topAlarm e.cls e.obj e.level e.state
  | 7 => .message s.term.denied
  | 8 => .num s.term.level
  | 9 => .num s.mgmt.time
  | _ => .absent

/-- Page 1, ALARMS. -/
def alarmsField (s : State) : Nat → FieldValue
  | 0 => .num s.term.scroll
  | n + 1 => match s.alarms.entries[s.term.scroll + n]? with
    | none => .emptyLine
    | some e => .line e.cls e.obj e.level e.state e.count

/-- Pages 2 and 3, HEAD A and HEAD B. -/
def headField (s : State) (h : Head) (f : Nat) : FieldValue :=
  let c := s.head h
  let record := c.claim.bind s.track.unitAtBond
  match f with
  | 0 => .headState c.state
  | 1 => .holds c.holds
  | 2 => .pause c.pause
  | 3 => optNum c.claim
  | 4 => match record with
    | none => .absent
    | some r => match r.cursor with
      | none => .pastEnd
      | some w => .num w
  | 5 => match record with
    | none => .absent
    | some r => .phase r.phase
  | 6 => .efo c.efo
  | 7 => match c.last with
    | none => .absent
    | some x => .cls x.cls
  | 8 => match c.last with
    | none => .absent
    | some x => .int x.energy
  | 9 => match c.last with
    | none => .absent
    | some x => .num x.deformation
  | 10 => .num c.results.good
  | 11 => .num c.results.weak
  | 12 => .num c.results.overBond
  | 13 => .num c.results.nonstick
  | 14 => .num c.results.noData
  | 15 => .num c.results.aborted
  | 16 => .num c.weakRun
  | 17 => .num c.stray
  | _ => .absent

/-- The six fields that page 4 shows of a head's pull statistics. -/
def pullHeadField (p : Puller) (h : Head) : Nat → FieldValue
  | 0 => optNum (p.stats h).mean
  | 1 => optNum (p.stats h).minimum
  | 2 => .num (p.stats h).passes
  | 3 => .num (p.stats h).fails
  | 4 => .num (p.stats h).noResults
  | 5 => .num (p.run h)
  | _ => .absent

/-- Page 4, PULL. -/
def pullField (s : State) (f : Nat) : FieldValue :=
  match f with
  | 0 => optNum (s.track.pull.map fun x => x.id)
  | 1 => match s.track.pull with
    | none => .absent
    | some x => .pullState x.pullState
  | 2 => match s.puller.current with
    | none => .absent
    | some p => .tasks p.answered p.tasks.length
  | 3 => match s.puller.last with
    | none => .absent
    | some x => .verdict x.verdict
  | 4 => optNum (s.puller.last.bind fun x => x.force)
  | 5 => match s.puller.last.bind fun x => x.mode with
    | none => .absent
    | some m => .mode m
  | n => if n < 12 then pullHeadField s.puller .a (n - 6) else pullHeadField s.puller .b (n - 12)

/-- R149: a next slot above the slot count is sent as NONE. -/
def nextSlot (count cursor : Nat) : FieldValue := if count < cursor then .noSlot else .num cursor

/-- Page 5, MAGAZINES. -/
def magazinesField (s : State) : Nat → FieldValue
  | 0 => .magIn s.track.magIn.state
  | 1 => .num s.track.magIn.count
  | 2 => nextSlot s.track.magIn.count s.track.magIn.cursor
  | 3 => .magOut s.track.magOut.state
  | 4 => .num s.track.magOut.count
  | 5 => nextSlot s.track.magOut.count s.track.magOut.cursor
  | 6 => match s.track.lastDelivered with
    | none => .absent
    | some d => .delivered d
  | 7 => .num s.track.taken
  | 8 => .num s.track.delivered
  | 9 => .num s.track.dropped
  | 10 => .num s.track.introduced
  | _ => .absent

/-- R149, 08 TABLE 1: the value that a field of a page shows. -/
def fieldValue (s : State) (page field : Nat) : FieldValue :=
  match page with
  | 0 => machineField s field
  | 1 => alarmsField s field
  | 2 => headField s .a field
  | 3 => headField s .b field
  | 4 => pullField s field
  | 5 => magazinesField s field
  | _ => .absent

/-- The fields of the current page that satisfy `f` join the changed-field set, which is kept in
field-number order without duplicates (R148, R150). -/
def Terminal.markWhere (t : Terminal) (f : Nat → Bool) : Terminal :=
  { t with changed := (List.range (pageSize t.page)).filter fun k => t.changed.contains k || f k }

/-- Fields of page `page` are marked when it is current (R150). -/
def Terminal.mark (t : Terminal) (page : Nat) (fields : List Nat) : Terminal :=
  if t.page = page then t.markWhere fields.contains else t

/-- Every field of the current page is marked (R153, R154, R155). -/
def Terminal.markAll (t : Terminal) : Terminal := t.markWhere fun _ => true

/-- R150: a value that changes marks its field when its page is current. The part time marks no
field by its change. -/
def State.markChanges (s old : State) : State :=
  if s.term.page = old.term.page then
    { s with term := s.term.markWhere fun k =>
        !(s.term.page == 0 && k == 9) &&
          fieldValue old s.term.page k != fieldValue s s.term.page k }
  else s

/-- R150: an event of the part, or one step of a rule that takes several, with the marking of the values
that it changes. A value marks its field also where a later step of the same command gives it back
(log 7). -/
def State.happens (s : State) (body : State → State) : State := (body s).markChanges s

/-- R157: DENIED becomes the message and field 7 of MACHINE is marked, also when it already was. -/
def Terminal.deny (t : Terminal) : Terminal := { t with denied := true }.mark 0 [7]

/-- R151: the terminal server is told of a change to the alarm list. -/
def Terminal.listChanged (t : Terminal) (entries : Nat) : Terminal :=
  let u := if entries < t.scroll + 8 ∧ 0 < t.scroll then { t with scroll := entries - 8 } else t
  (u.mark 1 [0, 1, 2, 3, 4, 5, 6, 7, 8]).mark 0 [5, 6]

end Sys2Proof.Machine
end

