-- ==== Sys2Proof/Machine/AlarmOps.lean ====
section
/-! DEFINITION. The alarm unit: raising, conditions gone, acknowledgement, removal, and what an
action does to the heads and the index gate (R40, R43, R102, R110, R137 to R145). -/

namespace Sys2Proof.Machine

/-! ## Hold reasons and abort causes -/

def Holds.any (x : Holds) : Bool := x.operator || x.alarm || x.safeStop || x.link

/-- R22: the state of a head out of flight, by its hold reasons. -/
def Holds.state (x : Holds) : HeadState :=
  if x.link then .offline else if x.any then .hold else .idle

/-- R22: the head states in which a bond is in flight. -/
def HeadState.inFlight : HeadState → Bool
  | .armed | .inBond | .aborting => true
  | _ => false

/-- R43: a head out of flight follows its hold reasons; a head in flight stays as it is. -/
def HeadCtx.followHolds (c : HeadCtx) : HeadCtx :=
  if c.state.inFlight then c else { c with state := c.holds.state }

/-- R43: OPERATOR is added. -/
def HeadCtx.addOperator (c : HeadCtx) : HeadCtx :=
  { c with holds := { c.holds with operator := true } }.followHolds

/-- R40: an abort cause, taken in ARMED or IN-BOND, queues ABORT, starts the abort timer and makes
the head ABORTING. -/
def State.abortCause (s : State) (h : Head) : State :=
  match (s.head h).state with
  | .armed | .inBond =>
    (s.send h.port .abort).updateHead h fun c => { c with state := .aborting, abortTimer := true }
  | _ => s

/-- R143: ALARM stands for a head. -/
def alarmStands (l : List AlarmEntry) (h : Head) : Bool :=
  l.any fun e => e.action == .holdBoth || (e.action == .holdHead && e.obj == .head h)

/-- R143: SAFE-STOP stands for both heads. -/
def safeStopStands (l : List AlarmEntry) : Bool := l.any fun e => e.action == .safeStop

/-- R143: the hold reasons of one head are judged by the list. -/
def HeadCtx.judge (c : HeadCtx) (h : Head) (l : List AlarmEntry) : HeadCtx :=
  { c with holds := { c.holds with alarm := alarmStands l h, safeStop := safeStopStands l } }.followHolds

/-- R143: both heads are judged. -/
def State.judgeHolds (s : State) : State :=
  { s with
    headA := s.headA.judge .a s.alarms.entries
    headB := s.headB.judge .b s.alarms.entries }

/-- R101, R102: a held request is refused and ends. -/
def State.refuseHeld (s : State) (r : Reason) : State :=
  match s.track.held with
  | none => s
  | some q =>
    { s.send .u (.indexRefused q.kind r) with
      track := { s.track with held := none, holdTimer := none } }

/-- R144, R110: the SAFE-STOP action. -/
def State.safeStopAction (s : State) : State :=
  let s := { s with alarms := { s.alarms with safeStop := true } }
  let s := ((s.abortCause .a).abortCause .b).judgeHolds
  (s.send .ix .freeze).refuseHeld .stopped

/-! ## The list -/

def AlarmEntry.isPair (e : AlarmEntry) (c : AlarmClass) (o : AlarmObject) : Bool :=
  e.cls == c && e.obj == o

/-- The entry of a pair. -/
def Alarms.find (l : List AlarmEntry) (c : AlarmClass) (o : AlarmObject) : Option AlarmEntry :=
  l.find? fun e => e.isPair c o

/-- R137: `y` stands ahead of a new entry `e`: higher level, then higher rank, then raised earlier. -/
def standsAhead (y e : AlarmEntry) : Bool :=
  e.level < y.level || (e.level == y.level && e.rank ≤ y.rank)

/-- R137, R138: a new entry takes its place in list order. -/
def insertEntry (e : AlarmEntry) : List AlarmEntry → List AlarmEntry
  | [] => [e]
  | y :: l => if standsAhead y e then y :: insertEntry e l else e :: y :: l

/-- The entry of a pair changed by `f`. -/
def updateEntry (l : List AlarmEntry) (c : AlarmClass) (o : AlarmObject)
    (f : AlarmEntry → AlarmEntry) : List AlarmEntry :=
  l.map fun e => if e.isPair c o then f e else e

def State.setEntries (s : State) (l : List AlarmEntry) : State :=
  { s with alarms := { s.alarms with entries := l } }

/-- R145: an ALARM-NOTE, URGENT on port U; none before port U has first been LIVE (R134). -/
def State.note (s : State) (c : AlarmClass) (o : AlarmObject) (level : Nat) (w : NoteEvent) : State :=
  if s.mgmt.started then { s with ports := s.ports.enqueue .u true (.alarmNote c o level w) } else s

/-- R151: the terminal server is told of a change to the list. -/
def State.listChanged (s : State) : State :=
  { s with term := s.term.listChanged s.alarms.entries.length }

/-- The action of a class as the action table stands. -/
def State.actionEntry (s : State) (c : AlarmClass) : ActionEntry := s.tables.actions.getD c.code c.default

/-- R138: a pair is listed. -/
def State.listAlarm (s : State) (c : AlarmClass) (o : AlarmObject) : State :=
  let x := s.actionEntry c
  let n := nextInCycle s.alarms.lastSeq
  let e : AlarmEntry := ⟨c, o, x.level, x.rank, x.action, n, 1, .activeUnacked⟩
  let s := { s with alarms := { s.alarms with entries := insertEntry e s.alarms.entries, lastSeq := n } }
  let s := (s.note c o x.level .raised).judgeHolds
  let s := if x.action = .safeStop then s.safeStopAction else s
  s.listChanged

/-- R139: a raise is merged into the listed entry. -/
def State.mergeAlarm (s : State) (c : AlarmClass) (o : AlarmObject) (e : AlarmEntry) : State :=
  let s := s.setEntries (updateEntry s.alarms.entries c o fun y =>
    { y with count := satAdd 255 y.count 1, state := .activeUnacked })
  (s.note c o e.level .raised).listChanged

/-- R138, R139: an alarm is raised. -/
def State.raise (s : State) (c : AlarmClass) (o : AlarmObject) : State :=
  match Alarms.find s.alarms.entries c o with
  | none => s.listAlarm c o
  | some e => s.mergeAlarm c o e

/-- R142: the entry of a pair is removed. -/
def State.removeAlarm (s : State) (e : AlarmEntry) : State :=
  let s := s.setEntries (s.alarms.entries.filter fun y => !y.isPair e.cls e.obj)
  let s := (s.note e.cls e.obj e.level .removed).judgeHolds
  let s := if e.action = .safeStop ∧ safeStopStands s.alarms.entries = false then
      { s with alarms := { s.alarms with safeStop := false } } else s
  s.listChanged

/-- The entry of a pair takes a new state, with its note. -/
def State.moveAlarm (s : State) (e : AlarmEntry) (st : AlarmState) (w : NoteEvent) : State :=
  let s := s.setEntries (updateEntry s.alarms.entries e.cls e.obj fun y => { y with state := st })
  (s.note e.cls e.obj e.level w).listChanged

/-- R140: the condition of a pair is gone. -/
def State.conditionGone (s : State) (c : AlarmClass) (o : AlarmObject) : State :=
  match Alarms.find s.alarms.entries c o with
  | none => s
  | some e => match e.state with
    | .activeUnacked => s.moveAlarm e .clearedUnacked .cleared
    | .activeAcked => s.removeAlarm e
    | .clearedUnacked => s

/-- R140: the conditions of the entries that satisfy `f` are gone, in list order. -/
def State.conditionsGone (s : State) (f : AlarmEntry → Bool) : State :=
  (s.alarms.entries.filter f).foldl (fun s e => s.conditionGone e.cls e.obj) s

/-- R141: the classes whose acknowledgement makes their condition gone. -/
def AlarmClass.latched : AlarmClass → Bool
  | .weakRun | .overBond | .sampleLoss | .rebondLimit | .indexStall | .test | .pullTimeout => true
  | _ => false

/-- R141: the entry is removed by its acknowledgement while ACTIVE: its class is latched, or it is
HEAD-FAULT with the head's port LIVE. -/
def State.ackRemoves (s : State) (e : AlarmEntry) : Bool :=
  e.cls.latched ||
    (e.cls == .headFault && match e.obj with
      | .head h => decide ((s.port h.port).state = .live)
      | _ => false)

/-- R141: an entry is acknowledged. -/
def State.acknowledge (s : State) (e : AlarmEntry) : State :=
  match e.state with
  | .activeUnacked => if s.ackRemoves e then s.removeAlarm e else s.moveAlarm e .activeAcked .acked
  | .activeAcked => s
  | .clearedUnacked => s.removeAlarm e

/-- An entry that waits for an acknowledgement. -/
def AlarmEntry.unacked (e : AlarmEntry) : Bool := e.state != .activeAcked

/-- R146: every unacknowledged entry is acknowledged, in list order. -/
def State.acknowledgeAll (s : State) : State :=
  (s.alarms.entries.filter AlarmEntry.unacked).foldl State.acknowledge s

/-- R41, R141: HEAD-FAULT of a head that waits acknowledged leaves when its port enters LIVE. -/
def State.headFaultCleared (s : State) (h : Head) : State :=
  match Alarms.find s.alarms.entries .headFault (.head h) with
  | some e => if e.state = .activeAcked then s.removeAlarm e else s
  | none => s

end Sys2Proof.Machine
end

