-- ==== Sys2Proof/Machine/TableOps.lean ====
section
/-! DEFINITION. Reading the tables: device types, wire maps, programs, plans, and what is judged
from them: wires, validity, usability, in-use, selection (R7, R9, R11 to R17, R19, R116, R118). -/

namespace Sys2Proof.Machine

/-- The VALID program of a number. -/
def Tables.program (t : Tables) (n : Nat) : Option Program := t.programs.getD n none

/-- Step 14 of R24, R38: the VALID program of a number, of one kind. -/
def Tables.programOf (t : Tables) (n : Nat) (k : BondKind) : Option Program :=
  (t.program n).filter fun p => p.kind = k

/-- The VALID device type of a number. -/
def Tables.device (t : Tables) (n : Nat) : Option DeviceType := t.devices.getD n none

def Tables.map (t : Tables) (n : Nat) : WireMap := t.maps.getD n WireMap.cleared

def Tables.plan (t : Tables) (n : Nat) : PullPlan := t.plans.getD n PullPlan.default

def Tables.limit (t : Tables) (n : Nat) : PullLimits := t.limits.getD n PullLimits.default

/-- R9: the unit count. -/
def DeviceType.unitCount (d : DeviceType) : Nat := d.columns * d.rows

/-- R13: the slot of a number. -/
def WireMap.slot (m : WireMap) (k : Nat) : Slot := m.slots.getD k Slot.cleared

/-- The slots below the length with their numbers. -/
def WireMap.below (m : WireMap) : List (Slot × Nat) := (m.slots.take m.length).zipIdx

/-- R13: the wire count. -/
def WireMap.wireCount (m : WireMap) : Nat := ((m.slots.take m.length).filter fun x => !x.skip).length

/-- R21, R34: the lowest non-skip slot below the length from `k` on. -/
def WireMap.wireFrom (m : WireMap) (k : Nat) : Option Nat :=
  (m.below.find? fun x => k ≤ x.2 && !x.1.skip).map fun x => x.2

/-- R16: a slot names VALID programs of the right kinds. -/
def Tables.slotValid (t : Tables) (x : Slot) : Bool :=
  (t.programOf x.ball .ball).isSome && (t.programOf x.stitch .stitch).isSome

/-- R16: the validity of a map, judged from the tables as they stand. -/
def Tables.mapValid (t : Tables) (m : WireMap) : Bool :=
  m.wireCount != 0 && (m.slots.take m.length).all fun x => x.skip || t.slotValid x

/-- R9: a usable device type. -/
def Tables.usable (t : Tables) (n : Nat) : Bool :=
  match t.device n with
  | none => false
  | some d => t.mapValid (t.map d.map)

/-- R19: the table state. -/
def Tables.state (t : Tables) : TableState where
  programs := (t.programs.filter Option.isSome).length
  devices := (t.devices.filter Option.isSome).length
  maps := (t.maps.filter t.mapValid).length
  usable := ((List.range 8).filter t.usable).length

/-- The map that a strip's device type names. -/
def Tables.mapOfStrip (t : Tables) (x : Strip) : Option Nat := (t.device x.device).map fun d => d.map

/-- The wire map of a strip, cleared when its device type is not VALID (log 27). -/
def Tables.wiresOf (t : Tables) (x : Strip) : WireMap :=
  match t.device x.device with
  | none => WireMap.cleared
  | some d => t.map d.map

/-- R11: the units per column of a strip's device type. -/
def Tables.rowsOf (t : Tables) (x : Strip) : Nat :=
  match t.device x.device with
  | none => 0
  | some d => d.rows

/-- The columns of a strip's device type. -/
def Tables.columnsOf (t : Tables) (x : Strip) : Nat :=
  match t.device x.device with
  | none => 0
  | some d => d.columns

/-- R11: unit `u` lies in the window column of the strip. -/
def Tables.inWindow (t : Tables) (x : Strip) (u : Nat) : Bool :=
  x.window * t.rowsOf x ≤ u && u < (x.window + 1) * t.rowsOf x && u < x.units.length

/-- R12, R116: a strip of the device type stands on the track. -/
def deviceOnTrack (s : State) (n : Nat) : Bool := s.track.strips.any fun x => x.device == n

/-- R17: a strip on the track uses the map. -/
def mapOnTrack (s : State) (n : Nat) : Bool :=
  s.track.strips.any fun x => s.tables.mapOfStrip x == some n

/-- R7: a non-skip slot below the length names the program. -/
def WireMap.names (m : WireMap) (n : Nat) : Bool :=
  (m.slots.take m.length).any fun x => !x.skip && (x.ball == n || x.stitch == n)

/-- R7: in RUN a map of a strip on the track names the program. -/
def programInUse (s : State) (n : Nat) : Bool :=
  s.mgmt.run && s.track.strips.any fun x => (s.tables.wiresOf x).names n

/-- R118: the plan of a strip's device type selects this unit and this wire. -/
def Tables.selects (t : Tables) (x : Strip) (u w : Nat) : Bool :=
  let p := t.plan x.device
  let m := t.wiresOf x
  p.units.contains u && p.wires.contains w && u < t.columnsOf x * t.rowsOf x && w < m.length &&
    !(m.slot w).skip

/-- R118: the numbers of a plan list below a bound, in rising order, once each. -/
def planNumbers (l : List Nat) (bound : Nat) : List Nat := (List.range bound).filter l.contains

/-- R118, R119: the selected pairs in unit order and wire order within a unit. -/
def Tables.selected (t : Tables) (x : Strip) : List (Nat × Nat) :=
  (planNumbers (t.plan x.device).units (t.columnsOf x * t.rowsOf x)).flatMap fun u =>
    ((planNumbers (t.plan x.device).wires (t.wiresOf x).length).filter
      fun w => !((t.wiresOf x).slot w).skip).map fun w => (u, w)

end Sys2Proof.Machine
end

