-- ==== Sys2Proof/Machine/TrackOps.lean ====
section
/-! DEFINITION. The track controller: unit and strip records, the index gate, the request in flight,
jams, the magazines and the moves of strips (R29, R78, R88 to R110, R113, R114). -/

namespace Sys2Proof.Machine

/-! ## Pins -/

/-- R78: the pins of the records that satisfy `f` are released without a pull reference. -/
def State.releasePins (s : State) (f : BondRecord → Bool) : State :=
  { s with store := { s.store with
      records := s.store.records.map fun r => if f r then { r with pinned := false } else r } }

/-- R78: the pins of one unit of a strip. -/
def State.releaseUnit (s : State) (strip unit : Nat) : State :=
  s.releasePins fun r => r.strip == strip && r.unit == unit

/-- R78: the pins of a strip. -/
def State.releaseStrip (s : State) (strip : Nat) : State := s.releasePins fun r => r.strip == strip

/-! ## Units and strips -/

/-- R21: a unit record at creation. -/
def UnitRecord.fresh (m : WireMap) : UnitRecord := ⟨.pending, m.wireFrom 0, .ballDue, 0, 0, 0, 0⟩

/-- R89: a unit created DONE. -/
def UnitRecord.complete (m : WireMap) : UnitRecord := ⟨.done, none, .ballDue, 0, m.wireCount, 0, 0⟩

/-- R89: a strip record with the units of the columns before `first` DONE. -/
def Tables.newStrip (t : Tables) (id dev first : Nat) (pullDue : Bool) : Strip :=
  let d := (t.device dev).getD ⟨0, 0, 0⟩
  let m := if (t.device dev).isSome then t.map d.map else WireMap.cleared
  { id := id
    device := dev
    window := min first (d.columns - 1)
    units := (List.range d.unitCount).map fun u =>
      if m.wireCount = 0 ∨ u < first * d.rows then UnitRecord.complete m else UnitRecord.fresh m
    pullDue := pullDue
    pullState := .none
    passes := 0
    fails := 0 }

def UnitState.isClaim : UnitState → Bool
  | .claimed _ => true
  | _ => false

/-- Unit `u` of the strip changed by `f`. -/
def Strip.updateUnit (x : Strip) (u : Nat) (f : UnitRecord → UnitRecord) : Strip :=
  { x with units := x.units.modify u f }

/-- Unit `u` of the strip at BOND changed by `f`. -/
def State.updateUnit (s : State) (u : Nat) (f : UnitRecord → UnitRecord) : State :=
  { s with track := { s.track with bond := s.track.bond.map fun x => x.updateUnit u f } }

/-- R114: units DONE or REJECT of a strip. -/
def Strip.doneCount (x : Strip) : Nat := (x.units.filter fun r => r.state == .done).length
def Strip.rejectCount (x : Strip) : Nat := (x.units.filter fun r => r.state == .reject).length

/-- R114: STRIP-REPORT. -/
def Strip.report (x : Strip) (outSlot : Option Nat) : Msg :=
  .stripReport x.id outSlot x.doneCount x.rejectCount
    (satAdd maxU16 0 (x.units.map fun r => r.weakCount).sum)
    (satAdd maxU16 0 (x.units.map fun r => r.overCount).sum) x.passes x.fails

/-! ## The index gate -/

/-- R97 step 4, R98 step 2: the blocking reasons of a request as the state stands. -/
def State.blockingReasons (s : State) : IndexKind → GateReasons
  | .step =>
    ⟨s.track.bond.elim false fun x =>
        x.units.zipIdx.any fun y => s.tables.inWindow x y.2 && y.1.state.isClaim, false, false⟩
  | .transfer =>
    ⟨s.track.bond.elim false fun x => x.units.any fun r => r.state.isClaim,
     s.track.pull.elim false fun x => x.pullState == .waiting || x.pullState == .ordered,
     s.track.exit.isSome && s.track.magOut.state != .ready⟩

def GateReasons.empty (r : GateReasons) : Bool := !(r.claims || r.pull || r.output)

/-- R103: the ordered input slot. -/
def Track.orderedIn (t : Track) : IndexKind → Option Nat
  | .step => none
  | .transfer => if t.magIn.state = .ready then some t.magIn.cursor else none

/-- R103: the ordered output slot. -/
def Track.orderedOut (t : Track) : IndexKind → Option Nat
  | .step => none
  | .transfer => if t.exit.isSome then some t.magOut.cursor else none

/-- R103: a request is forwarded to the indexer, or refused BUSY when port IX has no room. -/
def State.forwardIndex (s : State) (k : IndexKind) : State :=
  let i := s.track.orderedIn k
  let o := s.track.orderedOut k
  if (s.port .ix).hasRoom .ix false then
    { s.send .ix (.index k i o) with
      track := { s.track with
        inFlight := some ⟨k, i, o, false, false⟩
        doneTimer := some s.track.doneTimeout } }
  else s.send .u (.indexRefused k .busy)

/-- R99: a request is held. -/
def State.holdIndex (s : State) (k : IndexKind) (r : GateReasons) : State :=
  { s with track := { s.track with held := some ⟨k, r⟩, holdTimer := some s.track.holdTimeout } }

/-- R97, R98: a request that has passed its other checks is forwarded or held. -/
def State.gateIndex (s : State) (k : IndexKind) : State :=
  let r := s.blockingReasons k
  if r.empty then s.forwardIndex k else s.holdIndex k r

/-- R100: a release event; the reasons of a held request are judged again. -/
def State.releaseGate (s : State) : State :=
  match s.track.held with
  | none => s
  | some q =>
    let r := s.blockingReasons q.kind
    if r.empty then
      ({ s with track := { s.track with held := none, holdTimer := none } } : State).forwardIndex q.kind
    else { s with track := { s.track with held := some ⟨q.kind, r⟩ } }

/-- R29: a claim has ended; the pause request and the index gate are told. -/
def State.claimEnded (s : State) (h : Head) : State :=
  (s.updateHead h fun c => if c.pause = some .afterUnit then c.addOperator else c).releaseGate

/-- R97 step 3, R98 step 1: the PENDING units of the strip at BOND that satisfy `f` become REJECT,
and their pins are released. -/
def State.rejectPending (s : State) (f : Nat → Bool) : State :=
  match s.track.bond with
  | none => s
  | some x =>
    let hit (y : UnitRecord × Nat) : Bool := y.1.state == .pending && f y.2
    let gone := (x.units.zipIdx.filter hit).map fun y => y.2
    ({ s with track := { s.track with bond := some { x with
        units := x.units.zipIdx.map fun y =>
          if hit y then { y.1 with state := .reject } else y.1 } } } : State).releasePins
      fun r => r.strip == x.id && gone.contains r.unit

/-- R109, steps 1 to 4. -/
def State.jam (s : State) : State :=
  let s := { s with track := { s.track with inFlight := none, doneTimer := none, known := false } }
  ((s.refuseHeld .unknown).raise .jam .track).raise .trackUnknown .track

/-! ## Magazines -/

/-- The slot map entry of slot `k` (1 to 40). -/
def MagIn.slot (m : MagIn) (k : Nat) : InSlot := m.slots.getD (k - 1) .unreached

/-- R91: MAG-IN LOADED with a slot count of 1 or more. -/
def MagIn.loaded (count : Nat) : MagIn := ⟨.ready, count, List.replicate 40 .unreached, 1⟩

/-- R91: the magazine becomes ABSENT; its cursor stays as it was (log 9). -/
def MagIn.remove (m : MagIn) : MagIn := ⟨.absent, 0, List.replicate 40 .unreached, m.cursor⟩

/-- R92: slot `k` at the cursor becomes TAKEN or EMPTY and the cursor moves on. -/
def MagIn.passSlot (m : MagIn) (k : Nat) (x : InSlot) : MagIn :=
  let m := { m with slots := m.slots.set (k - 1) x, cursor := k + 1 }
  if m.count < m.cursor ∨ m.slot m.cursor = .stop then { m with state := .exhausted } else m

/-- R94: MAG-OUT LOADED with a slot count of 1 or more. -/
def MagOut.loaded (count : Nat) : MagOut := ⟨.ready, count, List.replicate 40 .free, 1⟩

/-- R94: the magazine becomes ABSENT; its cursor stays as it was (log 9). -/
def MagOut.remove (m : MagOut) : MagOut := ⟨.absent, 0, List.replicate 40 .free, m.cursor⟩

/-- R94: a strip is delivered into slot `r`: the slots from the cursor to `r` become FILLED. -/
def MagOut.fill (m : MagOut) (r : Nat) : MagOut :=
  let m := { m with
    slots := m.slots.zipIdx.map fun y => if m.cursor ≤ y.2 + 1 ∧ y.2 + 1 ≤ r then .filled else y.1
    cursor := r + 1 }
  if m.count < m.cursor then { m with state := .full } else m

/-- R91: the input magazine is changed by a MAG-IN frame, which marks the request in flight. -/
def Track.setMagIn (t : Track) (m : MagIn) : Track :=
  { t with magIn := m, inFlight := t.inFlight.map fun q =>
      if q.kind = .transfer then { q with inChanged := true } else q }

/-- R94: the output magazine is changed by a MAG-OUT frame, which marks the request in flight. -/
def Track.setMagOut (t : Track) (m : MagOut) : Track :=
  { t with magOut := m, inFlight := t.inFlight.map fun q =>
      if q.kind = .transfer then { q with outChanged := true } else q }

/-! ## Moves -/

/-- R88: the id of the strip that input slot `k` gives. -/
def Track.stripId (t : Track) (k : Nat) : Nat := t.loadCount % 1024 * 64 + k

/-- R107 step 1: the strip at EXIT is delivered into slot `r`. -/
def State.deliver (s : State) (r : Nat) : State :=
  match s.track.exit with
  | none => s
  | some x =>
    let m := s.track.magOut.fill r
    let s := { s with track := { s.track with magOut := m } }
    let s := if m.state = .full then s.raise .magOutFull .track else s
    let s := { s with track := { s.track with
      delivered := satAdd maxU32 s.track.delivered 1
      lastDelivered := some ⟨x.id, x.doneCount, x.rejectCount⟩
      exit := none } }
    s.send .u (x.report (some r))

/-- R107 step 2: the strip at PULL moves to EXIT, where its pins are released. -/
def State.pullToExit (s : State) : State :=
  let x := s.track.pull
  let s := { s with track := { s.track with exit := x, pull := none } }
  x.elim s fun y => s.releaseStrip y.id

/-- R107 step 3: the strip at BOND moves to PULL. -/
def State.bondToPull (s : State) : State :=
  { s with track := { s.track with pull := s.track.bond, bond := none } }

/-- R107 step 4: the strip at ENTRY moves to BOND, with its first column under the window. -/
def State.entryToBond (s : State) : State :=
  { s with track := { s.track with
    bond := s.track.entry.map fun x => { x with window := 0 }
    entry := none } }

/-- R107 steps 2 to 4: the moves follow one another, each to a position that has just been left. -/
def State.moveStrips (s : State) : State :=
  ((s.happens State.pullToExit).happens State.bondToPull).happens State.entryToBond

/-- R108: a strip is taken from input slot `k` into ENTRY. -/
def State.takeStrip (s : State) (k : Nat) : State :=
  let t := s.track
  let n := satAdd maxU32 t.stripCounter 1
  let interval := (s.tables.plan t.inputType).interval
  { s with track := { t with
    entry := some (s.tables.newStrip (t.stripId k) t.inputType 0 (0 < interval && n % interval == 0))
    taken := satAdd maxU32 t.taken 1
    stripCounter := n } }

/-- R107 step 5: what the input magazine gives. -/
def State.drawStrip (s : State) (q : FlightRequest) (reported : Option Nat) : State :=
  if q.inChanged then s
  else match q.inSlot with
    | none => s
    | some k =>
      let m := s.track.magIn.passSlot k (if reported = none then .empty else .taken)
      let s := { s with track := { s.track with magIn := m } }
      let s := if reported = none then s else s.takeStrip k
      if m.state = .exhausted then s.raise .magInEmpty .track else s

/-- R106: an INDEX-DONE TRANSFER disagrees with the request in flight. -/
def transferMismatch (t : Track) (q : FlightRequest) (i o : Option Nat) : Bool :=
  q.kind != .transfer ||
    (match q.inSlot, i with
      | _, none => false
      | none, some _ => true
      | some k, some x => k != x) ||
    (q.inChanged && i.isSome) ||
    (match q.outSlot, o with
      | none, none => false
      | some k, some r => !(k ≤ r && r ≤ t.magOut.count)
      | _, _ => true) ||
    (q.outChanged && q.outSlot.isSome) ||
    (match i with
      | none => false
      | some k => t.strips.any fun x => x.id == t.stripId k)

/-! ## TRACK-SET -/

/-- A position entry of a TRACK-SET (R111). -/
inductive PosSpec | empty | existing (id : Nat) | new (id device first : Nat)
  deriving DecidableEq, Repr

/-- 11 TABLE 21: the entry that the bytes give; none for an entry type above 2. -/
def posSpec (x : PosEntry) : Option PosSpec :=
  if x.type = 0 then some .empty
  else if x.type = 1 then some (.existing x.id.toNat)
  else if x.type = 2 then some (.new x.id.toNat x.device.toNat x.column.toNat)
  else none

def PosSpec.id? : PosSpec → Option Nat
  | .empty => none
  | .existing i => some i
  | .new i _ _ => some i

/-- The strip of an id on the track, with its position (0 ENTRY to 3 EXIT). -/
def Track.positions (t : Track) : List (Option Strip) := [t.entry, t.bond, t.pull, t.exit]

/-- Position `k` holds `x`. -/
def Track.setPosition (t : Track) (k : Nat) (x : Option Strip) : Track :=
  match k with
  | 0 => { t with entry := x }
  | 1 => { t with bond := x }
  | 2 => { t with pull := x }
  | _ => { t with exit := x }

/-- The strips of the track record with the numbers of their positions. -/
def Track.placed (t : Track) : List (Strip × Nat) :=
  t.positions.zipIdx.filterMap fun y => y.1.map fun x => (x, y.2)

def Track.find (t : Track) (id : Nat) : Option (Strip × Nat) := t.placed.find? fun y => y.1.id == id

/-- R111 step 4: the columns of the strip that the entry puts at BOND; an id that is not on the
track is left to step 5 (log 21). -/
def specColumns (s : State) : PosSpec → Option Nat
  | .empty => some 0
  | .existing i => (s.track.find i).map fun y => s.tables.columnsOf y.1
  | .new _ d _ => (s.tables.device d).map fun x => x.columns

/-- Neighbouring numbers rise. -/
def rising : List Nat → Bool
  | a :: b :: l => a < b && rising (b :: l)
  | _ => true

/-- R111: the first check that fails. -/
def trackSetReason (s : State) (raw : List PosEntry) (window : Option Nat) : Option Reason :=
  let specs := raw.filterMap posSpec
  let news := specs.filterMap fun x => match x with
    | .new i d f => some (i, d, f)
    | _ => none
  let old := specs.zipIdx.filterMap fun y => match y.1 with
    | .existing i => some (i, y.2)
    | _ => none
  let ids := specs.filterMap PosSpec.id?
  let stood := old.filterMap fun y => (s.track.find y.1).map fun z => (z.2, y.2)
  if s.track.known || s.headA.state.inFlight || s.headB.state.inFlight then some .busy
  else if specs.length < raw.length || news.any (fun y => 8 ≤ y.2.1) then some .range
  else if news.any (fun y => (s.tables.device y.2.1).isNone) then some .invalid
  else if news.any (fun y => match s.tables.device y.2.1 with
      | some d => d.columns < y.2.2
      | none => false) then some .range
  else if window.elim false (fun w => match (specs[1]?).bind (specColumns s) with
      | some n => n ≤ w
      | none => false) then some .range
  else if stood.length < old.length || !ids.Nodup ||
      news.any (fun y => (s.track.find y.1).isSome) then some .inconsistent
  else if stood.any (fun y => y.2 < y.1) || !rising (stood.map fun y => y.1) then some .inconsistent
  else none

end Sys2Proof.Machine
end

