-- ==== Sys2Proof/Machine/PullOps.lean ====
section
/-! DEFINITION. The pull controller: the start of a pull, its orders, verdicts, pull records,
statistics, end and discard (R76, R77, R119 to R132). -/

namespace Sys2Proof.Machine

/-! ## Pins of a wire -/

/-- A BALL record closed GOOD, WEAK or OVER. -/
def BondClass.completes : BondClass → Bool
  | .good | .weak | .overBond => true
  | _ => false

def BondRecord.isOf (r : BondRecord) (strip unit wire : Nat) (k : BondKind) : Bool :=
  r.strip == strip && r.unit == unit && r.wire == wire && r.kind == k

/-- R76: the final BALL record of a wire: the youngest held that closed GOOD, WEAK or OVER. -/
def Store.finalBall (x : Store) (strip unit wire : Nat) : Option BondRecord :=
  x.records.reverse.find? fun r => r.isOf strip unit wire .ball && r.cls.completes

/-- R76: the pinned pair of a wire, BALL then STITCH. -/
def Store.pinnedPair (x : Store) (strip unit wire : Nat) : Option (BondRecord × BondRecord) :=
  match x.records.find? (fun r => r.pinned && r.isOf strip unit wire .ball),
      x.records.find? (fun r => r.pinned && r.isOf strip unit wire .stitch) with
  | some b, some t => some (b, t)
  | _, _ => none

/-! ## The strip at PULL -/

def State.updatePullStrip (s : State) (f : Strip → Strip) : State :=
  { s with track := { s.track with pull := s.track.pull.map f } }

/-- The pull state of the strip at PULL. -/
def State.pullState (s : State) : PullState := s.track.pull.elim .none fun x => x.pullState

/-! ## The start and the wake -/

/-- R164: a QUIET port is asked for a wake by a block. -/
def PortRec.askWake (p : PortRec) : PortRec :=
  if p.state = .quiet then { p with state := .waking .localEnd } else p

/-- R121: orders of the current pull are not yet queued. -/
def Puller.unordered (p : Puller) : Bool := p.current.elim false fun c => p.ordersQueued < c.tasks.length

/-- R120, R121: a pull that is WAITING, or ORDERED with unqueued orders, asks a QUIET port PT. -/
def State.pullWake (s : State) : State :=
  if s.puller.current.isSome ∧
      (s.pullState = .waiting ∨ (s.pullState = .ordered ∧ s.puller.unordered = true)) then
    s.updatePort .pt PortRec.askWake
  else s

/-- R128: the pull ends COMPLETE. -/
def State.endPull (s : State) : State :=
  let timedOut := s.puller.current.elim false fun c => c.timedOut
  let s := { s with puller := { s.puller with timer := none, current := none } }
  let s := s.updatePullStrip fun x => { x with pullState := .complete }
  let s := if timedOut then s else s.conditionGone .pullTimeout .pullStation
  s.releaseGate

/-- R119 step 2: the tasks of a strip. -/
def State.tasksOf (s : State) (x : Strip) : List Task :=
  (s.tables.selected x).filterMap fun y =>
    if (x.units[y.1]?).elim false (fun r => r.state == .done) then
      (s.store.pinnedPair x.id y.1 y.2).map fun p =>
        { unit := y.1
          wire := y.2
          loop := ((s.tables.wiresOf x).slot y.2).loop
          ballRecord := p.1.number
          ballHead := p.1.head
          stitchRecord := p.2.number
          stitchHead := p.2.head
          result := none }
    else none

/-- R119 steps 1 to 3: the strip `x` becomes the current pull. -/
def State.takePull (s : State) (x : Strip) : State :=
  let s := s.releasePins fun r =>
    r.strip == x.id && !((x.units[r.unit]?).elim false fun y => y.state == .done)
  { s with puller := { s.puller with
    current := some ⟨x.id, x.device, s.tasksOf x, (s.tables.plan x.device).limit, false⟩
    ordersQueued := 0 } }

/-- R119 step 4: a pull without a task ends at once; another one waits for port PT (R120). -/
def State.openPull (s : State) : State :=
  if s.puller.current.elim true fun c => c.tasks.isEmpty then s.endPull
  else (s.updatePullStrip fun x => { x with pullState := .waiting }).pullWake

/-- R119: the pull of the strip at PULL starts when the strip is pull-due. -/
def State.startPull (s : State) : State :=
  match s.track.pull with
  | none => s
  | some x =>
    if x.pullDue then (s.happens fun s => s.takePull x).happens State.openPull
    else s

/-- R132: the pull is discarded. -/
def State.discardPull (s : State) : State :=
  { s with puller := { s.puller with timer := none, current := none } }

/-! ## Verdicts and pull records -/

/-- R123: the verdict of a result with this clamped force. -/
def pullVerdict (l : PullLimits) (m : PullMode) (force : Nat) : Verdict :=
  let least := match m with
    | .ballLift | .stitchLift => l.fLift
    | .ballNeck | .midSpan | .heel => l.fMin
  if force < least then .fail else .pass

/-- R124: the attributed head. -/
def Task.attributed (t : Task) : Option PullMode → Head
  | some .ballLift | some .ballNeck => t.ballHead
  | _ => t.stitchHead

/-- R126: a PASS or FAIL that still counts adds its force. -/
def PullStats.addForce (p : PullStats) (force : Nat) : PullStats :=
  { p with sum := p.sum + force, minimum := some (p.minimum.elim force fun m => min m force) }

/-- R126: the statistics are moved by a pull record. -/
def PullStats.move (p : PullStats) (v : Verdict) (force : Nat) : PullStats :=
  match v with
  | .pass => if p.passes < maxU16 then { p.addForce force with passes := p.passes + 1 } else p
  | .fail => if p.fails < maxU16 then { p.addForce force with fails := p.fails + 1 } else p
  | .noResult => { p with noResults := satAdd maxU16 p.noResults 1 }

/-- R127: the pull-fail run is moved by a verdict. -/
def moveRun (n : Nat) : Verdict → Nat
  | .pass => 0
  | .fail => satAdd 255 n 1
  | .noResult => n

/-- R125: the strip's counts are moved by a verdict. -/
def Strip.countPull (x : Strip) : Verdict → Strip
  | .pass => { x with passes := satAdd 255 x.passes 1 }
  | .fail => { x with fails := satAdd 255 x.fails 1 }
  | .noResult => x

/-- R125 step 2: the log takes a record, replacing its oldest when it is full. -/
def addLog (l : List PullRecord) (r : PullRecord) : List PullRecord :=
  (if l.length < Config.logSize then l else l.drop 1) ++ [r]

/-- R77: the two bond records of a task are unpinned and take the pull number. -/
def Store.unpin (x : Store) (ball stitch number : Nat) : Store :=
  { x with records := x.records.map fun r =>
      if r.number == ball || r.number == stitch then
        { r with pinned := false, pullRef := some number } else r }

/-- R125 steps 1 to 7 for the task at place `k` of the list, with the force and mode of a result. -/
def State.writePull (s : State) (k : Nat) (v : Verdict) (force : Option Nat) (m : Option PullMode) :
    State :=
  match s.puller.current with
  | none => s
  | some c => match c.tasks[k]? with
    | none => s
    | some t =>
      let h := t.attributed m
      let n := s.puller.nextPull
      let r : PullRecord := ⟨n, s.mgmt.time, c.strip, t.unit, t.wire, t.loop, force, m, v, h,
        t.ballRecord, t.stitchRecord⟩
      let run := moveRun (s.puller.run h) v
      let p := { s.puller with
        nextPull := nextInCycle n
        log := addLog s.puller.log r
        current := some { c with tasks := c.tasks.set k { t with result := some n } }
        last := some ⟨v, force, m⟩ }
      let p := (p.setStats h ((p.stats h).move v (force.getD 0))).setRun h run
      let s := { s with puller := p, store := s.store.unpin t.ballRecord t.stitchRecord n }
      let s := s.updatePullStrip fun x => x.countPull v
      let s := if v = .fail ∧ c.limit ≤ run then s.raise .pullFail (.head h) else s
      s.send .u (.pullReport n v force m)

/-- R129, R130: every task without a result receives a NO-RESULT record, in task order. -/
def State.giveNoResults (s : State) : State :=
  match s.puller.current with
  | none => s
  | some c => (List.range c.tasks.length).foldl (fun s k =>
      if (c.tasks[k]?).elim false (fun t => t.result.isNone) then s.writePull k .noResult none none
      else s) s

/-- R122: the place of the task that a result matches. -/
def CurrentPull.placeOf (c : CurrentPull) (unit wire : Nat) : Option Nat :=
  c.tasks.findIdx? fun t => t.unit == unit && t.wire == wire && t.result.isNone

/-- R122: a stray result or abort. -/
def State.strayPull (s : State) : State :=
  { s with puller := { s.puller with stray := satAdd maxU16 s.puller.stray 1 } }

/-- R122, R123, R125: a PULL-RESULT; after the last awaited result the pull ends. -/
def State.takeResult (s : State) (strip unit wire force : Nat) (mode : Option PullMode) : State :=
  match s.puller.current, mode with
  | some c, some m =>
    if s.pullState = .ordered ∧ c.strip = strip then
      match c.placeOf unit wire with
      | none => s.strayPull
      | some k =>
        let f := min force 1000
        let loop := (c.tasks[k]?).elim 0 fun t => t.loop
        let s := s.writePull k (pullVerdict (s.tables.limit loop) m f) (some f) (some m)
        if s.puller.current.elim false (fun c => c.tasks.all fun t => t.result.isSome) then s.endPull
        else s
    else s.strayPull
  | _, _ => s.strayPull

/-- R121: the tasks of the next PULL-ORDER: at most 8, in task order. -/
def Puller.nextTasks (p : Puller) (c : CurrentPull) : List (Nat × Nat × Nat) :=
  ((c.tasks.drop p.ordersQueued).take 8).map fun t => (t.unit, t.wire, t.loop)

/-- R121: the next PULL-ORDER is queued when port PT is LIVE with room; the first one makes the pull
ORDERED and starts the timer. -/
def State.queueOrder (s : State) : State :=
  match s.puller.current with
  | none => s
  | some c =>
    if (s.pullState = .waiting ∨ s.pullState = .ordered) ∧ s.puller.unordered = true ∧
        (s.port .pt).state = .live ∧ (s.port .pt).hasRoom .pt false = true then
      let l := s.puller.nextTasks c
      let first := s.pullState == .waiting
      let s := s.send .pt (.pullOrder c.strip l)
      let s := { s with puller := { s.puller with
        ordersQueued := s.puller.ordersQueued + l.length
        timer := if first then some s.puller.timeout else s.puller.timer } }
      if first then s.updatePullStrip fun x => { x with pullState := .ordered } else s
    else s

end Sys2Proof.Machine
end

