-- ==== Sys2Proof/Machine/BondOps.lean ====
section
/-! DEFINITION. The bond cycle controllers: the checks and the acceptance of a BOND-START, the close
of a bond, ball formation, pause and the operator's choices (R20 to R47, R64, R65, R72 to R76,
R79). -/

namespace Sys2Proof.Machine

/-! ## BOND-START -/

/-- R40: the stray event count of a head rises by `n`. -/
def State.stray (s : State) (h : Head) (n : Nat) : State :=
  s.updateHead h fun c => { c with stray := satAdd maxU16 c.stray n }

/-- The program that a wire's slot names for a kind, when it is VALID and of this kind. -/
def Tables.wireProgram (t : Tables) (x : Strip) (w : Nat) (k : BondKind) : Option Program :=
  let y := (t.wiresOf x).slot w
  t.programOf (match k with | .ball => y.ball | .stitch => y.stitch) k

/-- The number of the program that a wire's slot names for a kind. -/
def Tables.wireProgramNumber (t : Tables) (x : Strip) (w : Nat) (k : BondKind) : Nat :=
  let y := (t.wiresOf x).slot w
  match k with
  | .ball => y.ball
  | .stitch => y.stitch

/-- The phase in which a kind is due. -/
def BondKind.phase : BondKind → Phase
  | .ball => .ballDue
  | .stitch => .stitchDue

/-- R24, 02 TABLE 1: the reason of the first check that fails. -/
def bondStartReason (s : State) (head : Option Head) (strip u w : Nat) (k : Option BondKind) :
    Option Reason :=
  if s.mgmt.run = false then some .notRunning
  else match head with
  | none => some .portDown
  | some h =>
    let c := s.head h
    let p := s.port h.port
    if p.state = .down ∨ c.state = .offline then some .portDown
    else if c.state = .hold then some .held
    else if c.state ≠ .idle then some .busy
    else if s.track.inFlight.isSome then some .moving
    else match s.track.bond with
    | none => some .noStrip
    | some x =>
      if x.id ≠ strip then some .strip
      else if s.tables.inWindow x u = false then some .unitRange
      else match x.units[u]? with
      | none => some .unitRange
      | some r =>
        if r.state = .done ∨ r.state = .reject then some .unitClosed
        else if r.state = .claimed (otherHead h) then some .claimed
        else if c.claim.elim false (fun v => v != u) then some .otherUnit
        else if c.pause = some .afterUnit ∧ c.claim ≠ some u then some .held
        else if r.cursor ≠ some w then some .outOfOrder
        else match k with
        | none => some .phase
        | some k =>
          if r.phase ≠ k.phase then some .phase
          else if (s.tables.wireProgram x w k).isNone then some .table
          else if k = .ball ∧ c.efo ≠ .passed then some .noBall
          else if p.hasRoom h.port false = false then some .queueFull
          else none

/-- R26, R27, R49: an accepted BOND-START. -/
def State.acceptBond (s : State) (h : Head) (x : Strip) (u w : Nat) (k : BondKind) (p : Program) :
    State :=
  let c := s.head h
  let n := s.store.nextRecord
  let attempt := (x.units[u]?).elim 0 fun r => r.rebond
  let isBall := decide (k = .ball)
  let b : Bond := ⟨s.tables.wireProgramNumber x w k, k, n, x.id, u, w, attempt,
    if isBall then c.efoDuration else none⟩
  let s := if c.claim = none then s.updateUnit u fun r => { r with state := .claimed h } else s
  let s := { s with store := { s.store with nextRecord := nextInCycle n } }
  let s := s.setHead h { c with
    claim := some u
    bond := some b
    efoDuration := if isBall then none else c.efoDuration
    efo := if isBall then .none else c.efo
    state := .armed }
  let s := s.updateEngine h fun e => e.arm p.limits
  s.send h.port (.bondOrder k p.force p.us p.window n)

/-! ## The close -/

/-- R75: the distance back of the oldest UNPINNED record. -/
def oldestUnpinned (next : Nat) (l : List BondRecord) : Nat :=
  ((l.filter fun r => !r.pinned).map fun r => distanceBack next r.number).foldl max 0

/-- R74, R75: the oldest UNPINNED record leaves a full store. -/
def makeRoom (next : Nat) (l : List BondRecord) : List BondRecord :=
  if l.length < Config.storeSize then l
  else dropFirst (fun r => !r.pinned && distanceBack next r.number == oldestUnpinned next l) l

/-- R74: a record takes its place by its number, older first. -/
def insertRecord (next : Nat) (r : BondRecord) : List BondRecord → List BondRecord
  | [] => [r]
  | y :: l =>
    if distanceBack next y.number < distanceBack next r.number then r :: y :: l
    else y :: insertRecord next r l

/-- R74: a record is written. -/
def Store.write (x : Store) (r : BondRecord) : Store :=
  { x with records := insertRecord x.nextRecord r (makeRoom x.nextRecord x.records) }

/-- R73: the record of a closing bond. -/
def bondRecordOf (time : Nat) (h : Head) (b : Bond) (f : Figures) (abortLate link : Bool) :
    BondRecord where
  number := b.record
  time := time
  head := h
  strip := b.strip
  unit := b.unit
  wire := b.wire
  kind := b.kind
  program := b.program
  attempt := b.attempt
  cls := f.cls
  energy := f.energy
  peak := f.peak
  peakIndex := f.peakIndex
  deformation := f.deformation
  n := f.n
  missing := f.missing
  flags := ⟨f.limit, f.gap, f.long, abortLate, link⟩
  efo := b.efo
  pullRef := none
  pinned := false

/-- R46, R64: the nonstick alarm of a kind. -/
def nonstickAlarm : BondKind → AlarmClass
  | .ball => .nonstickBall
  | .stitch => .nonstickStitch

/-- R64: the alarms of a close, in their order. -/
def qualityAlarms (k : BondKind) (f : Figures) : List AlarmClass :=
  (match f.cls with
    | .nonstick => [nonstickAlarm k]
    | .overBond => [.overBond]
    | _ => []) ++
  (if f.cls = .noData ∨ (f.cls ≠ .aborted ∧ 16 ≤ f.missing) then [.sampleLoss] else [])

/-- R65: the weak run count after a close. -/
def moveWeakRun (n : Nat) : BondClass → Nat
  | .weak => satAdd 255 n 1
  | .good => 0
  | _ => n

/-- R65: the weak run moves, and WEAK-RUN is raised at the limit of the closed bond's program. -/
def State.weakRunStep (s : State) (h : Head) (f : Figures) (limit : Nat) : State :=
  let n := moveWeakRun (s.head h).weakRun f.cls
  let s := s.updateHead h fun c => { c with weakRun := n }
  if f.cls = .weak ∧ limit ≤ n then s.raise .weakRun (.head h) else s

/-- R76: the final pair of a completed wire is pinned, when both records are held. -/
def Store.pinWire (x : Store) (b : Bond) : Store :=
  match x.finalBall b.strip b.unit b.wire with
  | none => x
  | some r => { x with records := x.records.map fun y =>
      if y.number == r.number || y.number == b.record then { y with pinned := true } else y }

/-- R34: the unit record after a bond of class GOOD, WEAK or OVER. -/
def UnitRecord.completeHalf (r : UnitRecord) (m : WireMap) (b : Bond) (c : BondClass) : UnitRecord :=
  let r : UnitRecord := { r with
    weakCount := if c = BondClass.weak then satAdd maxU16 r.weakCount 1 else r.weakCount
    overCount := if c = BondClass.overBond then satAdd maxU16 r.overCount 1 else r.overCount }
  match b.kind with
  | .ball => { r with phase := .stitchDue }
  | .stitch =>
    let next := m.wireFrom (b.wire + 1)
    { r with
      completed := r.completed + 1
      cursor := next
      phase := .ballDue
      rebond := 0
      state := if next = none then .done else r.state }

/-- R34: the unit moves forward; a completed wire that the plan selects is pinned; the claim ends
with the last wire. -/
def State.completeStep (s : State) (h : Head) (b : Bond) (c : BondClass) (x : Strip) : State :=
  let m := s.tables.wiresOf x
  let s := s.updateUnit b.unit fun r => r.completeHalf m b c
  match b.kind with
  | .ball => s
  | .stitch =>
    let s := if x.pullDue && s.tables.selects x b.unit b.wire then
        { s with store := s.store.pinWire b } else s
    if m.wireFrom (b.wire + 1) = none then s.updateHead h fun c => { c with claim := none } else s

/-- R35: the rebond limit of the program of the bond. -/
def State.rebondLimit (s : State) (b : Bond) : Nat := (s.tables.program b.program).elim 0 fun p => p.rebond

/-- R35: a failed attempt; past the rebond limit the unit is rejected. -/
def State.failStep (s : State) (h : Head) (b : Bond) (x : Strip) : State :=
  let n := (x.units[b.unit]?).elim 0 (fun r => r.rebond) + 1
  let s := s.updateUnit b.unit fun r => { r with rebond := n }
  if s.rebondLimit b < n then
    let s := s.updateUnit b.unit fun r => { r with state := .reject }
    let s := s.updateHead h fun c => { c with claim := none }
    (s.releaseUnit x.id b.unit).raise .rebondLimit (.head h)
  else s

/-- R33 step 6: the unit record is moved forward by the class. -/
def State.moveUnit (s : State) (h : Head) (b : Bond) (c : BondClass) : State :=
  match s.track.bond with
  | none => s
  | some x => match c with
    | .good | .weak | .overBond => s.completeStep h b c x
    | .nonstick | .noData => s.failStep h b x
    | .aborted => s

/-- R33, R59: the bond in flight of a head closes, by LIFT or not. The head stands as ABORTING until
step 7, so that a SAFE-STOP that the close itself raises sends it no ABORT (log 20). -/
def State.closeBond (s : State) (h : Head) (lift abortLate link : Bool) : State :=
  let c := s.head h
  match c.bond with
  | none => s
  | some b =>
    let f := (s.engine h).figures lift
    let limit := ((s.engine h).limits).elim 0 fun l => l.weakRun
    let s := s.setHead h { c with state := .aborting, abortTimer := false }
    let s := s.updateEngine h fun e => e.close b.record f.cls
    let r := bondRecordOf s.mgmt.time h b f abortLate link
    let s := { s with store := s.store.write r }
    let s := s.updateHead h fun c => { c with results := c.results.countClass f.cls }
    let s := (qualityAlarms b.kind f).foldl (fun (s : State) a => s.raise a (.head h)) s
    let s := s.weakRunStep h f limit
    let s := s.send .u (.bondReport b.record h b.unit b.wire b.kind f.cls f.energy f.deformation r.flags)
    let s := s.moveUnit h b f.cls
    let s := s.updateHead h fun c =>
      { c with last := some ⟨f.cls, b.kind, f.energy, f.deformation⟩, bond := none,
               state := c.holds.state }
    if c.claim.isSome ∧ (s.head h).claim = none then s.claimEnded h else s

/-- R42: the port of a head has entered DOWN. -/
def State.headPortLost (s : State) (h : Head) : State :=
  let s := s.updateHead h fun c => { c with
    holds := { c.holds with link := true }
    efo := .none
    efoTimer := none
    efoStart := none }
  if (s.head h).state.inFlight then s.closeBond h false false true
  else s.updateHead h HeadCtx.followHolds

/-- R23: the port of a head has entered LIVE. -/
def State.headPortLive (s : State) (h : Head) : State :=
  (s.updateHead h fun c => { c with holds := { c.holds with link := false } }.followHolds).headFaultCleared h

/-! ## Ball formation -/

/-- R38 step 2: the lowest-numbered PENDING unit of the window column. -/
def Tables.firstPending (t : Tables) (x : Strip) : Option UnitRecord :=
  (x.units.zipIdx.find? fun y => y.1.state == .pending && t.inWindow x y.2).map fun y => y.1

/-- R38: the EFO part of the ball program that the head's next ball uses. -/
def State.efoPart (s : State) (h : Head) : Option EfoPart :=
  s.track.bond.bind fun x =>
    let unit := match (s.head h).claim with
      | some u => x.units[u]?
      | none => s.tables.firstPending x
    unit.bind fun r => r.cursor.bind fun w =>
      (s.tables.wireProgram x w .ball).bind fun p => p.efo

/-- R37: EFO-START in IDLE or HOLD. -/
def State.startEfo (s : State) (h : Head) (time : Nat) : State :=
  match (s.head h).state with
  | .idle | .hold =>
    let ms := (s.efoPart h).elim Config.efoDefaultMs fun e => e.timeout
    s.updateHead h fun c => { c with efo := .timing, efoStart := some time, efoTimer := some ms }
  | _ => s.stray h 1

/-- R38: EFO-END while TIMING. -/
def State.endEfo (s : State) (h : Head) (time : Nat) : State :=
  let c := s.head h
  if c.efo = .timing then
    let d := (time + 65536 - c.efoStart.getD 0) % 65536
    let passed := (s.efoPart h).elim true fun e => e.tMin ≤ d && d ≤ e.tMax
    let s := s.setHead h { c with
      efo := if passed then .passed else .failed
      efoStart := none
      efoTimer := none
      efoDuration := some d }
    if passed then s.conditionGone .efoFault (.head h) else s.raise .efoFault (.head h)
  else s.stray h 1

/-- R39: the EFO timer expires. -/
def State.expireEfo (s : State) (h : Head) : State :=
  let c := s.head h
  if c.efoTimer.isSome ∧ c.efo = .timing then
    (s.setHead h { c with efo := .failed, efoStart := none, efoTimer := none }).raise .efoFault (.head h)
  else s

/-! ## Pause and the operator's choices -/

/-- R44: PAUSE. -/
def State.pauseHead (s : State) (h : Head) (m : PauseMode) : State :=
  let s := s.updateHead h fun c => { c with pause := some m }
  match m with
  | .now => (s.updateHead h HeadCtx.addOperator).abortCause h
  | .afterBond => s.updateHead h HeadCtx.addOperator
  | .afterUnit => if (s.head h).claim = none then s.updateHead h HeadCtx.addOperator else s

/-- R45: RESUME. -/
def State.resumeHead (s : State) (h : Head) : State :=
  s.updateHead h fun c =>
    { c with holds := { c.holds with operator := false }, pause := none }.followHolds

/-- R46: RETRY. -/
def State.retryHead (s : State) (h : Head) : State :=
  match (s.head h).last with
  | none => s
  | some x => if x.cls = .nonstick then s.conditionGone (nonstickAlarm x.kind) (.head h) else s

/-- R47: REJECT-UNIT taken out of flight. -/
def State.rejectHeadUnit (s : State) (h : Head) : State :=
  match (s.head h).claim with
  | none => s.retryHead h
  | some u =>
    let s := s.updateUnit u fun r => { r with state := .reject }
    let s := s.updateHead h fun c => { c with claim := none }
    let s := s.track.bond.elim s fun x => s.releaseUnit x.id u
    (s.claimEnded h).retryHead h

end Sys2Proof.Machine
end

