-- ==== Sys2Proof/Machine/KeyOps.lean ====
section
/-! DEFINITION. The keys of the operator terminal: the steps of R157, their end with the message and
the KEY-NOTE (R157 to R159), and the acknowledgement by key (R146). -/

namespace Sys2Proof.Machine

/-- R157 step 1: the message becomes NONE. -/
def State.beginKey (s : State) : State :=
  { s with term := if s.term.denied then { s.term with denied := false }.mark 0 [7] else s.term }

/-- R157, R159: the outcome of a key; the KEY-NOTE is queued on port U. -/
def State.endKey (s : State) (code x y : Byte) (o : KeyOutcome) : State :=
  let s := match o with
    | .done => s
    | .denied => { s with term := s.term.deny }
  s.send .u (.keyNote code x y o)

/-- R157: a key that is denied at step 2, 3 or 4. -/
def State.denyKey (s : State) (code x y : Byte) : State := s.beginKey.endKey code x y .denied

/-- R157 steps 3 to 5: a key that needs an operator level and an operand that is understood; `body`
is its owning block's. -/
def State.takeKey {α : Type} (s : State) (level : Nat) (operand : Option α) (code x y : Byte)
    (body : α → State → State × KeyOutcome) : State :=
  if s.term.level < level then s.denyKey code x y
  else match operand with
    | none => s.denyKey code x y
    | some a =>
      let r := body a s.beginKey
      r.1.endKey code x y r.2

/-- R146: the entry that KEY ACK acknowledges at an operator level. -/
def ackChoice (l : List AlarmEntry) (level : Nat) : Option AlarmEntry :=
  l.find? fun e => e.unacked && (2 ≤ level || e.cls != .pullFail)

/-- R146: KEY ACK. -/
def State.keyAcknowledge (s : State) : State × KeyOutcome :=
  match ackChoice s.alarms.entries s.term.level with
  | some e => (s.acknowledge e, .done)
  | none => (s, if s.alarms.entries.any AlarmEntry.unacked then .denied else .done)

/-- R151: the scroll position, moved by a scroll key. -/
def Terminal.scrollTo (t : Terminal) (n : Nat) : Terminal :=
  if t.scroll = n then t else { t with scroll := n }.mark 1 [0, 1, 2, 3, 4, 5, 6, 7, 8]

/-- R155: a page becomes current. -/
def Terminal.toPage (t : Terminal) (n : Nat) : Terminal :=
  { t with page := n, changed := [], clearPending := true }.markAll

end Sys2Proof.Machine
end

