-- ==== Sys2Proof/Machine/Line.lean ====
section
/-! DEFINITION. A frame on the line (R162, 11.1): bits, stuffed zeros, the CRC of 16 bits, and the
receiver's judgement of what stands between a frame's header and its end delimiter. -/

namespace Sys2Proof.Machine

/-- 11.1: the bits of a byte as they go on the line, least significant first. -/
def byteBits (x : Byte) : List Bool := (List.range 8).map x.getLsbD

/-- The bits of bytes in the order in which they are sent. -/
def lineBits (l : List Byte) : List Bool := l.flatMap byteBits

/-- The byte of eight bits, least significant first. -/
def bitsByte (l : List Bool) : Byte :=
  (List.range 8).foldl (fun acc k => if l.getD k false then acc ||| BitVec.ofNat 8 (2 ^ k) else acc) 0

/-- The whole bytes of a bit sequence; `fuel` bounds how many are taken. -/
def bitsBytes : Nat → List Bool → List Byte
  | 0, _ => []
  | fuel + 1, l => if l.length < 8 then [] else bitsByte (l.take 8) :: bitsBytes fuel (l.drop 8)

/-- R162: the sender inserts a zero after every five ones in a row; `run` ones came just before. -/
def stuffFrom : Nat → List Bool → List Bool
  | _, [] => []
  | run, true :: l => if run = 4 then true :: false :: stuffFrom 0 l else true :: stuffFrom (run + 1) l
  | _, false :: l => false :: stuffFrom 0 l

/-- R162: the receiver removes a zero that follows five ones. The second part says that a sixth one
followed instead. -/
def unstuffFrom : Nat → List Bool → List Bool × Bool
  | _, [] => ([], false)
  | run, x :: l =>
    if run = 5 then if x then ([], true) else unstuffFrom 0 l
    else
      let rest := unstuffFrom (if x then run + 1 else 0) l
      (x :: rest.1, rest.2)

/-- The ones in a row at the end of data bits; five ones have their stuffed zero still to come. -/
def runAfter : Nat → List Bool → Nat
  | run, [] => run
  | run, x :: l => runAfter (if x then (if run = 5 then 1 else run + 1) else 0) l

/-- The bits after a header that ended with `run` ones. -/
def stuffTail (run : Nat) (l : List Bool) : List Bool :=
  if run = 5 then false :: stuffFrom 0 l else stuffFrom run l

/-- R162: one bit of the division by x^16 + x^12 + x^5 + 1. -/
def crcBit (r : BitVec 16) (x : Bool) : BitVec 16 :=
  if r.msb != x then (r <<< 1) ^^^ 0x1021#16 else r <<< 1

/-- R162: the complement of the register over these bytes, started with all ones. -/
def crc16 (l : List Byte) : BitVec 16 := ~~~((lineBits l).foldl crcBit 0xFFFF#16)

/-- 11 TABLE 1: the two CRC bytes, high byte first. -/
def crcBytes (l : List Byte) : List Byte :=
  let c := crc16 l
  [c.extractLsb' 8 8, c.extractLsb' 0 8]

/-- The four bytes of a header. -/
def Header.bytes (h : Header) : List Byte := [h.dst, h.src, h.kind, h.len]

/-- The header of a frame. -/
def frameHeader (f : Frame) : Header := ⟨f.dst, f.src, f.kind, BitVec.ofNat 8 f.payload.length⟩

/-- R162: what a sender puts on the line after the header and before the end delimiter. -/
def goodTail (f : Frame) : List Bool :=
  let h := Header.bytes (frameHeader f)
  stuffTail (runAfter 0 (lineBits h)) (lineBits (f.payload ++ crcBytes (h ++ f.payload)))

/-- The receiver's judgement of a frame (R162). -/
inductive LineVerdict where
  | good (payload : List Byte)
  | overlong
  | framing
  | crc
  deriving DecidableEq, Repr

/-- R162: a frame with this header whose bits up to the end delimiter are `tail`. The first failure
found decides (log 16): the length of the header, a 97th payload byte, the form, then the CRC. -/
def judgeTail (h : Header) (tail : List Bool) : LineVerdict :=
  let data := unstuffFrom (runAfter 0 (lineBits (Header.bytes h))) tail
  let bytes := bitsBytes data.1.length data.1
  if Config.maxPayload < h.len.toNat then .overlong
  else if Config.maxPayload + 2 < bytes.length then .overlong
  else if data.2 || data.1.length % 8 != 0 || bytes.length != h.len.toNat + 2 then .framing
  else
    let payload := bytes.take h.len.toNat
    if crcBytes (Header.bytes h ++ payload) == bytes.drop h.len.toNat then .good payload else .crc

end Sys2Proof.Machine
end

