-- ==== Sys2Proof/Machine/LinkOps.lean ====
section
/-! DEFINITION. The ports of the bond link: entering DOWN, QUIET and LIVE, wakes, the reception and
routing of frames, short frames, and how a block takes a frame (R161 to R177, R185, R188, R189). -/

namespace Sys2Proof.Machine

/-! ## Pass-through copies (R174) -/

def TxEntry.isArriving (e : TxEntry) : Bool :=
  match e.msg with
  | .arriving _ => true
  | _ => false

/-- R174: the copies of a failed frame leave this port's queue, each counted POISONED. -/
def PortRec.poisonCopies (p : PortRec) (rateU : Rate) : PortRec :=
  let n := (p.tx.filter TxEntry.isArriving).length
  if n = 0 then p
  else
    ({ p with
      tx := p.tx.filter fun e => !e.isArriving
      count := p.count.addPoisoned n } : PortRec).kick rateU |>.rest

/-- R174: the inbound frame has arrived whole; its copies stand whole. -/
def PortRec.completeCopies (p : PortRec) (rateU : Rate) (payload : List Byte) : PortRec :=
  ({ p with tx := p.tx.map fun e => match e.msg with
      | .arriving h => { e with msg := .forwarded ⟨h.dst, h.src, h.kind, payload⟩ }
      | _ => e } : PortRec).kick rateU

/-- Every downstream port changed by `f`. -/
def Ports.mapDownstream (ps : Ports) (f : PortRec → PortRec) : Ports :=
  { ps with ha := f ps.ha, hb := f ps.hb, ix := f ps.ix, pt := f ps.pt, ot := f ps.ot }

def State.poisonCopies (s : State) : State :=
  { s with ports := s.ports.mapDownstream fun p => p.poisonCopies s.ports.u.rate }

def State.completeCopies (s : State) (payload : List Byte) : State :=
  { s with ports := s.ports.mapDownstream fun p => p.completeCopies s.ports.u.rate payload }

/-! ## Port states -/

/-- R168 step 1: a frame is on the line: a begun one, or else a link control frame (log 19). -/
def PortRec.sending (p : PortRec) : Bool := p.tx.any (fun e => e.begun) || !p.control.isEmpty

/-- R168 step 2: the frames of the transmit queue that have not begun. -/
def PortRec.waitingTx (p : PortRec) : Nat := (p.tx.filter fun e => !e.begun).length

/-- R168 step 3: the whole frames of the receive queue. -/
def PortRec.wholeRx (p : PortRec) : Nat := (p.rx.filter fun e => e.body.isSome).length

/-- R168 steps 1 to 4: the port enters DOWN; `joined` says that the line is still joined. -/
def PortRec.goDown (p : PortRec) (joined : Bool) : PortRec :=
  let sent := if p.sending then 1 else 0
  let c := if joined then p.count.addPoisoned sent else p.count.addTxDrop sent
  { p with
    state := .down
    rx := []
    receiving := none
    tx := []
    control := []
    hoSent := false
    hoReceived := false
    sleepTimer := false
    retryTimer := false
    count := (c.addTxDrop p.waitingTx).addRxOverrun p.wholeRx }

/-- R168, R169: a port enters DOWN and its neighbour is told. -/
def State.enterDown (s : State) (x : Port) (joined : Bool) : State :=
  if (s.port x).state = .down then s
  else
    let s := s.updatePort x fun p => p.goDown joined
    match x with
    | .u => s.poisonCopies
    | .ha => s.headPortLost .a
    | .hb => s.headPortLost .b
    | .ix => s.refuseHeld .portDown
    | .pt => s
    | .ot => { s with term := { s.term with screenQueued := 0 } }

/-- R120, R121: port PT has entered QUIET. -/
def State.toldQuiet (s : State) (x : Port) : State := if x = .pt then s.pullWake else s

/-- R163, R153: a port leaves DOWN for QUIET. -/
def State.leaveDown (s : State) (x : Port) : State :=
  let s := s.updatePort x fun p => { p with state := .quiet }
  let s := if x = .ot then { s with term := { s.term with clearPending := true }.markAll } else s
  s.toldQuiet x

/-- R163: an enabled port whose line is ready leaves DOWN, unless the part is held in reset. -/
def State.tryLeaveDown (s : State) (x : Port) : State :=
  let p := s.port x
  if p.state = .down ∧ p.enabled = true ∧ p.lineReady = true ∧ s.inReset = false then s.leaveDown x
  else s

/-- R188: STARTED, on the first entry of port U into LIVE after a reset. -/
def State.startedOnce (s : State) : State :=
  if s.mgmt.started then s
  else
    { s with
      mgmt := { s.mgmt with started := true }
      ports := s.ports.enqueue .u true
        (.started s.mgmt.cause s.mgmt.run s.tables.state s.mgmt.own) }

/-- R164, R165, R170, R188: a port enters LIVE. The model's choice (log 42): a HOLD-OFF that is due at the
first LIVE of port U after a reset is sent ahead of STARTED. -/
def State.enterLive (s : State) (x : Port) : State :=
  let s := s.updatePort x fun p => { p with state := .live }.sendHoldOff
  let s := if x = .u then s.startedOnce else s
  let s := s.updatePort x fun p => (p.kick s.ports.u.rate).rest
  match x with
  | .ha => s.headPortLive .a
  | .hb => s.headPortLive .b
  | _ => s

/-- The entry of the frame being received is freed. -/
def PortRec.dropArriving (p : PortRec) : PortRec := { p with rx := p.rx.filter fun e => e.body.isSome }

/-- R162, R174: no use is made of the frame being received: its entry is freed, its copies leave. -/
def State.abandonFrame (s : State) (x : Port) : State :=
  let passing := x == .u && (s.port x).receiving.elim false fun r => r.fate == .passing
  let s := s.updatePort x fun p => { p.dropArriving with receiving := none }
  if passing then s.poisonCopies else s

/-- R164, R165: a wake fails; the retry timer of a far-end wake starts only with a frame queued. A
frame being received is abandoned without a count (log 15). -/
def State.wakeFailed (s : State) (x : Port) (o : WakeOrigin) : State :=
  let s := (s.abandonFrame x).updatePort x fun p => { p with
    state := .quiet
    retryTimer := match o with
      | .localEnd => true
      | .farEnd => !p.tx.isEmpty
    count := p.count.addWakeFail }
  s.toldQuiet x

/-- R163: the symbol time of a rate, in ps. -/
def Rate.symbolPs : Rate → Nat
  | .r6 => 160000
  | .r12 => 80000
  | .r25 => 40000
  | .r50 => 20000

/-- R164: an interval lies within 3 % of one symbol time. -/
def intervalPasses (r : Rate) (x : W32) : Bool :=
  let t := r.symbolPs
  let n := x.toNat
  ((n - t) + (t - n)) * 100 ≤ 3 * t

/-- R164: every interval of the training field passes. -/
def trainingPasses (r : Rate) (l : List W32) : Bool := l.all (intervalPasses r)

/-- R164, R165: a training field is judged. -/
def State.judgeTraining (s : State) (x : Port) (o : WakeOrigin) (l : List W32) : State :=
  if trainingPasses (s.port x).rate l then s.enterLive x else s.wakeFailed x o

/-! ## Failures on the line -/

/-- R177: the alarm of line errors on a port. -/
def lineAlarm : Port → AlarmClass × AlarmObject
  | .ha => (.headFault, .head .a)
  | .hb => (.headFault, .head .b)
  | x => (.linkError, .port x)

/-- R177: the sum of the three error counters. -/
def Counters.errors (c : Counters) : Nat := c.crc + c.framing + c.overlong

/-- R162, R177: a failed frame is counted and the line errors are judged. -/
def State.countError (s : State) (x : Port) (f : Counters → Counters) : State :=
  let s := s.updatePort x fun p => { p with count := f p.count }
  if s.mgmt.linkThreshold ≤ (s.port x).count.errors then s.raise (lineAlarm x).1 (lineAlarm x).2 else s

def Counters.addFraming (c : Counters) : Counters := { c with framing := satAdd maxU16 c.framing 1 }
def Counters.addCrc (c : Counters) : Counters := { c with crc := satAdd maxU16 c.crc 1 }
def Counters.addOverlong (c : Counters) : Counters := { c with overlong := satAdd maxU16 c.overlong 1 }

/-- R162, R174: the frame being received fails: its entry is freed, its copies are poisoned, and it is
counted. -/
def State.failFrame (s : State) (x : Port) (f : Counters → Counters) : State :=
  (s.abandonFrame x).countError x f

/-! ## Routing (R173) -/

/-- Kinds that a port takes itself (R171). -/
def isLinkControl (kind : Byte) : Bool := kind == Kind.holdOff || kind == Kind.go

/-- R173 step 1. -/
def isOwnKind (kind : Byte) : Bool :=
  kind == Kind.bondStart || kind == Kind.bondAbort || kind == Kind.index

/-- R175, R176: an address matches a node table entry. -/
def NodeEntry.matches (e : NodeEntry) (address : Byte) : Bool := (address &&& e.mask) == (e.address &&& e.mask)

/-- R176: the node table entry of a downstream port. -/
def Tables.node (t : Tables) (x : Port) : NodeEntry := t.nodes.getD (portCode x - 1) ⟨0, 0⟩

/-- R173 step 4: the first downstream port whose entry matches. -/
def Tables.route (t : Tables) (dst : Byte) : Option Port :=
  downstream.find? fun x => (t.node x).matches dst

/-- R173 step 3: the downstream ports that take a broadcast copy. -/
def Ports.broadcastTargets (ps : Ports) : List Port :=
  downstream.filter fun x => (ps.get x).state == .live || (ps.get x).state == .quiet

/-- R173: what becomes of a frame of port U by its header, and the ports that take a copy. -/
def routeOf (s : State) (h : Header) : RxFate × List Port :=
  if isLinkControl h.kind || isOwnKind h.kind then (.stored, [])
  else if h.dst = s.mgmt.own then (if h.kind = Kind.management then .stored else .dropped, [])
  else if h.dst = Config.broadcast then
    match s.ports.broadcastTargets with
    | [] => (.dropped, [])
    | l => (.passing, l)
  else match s.tables.route h.dst with
    | some x => (.passing, [x])
    | none => (.dropped, [])

/-- R162: frames arrive on a port that is WAKING or LIVE; on a DOWN or QUIET port they are none. -/
def PortState.hears : PortState → Bool
  | .down => false
  | .quiet => false
  | .waking _ => true
  | .live => true

/-- R162, R170: the frame being received has had its count already, and no entry. -/
def RxFate.counted : RxFate → Bool
  | .overrun => true
  | .passedOver => true
  | .stored => false
  | .passing => false
  | .dropped => false

/-- R162, R170: a header cuts off the frame being received, whose entry is freed. The model's choice (log
43): the frame of an alarm that the failure raises goes ahead of a GO that becomes due. -/
def State.cutOff (s : State) (x : Port) : State :=
  match (s.port x).receiving with
  | none => s
  | some r => if r.fate.counted then s
    else (s.failFrame x Counters.addFraming).updatePort x PortRec.sendGo

/-- R162, R170, R173, R174: a header completes on a port. A length above 96 fails the frame here; the
rest of it is passed over. The model's choices: where the 8 entries are taken, HOLD-OFF and GO overrun and
count like any frame (log 40); a frame that the router drops takes its entry, with HOLD-OFF where that is
due, and frees it at once (log 41). -/
def State.receiveHeader (s : State) (x : Port) (h : Header) : State :=
  if (s.port x).state.hears = false then s
  else
    let s := (s.cutOff x).updatePort x fun p => { p with sleepTimer := false }
    if Config.maxPayload < h.len.toNat then
      (s.updatePort x fun p => { p with receiving := some ⟨h, .passedOver⟩ }).countError x
        Counters.addOverlong
    else if Config.queueDepth ≤ (s.port x).rx.length then
      s.updatePort x fun p => { p with
        receiving := some ⟨h, .overrun⟩
        count := p.count.addRxOverrun 1 }
    else
      let route := if x = .u then routeOf s h else (.stored, [])
      let s := s.updatePort x fun p =>
        { p with rx := p.rx ++ [RxEntry.mk h none], receiving := some ⟨h, route.1⟩ }.sendHoldOff
      let s := if route.1 = .dropped then s.updatePort x fun p =>
          ({ p.dropArriving with count := p.count.addUnrouted }.sendGo) else s
      route.2.foldl (fun (s : State) y => s.send y (.arriving h)) s

/-! ## The end of a frame -/

/-- R185: a good frame received whole on port U. -/
def State.supervise (s : State) : State :=
  let s := { s with mgmt := { s.mgmt with
    supTimer := if s.mgmt.supervision = 0 then s.mgmt.supTimer else some s.mgmt.supervision } }
  s.conditionGone .linkLoss (.port .u)

/-- R189: what the part does with a short frame, and with an INDEX of neither kind (R96). -/
def State.shortFrame (s : State) (x : Port) (f : Frame) : State :=
  let l := f.payload
  match x with
  | .u => if f.kind = Kind.management then s.reply (byteAt l 0) (byteAt l 1) (.refused .range) else s
  | .ha => if f.kind = Kind.event then (s.stray .a 1).send .u (.forwarded f) else s.stray .a 1
  | .hb => if f.kind = Kind.event then (s.stray .b 1).send .u (.forwarded f) else s.stray .b 1
  | .ix => s.send .u (.forwarded f)
  | .pt => s.strayPull.send .u (.forwarded f)
  | .ot => s.denyKey (byteAt l 0) (byteAt l 1) (byteAt l 2)

/-- R175: the source of a frame from downstream does not match its port's entry. -/
def sourceWrong (s : State) (x : Port) (f : Frame) : Bool :=
  x != .u && !isLinkControl f.kind && !(s.tables.node x).matches f.src

def Counters.addSourceError (c : Counters) : Counters :=
  { c with sourceError := satAdd maxU16 c.sourceError 1 }

/-- R162, R170, R175: a stored frame has been received whole and good: it fills its entry, and waits
there for its turn. -/
def State.storeFrame (s : State) (x : Port) (f : Frame) : State :=
  s.updatePort x fun p =>
    if sourceWrong s x f then { p.dropArriving with count := p.count.addSourceError }
    else { p with rx := p.rx.map fun e =>
      if e.body.isNone then { e with body := some f.payload } else e }

/-- R173, R174, R185: a good frame by its way. -/
def State.goodFrame (s : State) (x : Port) (r : Receiving) (payload : List Byte) : State :=
  let s := s.updatePort x fun p => { p with receiving := none }
  let s := if x = .u ∧ isLinkControl r.hdr.kind = false then s.supervise else s
  match r.fate with
  | .stored => s.storeFrame x ⟨r.hdr.dst, r.hdr.src, r.hdr.kind, payload⟩
  | .passing => (s.updatePort x PortRec.dropArriving).completeCopies payload
  | .dropped => s
  | .overrun => s
  | .passedOver => s

/-- R162, R170: a frame ends on a port. The model's choice (log 43): where the end makes GO due and also
queues a frame of an alarm on the port, as the note of LINK-ERROR or LINK-LOSS on port U, the queued frame
begins first on a free line and GO follows it. -/
def State.receiveEnd (s : State) (x : Port) (tail : List Bool) : State :=
  if (s.port x).state.hears = false then s
  else
    let s := match (s.port x).receiving with
      | none => s.countError x Counters.addFraming
      | some r =>
        if r.fate.counted then s.updatePort x fun p => { p with receiving := none }
        else match judgeTail r.hdr tail with
          | .good payload => s.goodFrame x r payload
          | .overlong => s.failFrame x Counters.addOverlong
          | .framing => s.failFrame x Counters.addFraming
          | .crc => s.failFrame x Counters.addCrc
    s.updatePort x fun p => p.sendGo.rest

/-! ## The end of a transmission -/

def Msg.isScreen : Msg → Bool
  | .screenClear _ => true
  | .screenUpdate _ _ => true
  | _ => false

/-- R172: a begun frame whose inbound end is not awaited. -/
def TxEntry.leaves (e : TxEntry) : Bool := e.begun && !e.isArriving

/-- R170, R172: a frame's end delimiter has been sent. -/
def PortRec.frameSent (p : PortRec) (rateU : Rate) : PortRec :=
  let p := if p.tx.any TxEntry.leaves then { p with tx := dropFirst TxEntry.leaves p.tx }
    else if p.tx.any (fun e => e.begun) then p
    else { p with control := p.control.drop 1 }
  (p.kick rateU).rest

/-- R152: a screen frame leaves port OT. -/
def State.frameSent (s : State) (x : Port) : State :=
  let screen := x == .ot && (s.port x).tx.any fun e => e.leaves && e.msg.isScreen
  let s := s.updatePort x fun p => p.frameSent s.ports.u.rate
  if screen then { s with term := { s.term with screenQueued := s.term.screenQueued - 1 } } else s

/-! ## Taking a frame -/

/-- What a command answers. -/
abbrev Answer := Host.Outcome State Fault Refusal

/-- R189: the oldest whole frame of a port where it is short: it spells no command. -/
def State.shortOldest (s : State) (x : Port) : Option Frame :=
  (s.port x).oldest.filter fun f => (commandOfFrame strapsAssumed x f).isNone

/-- R170, R189: the short frame `f` at the front of the queue of port `x` is taken. -/
def State.takeShort (s : State) (x : Port) (f : Frame) : State :=
  ((s.updatePort x PortRec.freeOldest).shortFrame x f).markChanges s

/-- R189: up to `n` short frames at the front of the queue of port `x` are taken, oldest first. -/
def State.settleUpTo (x : Port) : Nat → State → State
  | 0, s => s
  | n + 1, s =>
    match s.shortOldest x with
    | none => s
    | some f => State.settleUpTo x n (s.takeShort x f)

/-- R170, R189: the short frames that are due on port `x` are taken in their order (log 4); a part held
in reset takes none (R182). -/
def State.settle (s : State) (x : Port) : State :=
  if s.inReset then s else State.settleUpTo x (s.port x).rx.length s

/-- The short frames that are due on every port are taken (log 1). -/
def State.settleAll (s : State) : State := allPorts.foldl (fun s x => s.settle x) s

/-- R170, R178, R182: a command that a frame of port `x` carries acts in its turn, behind the short
frames that are due; out of its turn it does nothing (logs 2 and 3). -/
def State.turn (s : State) (x : Port) (c : Instr) (act : State → State) : State :=
  let u := s.settle x
  if u.inTurn x c then act u else u

/-- A command that a received frame carries, in its turn: its entry is freed, the owning block acts, and
changed values mark their fields. -/
def State.taken (s : State) (x : Port) (c : Instr) (body : State → State) : State :=
  s.turn x c fun u => (body (u.takeRx x c)).markChanges u

/-- A management request with the CONTROL-REPLY it is answered by (R179). -/
def State.request (s : State) (c : Instr) (kind tag : Byte) (body : State → State × Reply) : State :=
  s.taken .u c fun s => (body s).1.reply kind tag (body s).2

/-- R179: a TABLE-READ is answered by a READ-REPLY, or refused. -/
def State.tableRead (s : State) (c : Instr) (tag code index : Byte)
    (contents : State → Except Reason ReadContents) : State :=
  s.taken .u c fun s => match contents s with
    | .ok x => s.readReply tag code index x
    | .error r => s.reply 1 tag (.refused r)

end Sys2Proof.Machine
end

