-- ==== Sys2Proof/Machine/Bond.lean ====
section
/-! DEFINITION. The meanings of the commands of the bond cycle and the quality engine (chapters 2
and 3). -/

namespace Sys2Proof.Machine

/-- BOND_START (R24 to R27, R173). -/
def execBondStart (head : Byte) (strip : W16) (unit wire kind : Byte) (s : State) : Answer :=
  .next (s.taken .u (.bondStart head strip unit wire kind) fun s =>
    let k := bondKindOf kind
    match bondStartReason s (headOf head) strip.toNat unit.toNat wire.toNat k with
    | some r => s.send .u (.bondRefused head strip unit wire r)
    | none =>
      match headOf head, s.track.bond, k with
      | some h, some x, some k =>
        match s.tables.wireProgram x wire.toNat k with
        | some p => s.acceptBond h x unit.toNat wire.toNat k p
        | none => s
      | _, _, _ => s)

/-- BOND_ABORT (R40, R173): a head field that names neither head changes nothing. -/
def execBondAbort (head : Byte) (s : State) : Answer :=
  .next (s.taken .u (.bondAbort head) fun s =>
    match headOf head with
    | none => s
    | some h => s.abortCause h)

/-- ABORT_TIMER_EXPIRY (R41). -/
def execAbortTimerExpiry (h : Head) (s : State) : Answer :=
  .next (if (s.head h).abortTimer = true ∧ (s.head h).state = .aborting then
    s.happens fun s =>
      ((s.closeBond h false false false).raise .headFault (.head h)).updateHead h fun c =>
        { c with pause := some .now }.addOperator
    else s)

/-- TOUCHDOWN (R30, R50). -/
def execTouchdown (h : Head) (e : Envelope) (z : W16) (stamp : Byte) (s : State) : Answer :=
  let c : Instr := .touchdown h e z stamp
  .next (s.taken h.port c fun s =>
    (if (s.head h).state = .armed then
      (s.updateHead h fun c => { c with state := .inBond }).updateEngine h fun e =>
        e.openWindow z.toNat stamp.toNat
    else s.stray h 1).forward c)

/-- LIFT (R31). -/
def execLift (h : Head) (e : Envelope) (s : State) : Answer :=
  let c : Instr := .lift h e
  .next (s.taken h.port c fun s =>
    (match (s.head h).state with
    | .armed => s.closeBond h true false false
    | .inBond => s.closeBond h true false false
    | .aborting => s.closeBond h true true false
    | .offline | .idle | .hold => s.stray h 1).forward c)

/-- ABORTED (R32). -/
def execAborted (h : Head) (e : Envelope) (s : State) : Answer :=
  let c : Instr := .aborted h e
  .next (s.taken h.port c fun s =>
    (if (s.head h).state.inFlight then s.closeBond h false false false else s.stray h 1).forward c)

/-- HEAD_FAULT (R36): raised in every head state. -/
def execHeadFault (h : Head) (e : Envelope) (code : Byte) (s : State) : Answer :=
  let c : Instr := .headFault h e code
  .next (s.taken h.port c fun s => (s.raise .headFault (.head h)).forward c)

/-- STRAY_EVENT (R36): an event kind of any other code. -/
def execStrayEvent (h : Head) (e : Envelope) (code : Byte) (s : State) : Answer :=
  let c : Instr := .strayEvent h e code
  .next (s.taken h.port c fun s => (s.stray h 1).forward c)

/-- SAMPLE (R51 to R57). -/
def execSample (h : Head) (stamp : Byte) (xs : List Triple) (s : State) : Answer :=
  .next (s.taken h.port (.sample h stamp xs) fun s =>
    if xs.length = 0 ∨ 6 < xs.length then s.stray h 1
    else if (s.engine h).state ≠ .opened then s.stray h xs.length
    else if (s.engine h).ahead stamp.toNat < 128 then
      s.updateEngine h fun e => e.takeFrame stamp.toNat xs
    else s.stray h xs.length)

/-- EFO_START (R37). -/
def execEfoStart (h : Head) (e : Envelope) (time : W16) (s : State) : Answer :=
  let c : Instr := .efoStart h e time
  .next (s.taken h.port c fun s => (s.startEfo h time.toNat).forward c)

/-- EFO_END (R38). -/
def execEfoEnd (h : Head) (e : Envelope) (time : W16) (s : State) : Answer :=
  let c : Instr := .efoEnd h e time
  .next (s.taken h.port c fun s => (s.endEfo h time.toNat).forward c)

/-- EFO_TIMER_EXPIRY (R39). -/
def execEfoTimerExpiry (h : Head) (s : State) : Answer :=
  .next (s.happens fun s => s.expireEfo h)

end Sys2Proof.Machine
end

