-- ==== Sys2Proof/Machine/Keys.lean ====
section
/-! DEFINITION. The meanings of the commands of the operator terminal (chapter 8). -/

namespace Sys2Proof.Machine

/-- R152: a screen frame may be queued. -/
def screenReady (s : State) : Bool :=
  (s.port .ot).state != .down && s.term.screenQueued < 2 && (s.port .ot).hasRoom .ot false &&
    (s.term.clearPending || !s.term.changed.isEmpty)

/-- SCREEN_FRAME_QUEUED (R149, R152): a SCREEN-CLEAR, else a SCREEN-UPDATE of up to 8 fields. -/
def execScreenFrameQueued (s : State) : Answer :=
  .next (
    if screenReady s then
      let t := s.term
      if t.clearPending then
        { s.send .ot (.screenClear t.page) with
          term := { t with clearPending := false, screenQueued := t.screenQueued + 1 } }
      else
        { s.send .ot (.screenUpdate t.page
            ((t.changed.take 8).map fun k => (k, fieldValue s t.page k))) with
          term := { t with changed := t.changed.drop 8, screenQueued := t.screenQueued + 1 } }
    else s)

/-- REFRESH_TIMER_EXPIRY (R154). -/
def execRefreshTimerExpiry (s : State) : Answer :=
  .next { s with term := { s.term.markAll with refreshTimer := s.term.refreshPeriod } }

/-- KEY_PAGE (R155). -/
def execKeyPage (page : Byte) (s : State) : Answer :=
  .next (s.taken .ot (.keyPage page) fun s =>
    s.takeKey 0 (some ()) 0 page 0 fun _ s =>
      if page.toNat ≤ 5 then ({ s with term := s.term.toPage page.toNat }, .done) else (s, .denied))

/-- KEY_SCROLL_UP (R151). -/
def execKeyScrollUp (s : State) : Answer :=
  .next (s.taken .ot .keyScrollUp fun s =>
    s.takeKey 0 (some ()) 1 0 0 fun _ s =>
      ({ s with term := s.term.scrollTo (s.term.scroll - 1) }, .done))

/-- KEY_SCROLL_DOWN (R151). -/
def execKeyScrollDown (s : State) : Answer :=
  .next (s.taken .ot .keyScrollDown fun s =>
    s.takeKey 0 (some ()) 2 0 0 fun _ s =>
      let n := if s.term.scroll + 8 < s.alarms.entries.length then s.term.scroll + 1 else s.term.scroll
      ({ s with term := s.term.scrollTo n }, .done))

/-- KEY_ACK (R146). -/
def execKeyAck (s : State) : Answer :=
  .next (s.taken .ot .keyAck fun s =>
    s.takeKey 1 (some ()) 3 0 0 fun _ s => s.keyAcknowledge)

/-- KEY_PAUSE (R44, R158). -/
def execKeyPause (head mode : Byte) (s : State) : Answer :=
  .next (s.taken .ot (.keyPause head mode) fun s =>
    s.takeKey 1 ((headOf head).bind fun h => (pauseModeOf mode).map fun m => (h, m)) 4 head mode
      fun x s => (s.pauseHead x.1 x.2, .done))

/-- KEY_RESUME (R45, R158). -/
def execKeyResume (head : Byte) (s : State) : Answer :=
  .next (s.taken .ot (.keyResume head) fun s =>
    s.takeKey 1 (headOf head) 5 head 0 fun h s => (s.resumeHead h, .done))

/-- KEY_RETRY (R46, R158). -/
def execKeyRetry (head : Byte) (s : State) : Answer :=
  .next (s.taken .ot (.keyRetry head) fun s =>
    s.takeKey 1 (headOf head) 6 head 0 fun h s => (s.retryHead h, .done))

/-- KEY_REJECT_UNIT (R47, R158): denied while the head is in flight. -/
def execKeyRejectUnit (head : Byte) (s : State) : Answer :=
  .next (s.taken .ot (.keyRejectUnit head) fun s =>
    s.takeKey 1 (headOf head) 7 head 0 fun h s =>
      if (s.head h).state.inFlight then (s, .denied) else (s.rejectHeadUnit h, .done))

/-- R127: RELEASE-PULL. -/
def State.releasePull (s : State) (h : Head) : State :=
  ({ s with puller := s.puller.setRun h 0 } : State).conditionGone .pullFail (.head h)

/-- KEY_RELEASE_PULL (R127, R158). -/
def execKeyReleasePull (head : Byte) (s : State) : Answer :=
  .next (s.taken .ot (.keyReleasePull head) fun s =>
    s.takeKey 2 (headOf head) 8 head 0 fun h s => (s.releasePull h, .done))

/-- KEY_UNKNOWN (R157 step 2). -/
def execKeyUnknown (code : Byte) (s : State) : Answer :=
  .next (s.taken .ot (.keyUnknown code) fun s => s.denyKey code 0 0)

/-- TERMINAL_LEVEL (R156). -/
def execTerminalLevel (tag level : Byte) (s : State) : Answer :=
  .next (s.request (.terminalLevel tag level) 8 tag fun s =>
    if 2 < level.toNat then (s, .refused .range)
    else ({ s with term := { s.term with level := level.toNat }.mark 0 [8] }, .accepted))

end Sys2Proof.Machine
end

