-- ==== Sys2Proof/Machine/ResetOps.lean ====
section
/-! DEFINITION. The four reset kinds and the supply monitor (R18, R20, R48, R71, R78, R85, R86, R115,
R134, R148, R161, R182, R183, R186, R187). -/

namespace Sys2Proof.Machine

/-- R186: the selected warning level, in mV. -/
def Mgmt.warnLevel (m : Mgmt) : Nat := if m.warnHigh then Config.warnHighMv else Config.warnLowMv

def State.setSupplyLow (s : State) (x : Bool) : State := { s with mgmt := { s.mgmt with supplyLow := x } }

/-- R186: the supply state becomes LOW and SUPPLY-LOW is raised. -/
def State.supplyFalls (s : State) : State :=
  if s.mgmt.supplyLow then s else (s.setSupplyLow true).raise .supplyLow .part

/-- R186: the supply state becomes NORMAL and the condition of SUPPLY-LOW is gone. -/
def State.supplyRises (s : State) : State :=
  if s.mgmt.supplyLow then (s.setSupplyLow false).conditionGone .supplyLow .part else s

/-- R186: the supply is judged against the selected level. The spec says nothing of the supply between
two supply events: the model judges the level that the last one carried (log 39). -/
def State.judgeSupply (s : State) : State :=
  if s.mgmt.supplyMv < s.mgmt.warnLevel then s.supplyFalls
  else if s.mgmt.warnLevel + Config.hysteresisMv < s.mgmt.supplyMv then s.supplyRises
  else s

/-- R161: the ports after a reset. -/
def Ports.afterReset (ps : Ports) (x : Straps) (keep : Bool) : Ports :=
  let down (p : PortRec) := PortRec.afterReset false p.lineReady (if keep then p.rate else .r25)
  { u := PortRec.afterReset true ps.u.lineReady (strapRate x)
    ha := down ps.ha
    hb := down ps.hb
    ix := down ps.ix
    pt := down ps.pt
    ot := down ps.ot }

/-- R71, R78: the store after a reset. -/
def Store.afterReset (x : Store) (keep : Bool) : Store :=
  if keep then
    { x with records := x.records.map fun r => { r with pinned := false }, fetch := none }
  else Store.initial

/-- R86: the track record after a reset. -/
def Track.afterReset (t : Track) (keep : Bool) : Track :=
  if keep then
    { Track.initial with
      loadCount := t.loadCount
      inputType := t.inputType
      holdTimeout := t.holdTimeout
      doneTimeout := t.doneTimeout }
  else Track.initial

/-- R115: the pull controller after a reset. -/
def Puller.afterReset (p : Puller) (keep : Bool) : Puller :=
  if keep then { Puller.initial with timeout := p.timeout, log := p.log, nextPull := p.nextPull }
  else Puller.initial

/-- R148: the terminal server after a reset. -/
def Terminal.afterReset (t : Terminal) (keep : Bool) : Terminal :=
  if keep then { Terminal.initial with refreshPeriod := t.refreshPeriod, refreshTimer := t.refreshPeriod }
  else Terminal.initial

/-- R161, R182, R186, R187: the management unit after a reset. -/
def Mgmt.afterReset (m : Mgmt) (x : Straps) (cause : ResetCause) (keep : Bool) : Mgmt where
  run := false
  time := 0
  cause := cause
  supervision := 0
  supTimer := none
  started := false
  own := strapOwn x
  linkThreshold := if keep then m.linkThreshold else 100
  supplyLow := false
  warnHigh := keep && m.warnHigh
  supplyMv := m.supplyMv
  powerMark := true
  supplyDown := m.supplyDown
  pinLow := m.pinLow

/-- R182: a reset is taken by every block at once. `keep` is true for COMMAND. TRACK-UNKNOWN is
listed, then the supply is judged; a FREEZE of theirs finds port IX DOWN and counts (log 45). No field is marked. Port U, enabled by the reset, enters QUIET when
its line is ready (R163, R188, log 12). The queue of waiting commands is not the part's and stays
(log 1). -/
def State.takeReset (s : State) (x : Straps) (cause : ResetCause) (keep : Bool) : State :=
  let s : State :=
    { tables := if keep then s.tables else Tables.initial
      headA := HeadCtx.initial
      headB := HeadCtx.initial
      engineA := Engine.initial
      engineB := Engine.initial
      store := s.store.afterReset keep
      track := s.track.afterReset keep
      puller := s.puller.afterReset keep
      alarms := Alarms.initial
      term := s.term.afterReset keep
      ports := s.ports.afterReset x keep
      mgmt := s.mgmt.afterReset x cause keep
      pending := s.pending }
  let s := (s.raise .trackUnknown .track).judgeSupply
  let s : State := { s with term := { s.term with changed := [] } }
  s.tryLeaveDown .u

/-- R182, log 33: the part is held; every port enters DOWN. -/
def State.hold (s : State) : State := allPorts.foldl (fun s x => s.enterDown x false) s

end Sys2Proof.Machine
end

