-- ==== Sys2Proof/Machine/Control.lean ====
section
/-! DEFINITION. The meanings of the CONTROL operations (11 TABLE 20). -/

namespace Sys2Proof.Machine

/-- A CONTROL request with its CONTROL-REPLY. -/
def State.control (s : State) (c : Instr) (tag : Byte) (body : State → State × Reply) : State :=
  s.request c 3 tag body

/-- A CONTROL request whose field must name something; it is refused RANGE where it names nothing. -/
def State.controlOn {α : Type} (s : State) (c : Instr) (tag : Byte) (operand : Option α)
    (body : α → State → State × Reply) : State :=
  s.control c tag fun s => match operand with
    | none => (s, .refused .range)
    | some a => body a s

/-- CONTROL_RUN (R180). -/
def execControlRun (tag : Byte) (s : State) : Answer :=
  .next (s.control (.controlRun tag) tag fun s =>
    if s.mgmt.run then (s.conditionGone .tableInvalid .part, .accepted)
    else if s.tables.state.usable != 0 && s.tables.usable s.track.inputType then
      (({ s with mgmt := { s.mgmt with run := true } } : State).conditionGone .tableInvalid .part,
        .accepted)
    else (s.raise .tableInvalid .part, .refused .invalid))

/-- R181: CONFIG is refused in RUN. -/
def configBusy (s : State) : Bool :=
  s.headA.claim.isSome || s.headB.claim.isSome || s.track.held.isSome || s.track.inFlight.isSome ||
    s.pullState == .ordered

/-- CONTROL_CONFIG (R181). -/
def execControlConfig (tag : Byte) (s : State) : Answer :=
  .next (s.control (.controlConfig tag) tag fun s =>
    if s.mgmt.run && configBusy s then (s, .refused .busy)
    else ({ s with mgmt := { s.mgmt with run := false } }, .accepted))

/-- CONTROL_SUPERVISION (R185): the time is stored and the timer stops. -/
def execControlSupervision (tag steps : Byte) (s : State) : Answer :=
  .next (s.control (.controlSupervision tag steps) tag fun s =>
    ({ s with mgmt := { s.mgmt with supervision := steps.toNat, supTimer := none } }, .accepted))

/-- 11 TABLE 20: the warning level of a code; true is HIGH. -/
def warnLevelOf (code : Byte) : Option Bool :=
  if code = 0 then some true else if code = 1 then some false else none

/-- CONTROL_SUPPLY_LEVEL (R186). -/
def execControlSupplyLevel (tag code : Byte) (s : State) : Answer :=
  .next (s.controlOn (.controlSupplyLevel tag code) tag (warnLevelOf code) fun x s =>
    (({ s with mgmt := { s.mgmt with warnHigh := x } } : State).judgeSupply, .accepted))

/-- CONTROL_INPUT_TYPE (R95). -/
def execControlInputType (tag device : Byte) (s : State) : Answer :=
  .next (s.control (.controlInputType tag device) tag fun s =>
    let d := device.toNat
    if 7 < d then (s, .refused .range)
    else if s.mgmt.run && !s.tables.usable d then (s, .refused .invalid)
    else ({ s with track := { s.track with
        inputType := d
        stripCounter := if s.track.inputType = d then s.track.stripCounter else 0 } }, .accepted))

/-- CONTROL_INDEX_TIMERS (R95). -/
def execControlIndexTimers (tag hold done : Byte) (s : State) : Answer :=
  .next (s.control (.controlIndexTimers tag hold done) tag fun s =>
    ({ s with track := { s.track with
        holdTimeout := clampTo 1 255 hold.toNat
        doneTimeout := clampTo 1 255 done.toNat } },
      if hold = 0 ∨ done = 0 then .clamped else .accepted))

/-- R93: the input magazine's slot `k` is set to STOP or cleared. -/
def State.setStop (s : State) (k : Nat) (set : Bool) : State × Reply :=
  let m := s.track.magIn
  if m.state = .absent ∨ k = 0 ∨ m.count < k then (s, .refused .range)
  else if s.track.inFlight.elim false (fun q => q.inSlot == some k) then (s, .refused .busy)
  else match m.slot k, set with
    | .unreached, true =>
      let put (st : MagInState) : State := { s with track := { s.track with
        magIn := { m with slots := m.slots.set (k - 1) .stop, state := st } } }
      if k = m.cursor ∧ m.state = .ready then ((put .exhausted).raise .magInEmpty .track, .accepted)
      else (put m.state, .accepted)
    | .unreached, false => (s, .accepted)
    | .stop, true => (s, .accepted)
    | .stop, false =>
      if m.cursor < k then
        ({ s with track := { s.track with
          magIn := { m with slots := m.slots.set (k - 1) .unreached } } }, .accepted)
      else (s, .refused .inconsistent)
    | .taken, _ => (s, .refused .inconsistent)
    | .empty, _ => (s, .refused .inconsistent)

/-- CONTROL_MAG_STOP (R93). -/
def execControlMagStop (tag slot : Byte) (set : Bool) (s : State) : Answer :=
  .next (s.control (.controlMagStop tag slot set) tag fun s => s.setStop slot.toNat set)

/-- CONTROL_PAUSE (R44). -/
def execControlPause (tag head mode : Byte) (s : State) : Answer :=
  .next (s.controlOn (.controlPause tag head mode) tag
    ((headOf head).bind fun h => (pauseModeOf mode).map fun m => (h, m)) fun x s =>
      (s.pauseHead x.1 x.2, .accepted))

/-- CONTROL_RESUME (R45). -/
def execControlResume (tag head : Byte) (s : State) : Answer :=
  .next (s.controlOn (.controlResume tag head) tag (headOf head) fun h s => (s.resumeHead h, .accepted))

/-- CONTROL_RETRY (R46). -/
def execControlRetry (tag head : Byte) (s : State) : Answer :=
  .next (s.controlOn (.controlRetry tag head) tag (headOf head) fun h s => (s.retryHead h, .accepted))

/-- CONTROL_REJECT_UNIT (R47): BUSY while the head is in flight. -/
def execControlRejectUnit (tag head : Byte) (s : State) : Answer :=
  .next (s.controlOn (.controlRejectUnit tag head) tag (headOf head) fun h s =>
    if (s.head h).state.inFlight then (s, .refused .busy) else (s.rejectHeadUnit h, .accepted))

/-- CONTROL_TRACE_CAPTURE (R68). -/
def execControlTraceCapture (tag head : Byte) (on : Bool) (s : State) : Answer :=
  .next (s.controlOn (.controlTraceCapture tag head on) tag (headOf head) fun h s =>
    (s.updateEngine h fun e => { e with capture := on }, .accepted))

/-- CONTROL_TRACE_RELEASE (R70). -/
def execControlTraceRelease (tag head : Byte) (s : State) : Answer :=
  .next (s.controlOn (.controlTraceRelease tag head) tag (headOf head) fun h s =>
    (s.updateEngine h Engine.release, .accepted))

/-- R80: the result counters and the stray event count of a head become 0. -/
def HeadCtx.clearResults (c : HeadCtx) : HeadCtx := { c with results := Results.zero, stray := 0 }

/-- CONTROL_CLEAR_RESULTS (R80). -/
def execControlClearResults (tag head : Byte) (s : State) : Answer :=
  .next (s.controlOn (.controlClearResults tag head) tag (headsOf head) fun l s =>
    (l.foldl (fun (s : State) h => s.updateHead h HeadCtx.clearResults) s, .accepted))

/-- CONTROL_PULL_TIMER (R115). -/
def execControlPullTimer (tag seconds : Byte) (s : State) : Answer :=
  .next (s.control (.controlPullTimer tag seconds) tag fun s =>
    ({ s with puller := { s.puller with timeout := clampTo 1 255 seconds.toNat } },
      if seconds = 0 then .clamped else .accepted))

/-- CONTROL_PULL_CANCEL (R129). -/
def execControlPullCancel (tag : Byte) (s : State) : Answer :=
  .next (s.control (.controlPullCancel tag) tag fun s =>
    if s.puller.current.isSome ∧ (s.pullState = .waiting ∨ s.pullState = .ordered) then
      (s.giveNoResults.endPull, .accepted)
    else (s, .refused .inconsistent))

/-- CONTROL_CLEAR_PULL_STATS (R126): BOTH clears the stray result count as well. -/
def execControlClearPullStats (tag head : Byte) (s : State) : Answer :=
  .next (s.controlOn (.controlClearPullStats tag head) tag (headsOf head) fun l s =>
    let p := l.foldl (fun (p : Puller) h => p.setStats h PullStats.cleared) s.puller
    ({ s with puller := if head = 2 then { p with stray := 0 } else p }, .accepted))

/-- CONTROL_RELEASE_PULL (R127). -/
def execControlReleasePull (tag head : Byte) (s : State) : Answer :=
  .next (s.controlOn (.controlReleasePull tag head) tag (headOf head) fun h s =>
    (s.releasePull h, .accepted))

/-- CONTROL_SCREEN_REFRESH (R154). -/
def execControlScreenRefresh (tag steps : Byte) (s : State) : Answer :=
  .next (s.control (.controlScreenRefresh tag steps) tag fun s =>
    ({ s with term := { s.term with refreshPeriod := clampTo 1 25 steps.toNat } },
      if clampTo 1 25 steps.toNat = steps.toNat then .accepted else .clamped))

/-- CONTROL_PORT_ENABLE (R163). -/
def execControlPortEnable (tag port : Byte) (s : State) : Answer :=
  .next (s.controlOn (.controlPortEnable tag port) tag (portOf port) fun x s =>
    ((s.updatePort x fun p => { p with enabled := true }).tryLeaveDown x, .accepted))

/-- R167: PORT-DISABLE is carried out: the enabled mark is cleared and the port enters DOWN with its
line still joined. -/
def State.standDown (s : State) (x : Port) : State × Reply :=
  ((s.updatePort x fun p => { p with enabled := false }).enterDown x true, .accepted)

/-- CONTROL_PORT_DISABLE (R167, R168). -/
def execControlPortDisable (tag port : Byte) (force : Bool) (s : State) : Answer :=
  .next (s.controlOn (.controlPortDisable tag port force) tag (downstreamOf port) fun x s =>
    match (s.port x).state with
    | .down => s.standDown x
    | .quiet => s.standDown x
    | .waking .farEnd => if force then s.standDown x else (s, .cancelled)
    | .waking .localEnd => if force then s.standDown x else (s, .refused .busy)
    | .live => if force then s.standDown x else (s, .refused .busy))

/-- CONTROL_PORT_RATE (R163). -/
def execControlPortRate (tag port rate : Byte) (s : State) : Answer :=
  .next (s.controlOn (.controlPortRate tag port rate) tag
    ((downstreamOf port).bind fun x => (rateOf rate).map fun r => (x, r)) fun y s =>
      match (s.port y.1).state with
      | .down => (s.updatePort y.1 fun p => { p with rate := y.2 }, .accepted)
      | .quiet => (s.updatePort y.1 fun p => { p with rate := y.2 }, .accepted)
      | .waking _ => (s, .refused .busy)
      | .live => (s, .refused .busy))

/-- CONTROL_LINK_THRESHOLD (R177). -/
def execControlLinkThreshold (tag : Byte) (threshold : W16) (s : State) : Answer :=
  .next (s.control (.controlLinkThreshold tag threshold) tag fun s =>
    ({ s with mgmt := { s.mgmt with linkThreshold := clampTo 1 maxU16 threshold.toNat } },
      if threshold = 0 then .clamped else .accepted))

/-- 11 TABLE 20: the ports that CLEAR-COUNTERS names; 6 stands for ALL. -/
def countersOf (port : Byte) : Option (List Port) :=
  if port = 6 then some allPorts else (portOf port).map fun x => [x]

/-- CONTROL_CLEAR_COUNTERS (R177). -/
def execControlClearCounters (tag port : Byte) (s : State) : Answer :=
  .next (s.controlOn (.controlClearCounters tag port) tag (countersOf port) fun l s =>
    let s := l.foldl (fun (s : State) x => s.updatePort x fun p => { p with count := Counters.zero }) s
    (s.conditionsGone fun e => e.cls == .linkError && l.any fun x => e.obj == .port x, .accepted))

end Sys2Proof.Machine
end

