-- ==== Sys2Proof/Machine/Fetch.lean ====
section
/-! DEFINITION. The meanings of the record fetches and of their replies (R70, R81 to R84, R133). -/

namespace Sys2Proof.Machine

/-- R81: a RECORD-FETCH that passes becomes the fetch in progress and has no CONTROL-REPLY. -/
def State.startFetch (s : State) (tag : Byte) (ok : Bool) (count : Byte) (f : Fetch) : State :=
  if !(ok && 1 ≤ count.toNat && count.toNat ≤ 16) then s.reply 2 tag (.refused .range)
  else if s.store.fetch.isSome then s.reply 2 tag (.refused .busy)
  else { s with store := { s.store with fetch := some f } }

/-- RECORD_FETCH_BOND (R81). -/
def execRecordFetchBond (tag : Byte) (first : W32) (count : Byte) (s : State) : Answer :=
  .next (s.taken .u (.recordFetchBond tag first count) fun s =>
    s.startFetch tag (first != 0) count (.bond tag first.toNat count.toNat))

/-- RECORD_FETCH_TRACE (R81). -/
def execRecordFetchTrace (tag head : Byte) (first : W32) (count : Byte) (s : State) : Answer :=
  .next (s.taken .u (.recordFetchTrace tag head first count) fun s =>
    s.startFetch tag (headOf head).isSome count
      (.trace tag ((headOf head).getD .a) first.toNat 0 count.toNat))

/-- RECORD_FETCH_PULL (R81, R133). -/
def execRecordFetchPull (tag : Byte) (first : W32) (count : Byte) (s : State) : Answer :=
  .next (s.taken .u (.recordFetchPull tag first count) fun s =>
    s.startFetch tag (first != 0) count (.pull tag first.toNat count.toNat))

/-- RECORD_FETCH_UNKNOWN_STORE (R81 step 1). -/
def execRecordFetchUnknownStore (tag store : Byte) (s : State) : Answer :=
  .next (s.taken .u (.recordFetchUnknownStore tag store) fun s =>
    s.reply 2 tag (.refused .unknownTable))

/-- R83, R133: a number was given in the past. -/
def wasGiven (next n : Nat) : Bool :=
  1 ≤ distanceBack next n && distanceBack next n ≤ 2147483647

/-- R83: the record number of the bond in flight on a head. -/
def HeadCtx.reserved (c : HeadCtx) : Option Nat := c.bond.map fun b => b.record

/-- R83: the answer for a record number. -/
def bondItem (s : State) (n : Nat) : BondItem :=
  match s.store.records.find? fun r => r.number == n with
  | some r => .record r
  | none =>
    if s.headA.reserved = some n ∨ s.headB.reserved = some n then .notYet n
    else if wasGiven s.store.nextRecord n then .gone n
    else .notYet n

/-- R133: the answer for a pull number. -/
def pullItem (s : State) (n : Nat) : PullItem :=
  match s.puller.log.find? fun r => r.number == n with
  | some r => .record r
  | none => if wasGiven s.puller.nextPull n then .gone n else .notYet n

/-- R83: up to 2 numbers of a reply, continuing at 1 after 4,294,967,295. -/
def itemNumbers (next remaining : Nat) : List Nat :=
  if 2 ≤ remaining then [next, nextInCycle next] else if remaining = 1 then [next] else []

/-- R83: the fetch after a reply of 2 items: none when its last reply is queued. -/
def nextItem (next : Nat) : Nat := nextInCycle (nextInCycle next)

/-- R84: one frame of a TRACE fetch: the answer, the fetch that remains, and whether the trace is
released. -/
def traceFrame (e : Engine) (tag : Byte) (h : Head) (record next frames : Nat) :
    TraceAnswer × Option Fetch × Bool :=
  match e.frozen with
  | none => (.notYet record, none, false)
  | some t =>
    if record ≠ 0 ∧ record ≠ t.record then (.gone t.record, none, false)
    else
      let shown := (t.entries.drop next).take 8
      if t.entries.length ≤ next + 8 then (.entries t next shown, none, true)
      else (.entries t next shown,
        if frames ≤ 1 then none else some (.trace tag h t.record (next + 8) (frames - 1)), false)

/-- R82: the fetch may queue its next reply. -/
def fetchReady (s : State) : Bool :=
  s.ports.u.state != .down && s.ports.u.normals ≤ Config.fetchMark &&
    s.ports.u.tx.length < Config.queueDepth

/-- R82 to R84, R133: the next reply of the fetch in progress is built and queued. -/
def State.queueReply (s : State) (f : Fetch) : State :=
  match f with
  | .bond tag next remaining =>
    { s.send .u (.bondReply tag ((itemNumbers next remaining).map (bondItem s))) with
      store := { s.store with
        fetch := if remaining ≤ 2 then none else some (.bond tag (nextItem next) (remaining - 2)) } }
  | .pull tag next remaining =>
    { s.send .u (.pullReply tag ((itemNumbers next remaining).map (pullItem s))) with
      store := { s.store with
        fetch := if remaining ≤ 2 then none else some (.pull tag (nextItem next) (remaining - 2)) } }
  | .trace tag h record next frames =>
    let r := traceFrame (s.engine h) tag h record next frames
    let s := { s.send .u (.traceReply tag r.1) with store := { s.store with fetch := r.2.1 } }
    if r.2.2 then s.updateEngine h Engine.release else s

/-- RECORD_REPLY_QUEUED (R82). -/
def execRecordReplyQueued (s : State) : Answer :=
  .next (match s.store.fetch with
    | none => s
    | some f => if fetchReady s then s.queueReply f else s)

end Sys2Proof.Machine
end

