-- ==== Sys2Proof/Machine/Index.lean ====
section
/-! DEFINITION. The meanings of the index, indexer and TRACK_SET commands (chapter 5). -/

namespace Sys2Proof.Machine

/-- R96: the first check that fails, for both kinds. -/
def indexReason (s : State) : Option Reason :=
  if s.mgmt.run = false then some .notRunning
  else if s.track.known = false then some .unknown
  else if safeStopStands s.alarms.entries then some .stopped
  else if (s.port .ix).state = .down then some .portDown
  else if s.track.inFlight.isSome ∨ s.track.held.isSome then some .busy
  else none

/-- R97 step 3: a PENDING unit stands in the window column. -/
def windowOpen (s : State) (x : Strip) : Bool :=
  x.units.zipIdx.any fun y => s.tables.inWindow x y.2 && y.1.state == .pending

/-- R97: a STEP that has passed R96. -/
def State.stepChecks (s : State) (skip : Bool) : State :=
  match s.track.bond with
  | none => s.send .u (.indexRefused .step .empty)
  | some x =>
    if s.tables.columnsOf x ≤ x.window + 1 then s.send .u (.indexRefused .step .endOfStrip)
    else if windowOpen s x && !skip then s.send .u (.indexRefused .step .unitsOpen)
    else (s.rejectPending fun u => s.tables.inWindow x u).gateIndex .step

/-- R98 step 1: a PENDING unit stands on the strip at BOND. -/
def stripOpen (s : State) : Bool :=
  s.track.bond.elim false fun x => x.units.any fun r => r.state == .pending

/-- R98: a TRANSFER that has passed R96. -/
def State.transferChecks (s : State) (skip : Bool) : State :=
  if stripOpen s && !skip then s.send .u (.indexRefused .transfer .unitsOpen)
  else (s.rejectPending fun _ => true).gateIndex .transfer

/-- INDEX_STEP (R96, R97). -/
def execIndexStep (skip : Bool) (s : State) : Answer :=
  .next (s.taken .u (.indexStep skip) fun s =>
    match indexReason s with
    | some r => s.send .u (.indexRefused .step r)
    | none => s.stepChecks skip)

/-- INDEX_TRANSFER (R96, R98). -/
def execIndexTransfer (skip : Bool) (s : State) : Answer :=
  .next (s.taken .u (.indexTransfer skip) fun s =>
    match indexReason s with
    | some r => s.send .u (.indexRefused .transfer r)
    | none => s.transferChecks skip)

/-- HOLD_TIMER_EXPIRY (R101). -/
def execHoldTimerExpiry (s : State) : Answer :=
  .next (if s.track.held.isSome ∧ s.track.holdTimer.isSome then
    s.happens fun s => (s.refuseHeld .timedOut).raise .indexStall .track
    else s)

/-- R105: the window column rises and the request in flight ends. -/
def State.stepDone (s : State) : State :=
  { s with track := { s.track with
    inFlight := none
    doneTimer := none
    bond := s.track.bond.map fun x => { x with window := x.window + 1 } } }

/-- INDEX_DONE_STEP (R104 to R106): the kind byte is 0 for STEP; another code than 0 and 1 names no
kind and so differs from the kind in flight (log 24). -/
def execIndexDoneStep (e : Envelope) (code inSlot outSlot : Byte) (s : State) : Answer :=
  let c : Instr := .indexDoneStep e code inSlot outSlot
  .next (s.taken .ix c fun s =>
    (match s.track.inFlight with
    | none => s
    | some q => if q.kind = IndexKind.step ∧ code = 0 then s.stepDone else s.jam).forward c)

/-- R107: an INDEX-DONE TRANSFER that agrees. -/
def State.transferDone (s : State) (c : Instr) (q : FlightRequest) (i o : Option Nat) : State :=
  let s := { s with track := { s.track with inFlight := none, doneTimer := none } }
  let s := o.elim s fun r => s.happens fun s => s.deliver r
  ((s.moveStrips.happens fun s => s.drawStrip q i).forward c).startPull

/-- INDEX_DONE_TRANSFER (R104, R106 to R108). -/
def execIndexDoneTransfer (e : Envelope) (inSlot outSlot : Byte) (s : State) : Answer :=
  let c : Instr := .indexDoneTransfer e inSlot outSlot
  let i := slotOf inSlot
  let o := slotOf outSlot
  .next (s.taken .ix c fun s =>
    match s.track.inFlight with
    | none => s.forward c
    | some q => if transferMismatch s.track q i o then s.jam.forward c else s.transferDone c q i o)

/-- COMPLETION_TIMER_EXPIRY (R109). -/
def execCompletionTimerExpiry (s : State) : Answer :=
  .next (if s.track.inFlight.isSome ∧ s.track.doneTimer.isSome then s.happens State.jam else s)

/-- JAM (R109). -/
def execJam (e : Envelope) (position : Byte) (s : State) : Answer :=
  let c : Instr := .jam e position
  .next (s.taken .ix c fun s => s.jam.forward c)

/-- R91: MAG-IN REMOVED, or LOADED with a slot count of 0. -/
def State.magInGone (s : State) : State :=
  { s with track := s.track.setMagIn s.track.magIn.remove }

/-- R94: MAG-OUT REMOVED, or LOADED with a slot count of 0. -/
def State.magOutGone (s : State) : State :=
  ({ s with track := s.track.setMagOut s.track.magOut.remove } : State).releaseGate

/-- MAG_IN_LOADED (R91). -/
def execMagInLoaded (e : Envelope) (count : Byte) (s : State) : Answer :=
  let c : Instr := .magInLoaded e count
  .next (s.taken .ix c fun s =>
    (if count = 0 then s.magInGone
    else
      ({ s with track := { s.track.setMagIn (MagIn.loaded (min count.toNat 40)) with
          loadCount := satAdd maxU32 s.track.loadCount 1 } } : State).conditionGone
        .magInEmpty .track).forward c)

/-- MAG_IN_REMOVED (R91). -/
def execMagInRemoved (e : Envelope) (s : State) : Answer :=
  let c : Instr := .magInRemoved e
  .next (s.taken .ix c fun s => s.magInGone.forward c)

/-- MAG_OUT_LOADED (R94, R100). -/
def execMagOutLoaded (e : Envelope) (count : Byte) (s : State) : Answer :=
  let c : Instr := .magOutLoaded e count
  .next (s.taken .ix c fun s =>
    (if count = 0 then s.magOutGone
    else
      (({ s with track := s.track.setMagOut (MagOut.loaded (min count.toNat 40)) } : State).conditionGone
        .magOutFull .track).releaseGate).forward c)

/-- MAG_OUT_REMOVED (R94, R100). -/
def execMagOutRemoved (e : Envelope) (s : State) : Answer :=
  let c : Instr := .magOutRemoved e
  .next (s.taken .ix c fun s => s.magOutGone.forward c)

/-! ## TRACK_SET -/

/-- R112 step 1: every claim ends. -/
def State.endClaims (s : State) : State :=
  let told (c : HeadCtx) : HeadCtx :=
    if c.claim.isSome then
      let c := { c with claim := none }
      if c.pause = some .afterUnit then c.addOperator else c
    else c
  { s with
    headA := told s.headA
    headB := told s.headB
    track := { s.track with bond := s.track.bond.map fun x =>
      { x with units := x.units.map fun r =>
          if r.state.isClaim then { r with state := .pending } else r } } }

/-- R132: the strip has a pull that is WAITING or ORDERED. -/
def Strip.pulling (x : Strip) : Bool := x.pullState == .waiting || x.pullState == .ordered

/-- R112 step 3: a strip is dropped; its record is removed with those of the step. -/
def State.dropStrip (s : State) (x : Strip) : State :=
  let s := (s.send .u (x.report none)).releaseStrip x.id
  let s := if x.pulling then s.discardPull else s
  { s with track := { s.track with dropped := satAdd maxU32 s.track.dropped 1 } }

/-- An EXISTING strip of a TRACK-SET with the numbers of the position it leaves and of its new one. -/
structure StripMove where
  strip : Strip
  was : Nat
  now : Nat
  deriving DecidableEq, Repr

/-- R112 step 3: the strips that are not listed are dropped, reported from ENTRY to EXIT (log 21), and the
listed ones alone remain. -/
def State.dropOthers (s : State) (ids : List Nat) (moves : List StripMove) : State :=
  let gone := s.track.placed.filter fun y => !ids.contains y.1.id
  let kept (k : Nat) : Option Strip := (moves.find? fun m => m.was == k).map fun m => m.strip
  let s := gone.foldl (fun (s : State) y => s.dropStrip y.1) s
  { s with track := { s.track with entry := kept 0, bond := kept 1, pull := kept 2, exit := kept 3 } }

/-- R112 step 4: an EXISTING strip moves. One that leaves PULL has its pull discarded (R132); one that
arrives at EXIT has its pins released. -/
def State.moveExisting (s : State) (m : StripMove) : State :=
  if m.was = m.now then s
  else
    let s := if m.strip.pulling then s.discardPull else s
    let s := if m.now = 3 then s.releaseStrip m.strip.id else s
    let x := if m.strip.pulling then { m.strip with pullState := .none } else m.strip
    { s with track := (s.track.setPosition m.was none).setPosition m.now (some x) }

/-- R112 step 5: a NEW strip of the entry at position `k`. -/
def State.introduce (s : State) (y : PosSpec × Nat) : State :=
  match y.1 with
  | .new i d f => { s with track := { s.track.setPosition y.2 (some (s.tables.newStrip i d f false)) with
      introduced := satAdd maxU32 s.track.introduced 1 } }
  | .empty | .existing _ => s

/-- R112 step 6: the strip at BOND takes the window column given. -/
def State.setWindow (s : State) (window : Option Nat) : State :=
  { s with track := { s.track with bond := s.track.bond.map fun x =>
      { x with window := window.getD x.window } } }

/-- R112 step 7: the track is KNOWN. -/
def State.trackKnown (s : State) : State :=
  ({ s with track := { s.track with known := true } } : State).conditionsGone fun e =>
    e.cls == .trackUnknown || e.cls == .jam

/-- R112: an accepted TRACK-SET, step by step (log 7). The model's choice (log 44): the strips of step 4 move
one by one, the one nearest EXIT first. -/
def State.acceptTrackSet (s : State) (tag : Byte) (specs : List PosSpec) (window : Option Nat) : State :=
  let s := s.happens State.endClaims
  let moves : List StripMove := specs.zipIdx.filterMap fun y => match y.1 with
    | .existing i => (s.track.find i).map fun z => ⟨z.1, z.2, y.2⟩
    | .empty | .new _ _ _ => none
  let s := s.happens fun s => s.dropOthers (specs.filterMap PosSpec.id?) moves
  let s := moves.reverse.foldl (fun (s : State) m => s.happens fun s => s.moveExisting m) s
  let s := specs.zipIdx.foldl (fun (s : State) y => s.happens fun s => s.introduce y) s
  let s := ((s.setWindow window).happens State.trackKnown).reply 7 tag .accepted
  if moves.any fun m => m.now == 2 && m.was != 2 then s.startPull else s

/-- TRACK_SET (R111, R112). -/
def execTrackSet (tag : Byte) (b : TrackSetBody) (s : State) : Answer :=
  let raw := [b.entry, b.bond, b.pull, b.exit]
  let window := if b.window = 0xFF then none else some b.window.toNat
  .next (s.taken .u (.trackSet tag b) fun s =>
    match trackSetReason s raw window with
    | some r => s.reply 7 tag (.refused r)
    | none => s.acceptTrackSet tag (raw.filterMap posSpec) window)

end Sys2Proof.Machine
end

