-- ==== Sys2Proof/Machine/Link.lean ====
section
/-! DEFINITION. The meanings of the commands of the bond link (chapter 9). -/

namespace Sys2Proof.Machine

/-- LINE_READY (R163). -/
def execLineReady (p : Port) (s : State) : Answer :=
  .next (s.happens fun s =>
    (s.updatePort p fun r => { r with lineReady := true }).tryLeaveDown p)

/-- LINE_NOT_READY (R163, R168): the line is lost. -/
def execLineNotReady (p : Port) (s : State) : Answer :=
  .next (s.happens fun s =>
    (s.updatePort p fun r => { r with lineReady := false }).enterDown p false)

/-- WAKE_TRAINING_RECEIVED (R164): the answer to the port's own wake. -/
def execWakeTrainingReceived (p : Port) (l : List W32) (s : State) : Answer :=
  .next (if (s.port p).state = .waking .localEnd then
    s.happens fun s => s.judgeTraining p .localEnd l else s)

/-- WAKE_ANSWER_TIMEOUT (R164). -/
def execWakeAnswerTimeout (p : Port) (s : State) : Answer :=
  .next (if (s.port p).state = .waking .localEnd then
    s.happens fun s => s.wakeFailed p .localEnd else s)

/-- FAR_END_WAKE (R165): the wake pattern alone, or with its training field (log 25). A far-end wake that
is taken stops the retry timer, also as the answer to the port's own wake. -/
def execFarEndWake (p : Port) (training : Option (List W32)) (s : State) : Answer :=
  .next (match (s.port p).state, training with
    | .quiet, none =>
      s.updatePort p fun r => { r with state := .waking .farEnd, retryTimer := false }
    | .quiet, some l =>
      s.happens fun s => (s.updatePort p fun r =>
        { r with state := .waking .farEnd, retryTimer := false }).judgeTraining p .farEnd l
    | .waking .farEnd, some l => s.happens fun s => s.judgeTraining p .farEnd l
    | .waking .localEnd, none => s.updatePort p fun r => { r with retryTimer := false }
    | .waking .localEnd, some l =>
      s.happens fun s => (s.updatePort p fun r =>
        { r with retryTimer := false }).judgeTraining p .localEnd l
    | .waking .farEnd, none => s
    | .live, _ => s
    | .down, _ => s)

/-- WAKE_RETRY_TIMER_EXPIRY (R164): the port wakes again when it is QUIET with a frame queued. -/
def execWakeRetryTimerExpiry (p : Port) (s : State) : Answer :=
  .next (s.updatePort p fun r =>
    if r.retryTimer then
      if r.state = .quiet ∧ r.tx ≠ [] then
        { r with retryTimer := false, state := .waking .localEnd }
      else { r with retryTimer := false }
    else r)

/-- SLEEP_TIMER_EXPIRY (R166): the port enters QUIET. -/
def execSleepTimerExpiry (p : Port) (s : State) : Answer :=
  .next (if (s.port p).sleepTimer = true ∧ (s.port p).state = .live then
    (s.updatePort p fun r => { r with
      state := .quiet, sleepTimer := false, hoSent := false, hoReceived := false }).toldQuiet p
    else s)

/-- FRAME_HEADER_RECEIVED (R170, R173, R174). -/
def execFrameHeaderReceived (p : Port) (h : Header) (s : State) : Answer :=
  .next (s.happens fun s => s.receiveHeader p h)

/-- FRAME_END_RECEIVED (R162, R170, R174, R175, R185, R189). -/
def execFrameEndReceived (p : Port) (tail : List Bool) (s : State) : Answer :=
  .next (s.happens fun s => s.receiveEnd p tail)

/-- HOLD_OFF (R171): hold-off received, with its timer started afresh, on a QUIET port too, whose receive
queue keeps its frames (R166). A DOWN port has no frame to take (R162, R168): there nothing changes (log
38). -/
def execHoldOff (p : Port) (s : State) : Answer :=
  .next (s.taken p (.holdOff p) fun s =>
    s.updatePort p fun r => if r.state = .down then r else { r with hoReceived := true })

/-- GO (R171): the port resumes. -/
def execGo (p : Port) (s : State) : Answer :=
  .next (s.taken p (.go p) fun s => s.updatePort p fun r =>
    if r.hoReceived then { r with hoReceived := false }.kick s.ports.u.rate else r)

/-- HOLD_OFF_TIMER_EXPIRY (R171): HOLD-EXPIRED rises and the port resumes. -/
def execHoldOffTimerExpiry (p : Port) (s : State) : Answer :=
  .next (s.updatePort p fun r =>
    if r.hoReceived then
      { r with
        hoReceived := false
        count := { r.count with holdExpired := satAdd maxU16 r.count.holdExpired 1 } }.kick s.ports.u.rate
    else r)

/-- FRAME_SENT (R152, R166, R170, R172). -/
def execFrameSent (p : Port) (s : State) : Answer := .next (s.frameSent p)

/-- DOWNSTREAM_FRAME_FORWARDED (R175): the frame is queued on port U as received. A frame that stood
in the receive queue has passed its source check; another is checked here (log 34). -/
def execDownstreamFrameForwarded (p : Port) (f : Frame) (s : State) : Answer :=
  let stood := ((s.settle p).port p).oldest.isSome
  .next (s.taken p (.downstreamFrameForwarded p f) fun s =>
      if p = .u then s
      else if stood || !sourceWrong s p f then s.send .u (.forwarded f)
      else s.updatePort p fun r => { r with count := r.count.addSourceError })

end Sys2Proof.Machine
end

