-- ==== Sys2Proof/Machine/Management.lean ====
section
/-! DEFINITION. The meanings of the alarm requests and of the requests that change nothing (R146,
R178, R179). -/

namespace Sys2Proof.Machine

/-- MANAGEMENT_REQUEST_REFUSED (R178 steps 1 and 2). -/
def execManagementRequestRefused (kind tag op : Byte) (s : State) : Answer :=
  .next (s.request (.managementRequestRefused kind tag op) kind tag fun s => (s, .refused .range))

/-- ALARM_ACK (R146). -/
def execAlarmAck (tag cls obj : Byte) (s : State) : Answer :=
  .next (s.request (.alarmAck tag cls obj) 5 tag fun s =>
    match classOf cls, objectOf obj with
    | some c, some o =>
      if c.objects.contains o then
        ((Alarms.find s.alarms.entries c o).elim s s.acknowledge, .accepted)
      else (s, .refused .range)
    | _, _ => (s, .refused .range))

/-- ALARM_ACK_ALL (R146). -/
def execAlarmAckAll (tag : Byte) (s : State) : Answer :=
  .next (s.request (.alarmAckAll tag) 5 tag fun s => (s.acknowledgeAll, .accepted))

/-- FORCE_TEST (R146). -/
def execForceTest (tag : Byte) (s : State) : Answer :=
  .next (s.request (.forceTest tag) 6 tag fun s => (s.raise .test .part, .accepted))

/-- KEEPALIVE (R179): it changes no state and has no reply. -/
def execKeepalive (tag : Byte) (s : State) : Answer :=
  .next (s.taken .u (.keepalive tag) fun s => s)

end Sys2Proof.Machine
end

