-- ==== Sys2Proof/Machine/Pull.lean ====
section
/-! DEFINITION. The meanings of the pull commands (chapter 6). -/

namespace Sys2Proof.Machine

/-- PULL_ORDER_QUEUED (R121): the controller queues the next PULL-ORDER when it may. -/
def execPullOrderQueued (s : State) : Answer := .next (s.happens State.queueOrder)

/-- PULL_RESULT (R122, R123, R125): forwarded, then matched or counted stray (log 23). -/
def execPullResult (e : Envelope) (strip : W16) (unit wire : Byte) (force : W16) (mode : Byte)
    (s : State) : Answer :=
  let c : Instr := .pullResult e strip unit wire force mode
  .next (s.taken .pt c fun s => (s.forward c).takeResult strip.toNat unit.toNat wire.toNat
    force.toNat (pullModeOf mode))

/-- R129: PULL-ABORT. -/
def State.takePullAbort (s : State) (strip : Nat) : State :=
  match s.puller.current with
  | none => s.strayPull
  | some c =>
    if s.pullState = .ordered ∧ c.strip = strip then s.giveNoResults.endPull else s.strayPull

/-- PULL_ABORT (R129). -/
def execPullAbort (e : Envelope) (strip : W16) (s : State) : Answer :=
  let c : Instr := .pullAbort e strip
  .next (s.taken .pt c fun s => (s.forward c).takePullAbort strip.toNat)

/-- PULL_STATION_TIMER_EXPIRY (R130). -/
def execPullStationTimerExpiry (s : State) : Answer :=
  .next (if s.puller.timer.isSome ∧ s.pullState = .ordered then
    s.happens fun s =>
      (({ s with puller := { s.puller with
          current := s.puller.current.map fun c => { c with timedOut := true } } } : State).giveNoResults.raise
        .pullTimeout .pullStation).endPull
    else s)

end Sys2Proof.Machine
end

