-- ==== Sys2Proof/Machine/Supply.lean ====
section
/-! DEFINITION. The meanings of the reset, supply, part-time and supervision commands (chapter 10). -/

namespace Sys2Proof.Machine

/-- POWER_ON_RESET (R182, R187): the supply has risen to `mv` after the power mark was lost. -/
def execPowerOnReset (x : Straps) (mv : W16) (s : State) : Answer :=
  .next (({ s with mgmt := { s.mgmt with supplyMv := mv.toNat, supplyDown := false } } : State).takeReset
    x ⟨true, true, false, false⟩ false)

/-- PIN_RESET (R182): the pin is released; while the supply is low the supply's return takes the
reset instead. -/
def execPinReset (x : Straps) (s : State) : Answer :=
  let s := { s with mgmt := { s.mgmt with pinLow := false } }
  .next (if s.mgmt.supplyDown then s else s.takeReset x ⟨false, false, true, false⟩ false)

/-- SUPPLY_RESET (R182): the supply rises to `mv` through the reset level; POWER-ON when the power
mark was lost. -/
def execSupplyReset (x : Straps) (mv : W16) (s : State) : Answer :=
  let cause : ResetCause := ⟨!s.mgmt.powerMark, true, false, false⟩
  .next (({ s with mgmt := { s.mgmt with supplyMv := mv.toNat, supplyDown := false } } : State).takeReset
    x cause false)

/-- RESET_PIN_LOW (R182): the part takes no frames and its ports stand DOWN. -/
def execResetPinLow (s : State) : Answer :=
  .next (s.happens fun s => ({ s with mgmt := { s.mgmt with pinLow := true } } : State).hold)

/-- SUPPLY_BELOW_RESET_LEVEL (R182): the part takes no frames and its ports stand DOWN. -/
def execSupplyBelowResetLevel (mv : W16) (s : State) : Answer :=
  .next (s.happens fun s => ({ s with mgmt := { s.mgmt with
    supplyMv := mv.toNat, supplyDown := true } } : State).hold)

/-- SUPPLY_BELOW_RETENTION_LEVEL (R182): the power mark is lost. -/
def execSupplyBelowRetentionLevel (mv : W16) (s : State) : Answer :=
  .next (s.happens fun s => ({ s with mgmt := { s.mgmt with
    supplyMv := mv.toNat, supplyDown := true, powerMark := false } } : State).hold)

/-- SUPPLY_FALLS_BELOW_WARNING (R186). The command says that the level was passed: `mv` is kept, and is
not compared with the level (log 39). -/
def execSupplyFallsBelowWarning (mv : W16) (s : State) : Answer :=
  .next (s.happens fun s =>
    ({ s with mgmt := { s.mgmt with supplyMv := mv.toNat } } : State).supplyFalls)

/-- SUPPLY_RISES_ABOVE_WARNING (R186). `mv` is kept, and is not compared with the level (log 39). -/
def execSupplyRisesAboveWarning (mv : W16) (s : State) : Answer :=
  .next (s.happens fun s =>
    ({ s with mgmt := { s.mgmt with supplyMv := mv.toNat } } : State).supplyRises)

/-- PART_TIME_TICK (R184): one millisecond; after 4,294,967,295 the part time is 0. -/
def execPartTimeTick (s : State) : Answer :=
  .next { s with mgmt := { s.mgmt with
    time := if s.mgmt.time = maxU32 then 0 else s.mgmt.time + 1 } }

/-- SUPERVISION_TIMER_EXPIRY (R185). -/
def execSupervisionTimerExpiry (s : State) : Answer :=
  .next (if s.mgmt.supTimer.isSome then
    s.happens fun s =>
      ({ s with mgmt := { s.mgmt with supTimer := none } } : State).raise .linkLoss (.port .u)
    else s)

/-- RESET (R183): the COMMAND reset, in its turn in the queue of port U; it has no reply. -/
def execReset (x : Straps) (s : State) : Answer :=
  .next (s.turn .u (.reset x) fun u => u.takeReset x ⟨false, false, false, true⟩ true)

end Sys2Proof.Machine
end

