-- ==== Sys2Proof/Machine/TableRead.lean ====
section
/-! DEFINITION. The meanings of the TABLE-READ commands (R3, R19, R116, R117, R133, R136, R147, R176,
R177, R179). A read changes no state but the queue of port U. -/

namespace Sys2Proof.Machine

/-- Step 2 of R1 for a read: the contents when the index is in range. -/
def inRange (ok : Bool) (x : ReadContents) : Except Reason ReadContents :=
  if ok then .ok x else .error .range

/-- TABLE_READ_PROGRAM (R3). -/
def execTableReadProgram (tag index : Byte) (s : State) : Answer :=
  .next (s.tableRead (.tableReadProgram tag index) tag 0 index fun s =>
    inRange (index.toNat < 32) (.program (s.tables.program index.toNat)))

/-- TABLE_READ_DEVICE_TYPE (R3, R9). -/
def execTableReadDeviceType (tag index : Byte) (s : State) : Answer :=
  .next (s.tableRead (.tableReadDeviceType tag index) tag 1 index fun s =>
    let d := s.tables.device index.toNat
    inRange (index.toNat < 8) (.device d (d.elim 0 DeviceType.unitCount)))

/-- TABLE_READ_MAP_LENGTH (R3, R13, R16). -/
def execTableReadMapLength (tag index : Byte) (s : State) : Answer :=
  .next (s.tableRead (.tableReadMapLength tag index) tag 2 index fun s =>
    let m := s.tables.map index.toNat
    inRange (index.toNat < 8) (.mapLength m.length m.wireCount (s.tables.mapValid m)))

/-- TABLE_READ_MAP_ENTRIES (R3, R15). -/
def execTableReadMapEntries (tag index first count : Byte) (s : State) : Answer :=
  .next (s.tableRead (.tableReadMapEntries tag index first count) tag 3 index fun s =>
    let m := s.tables.map index.toNat
    inRange (index.toNat < 8 && 1 ≤ count.toNat && count.toNat ≤ 8 &&
        first.toNat + count.toNat ≤ 256)
      (.mapEntries first.toNat ((m.slots.drop first.toNat).take count.toNat)))

/-- TABLE_READ_SUMMARY (R3, R19). -/
def execTableReadSummary (tag : Byte) (s : State) : Answer :=
  .next (s.tableRead (.tableReadSummary tag) tag 8 0 fun s => .ok (.summary s.tables.state))

/-- TABLE_READ_PULL_PLAN (R116). -/
def execTableReadPullPlan (tag index : Byte) (s : State) : Answer :=
  .next (s.tableRead (.tableReadPullPlan tag index) tag 4 index fun s =>
    inRange (index.toNat < 8) (.pullPlan (s.tables.plan index.toNat)))

/-- TABLE_READ_PULL_LIMITS (R117). -/
def execTableReadPullLimits (tag index : Byte) (s : State) : Answer :=
  .next (s.tableRead (.tableReadPullLimits tag index) tag 5 index fun s =>
    inRange (index.toNat < 4) (.pullLimits (s.tables.limit index.toNat)))

/-- R133: the statistics of a head as PULL-STATUS carries them. -/
def Puller.headStatus (p : Puller) (h : Head) : PullHeadStatus := ⟨p.stats h, (p.stats h).mean, p.run h⟩

/-- R133: the current pull as PULL-STATUS carries it. -/
def State.pullNow (s : State) : Option PullNow :=
  s.puller.current.map fun c =>
    ⟨c.strip, s.pullState, c.tasks.length, c.answered, s.puller.ordersQueued⟩

/-- TABLE_READ_PULL_STATUS (R133). -/
def execTableReadPullStatus (tag : Byte) (s : State) : Answer :=
  .next (s.tableRead (.tableReadPullStatus tag) tag 9 0 fun s =>
    let p := s.puller
    .ok (.pullStatus s.pullNow p.log.length p.nextPull (p.headStatus .a) (p.headStatus .b) p.stray
      p.timeout))

/-- TABLE_READ_ACTION (R136). -/
def execTableReadAction (tag index : Byte) (s : State) : Answer :=
  .next (s.tableRead (.tableReadAction tag index) tag 6 index fun s =>
    match classOf index with
    | none => .error .range
    | some c => .ok (.action (s.actionEntry c) c.minimum))

/-- TABLE_READ_ALARM_LIST (R147): up to 4 entries from the place named. -/
def execTableReadAlarmList (tag index : Byte) (s : State) : Answer :=
  .next (s.tableRead (.tableReadAlarmList tag index) tag 10 index fun s =>
    let l := s.alarms.entries
    inRange (index.toNat < 32)
      (.alarmList l.length s.alarms.safeStop ((l.drop index.toNat).take 4)))

/-- TABLE_READ_NODE (R176). -/
def execTableReadNode (tag index : Byte) (s : State) : Answer :=
  .next (s.tableRead (.tableReadNode tag index) tag 7 index fun s =>
    match downstreamOf index with
    | none => .error .range
    | some x => .ok (.node (s.tables.node x)))

/-- TABLE_READ_PORT_STATUS (R177). -/
def execTableReadPortStatus (tag index : Byte) (s : State) : Answer :=
  .next (s.tableRead (.tableReadPortStatus tag index) tag 11 index fun s =>
    match portOf index with
    | none => .error .range
    | some x =>
      let p := s.port x
      .ok (.portStatus p.state p.enabled p.rate p.wholeRx p.urgents p.normals p.hoSent
        p.hoReceived p.count))

/-- TABLE_READ_PART_STATUS (R179). -/
def execTableReadPartStatus (tag : Byte) (s : State) : Answer :=
  .next (s.tableRead (.tableReadPartStatus tag) tag 12 0 fun s =>
    let m := s.mgmt
    .ok (.partStatus m.run m.time m.cause m.supervision m.supTimer m.warnHigh m.supplyLow m.own
      s.ports.u.rate))

/-- TABLE_READ_UNKNOWN_TABLE (R3). -/
def execTableReadUnknownTable (tag code : Byte) (s : State) : Answer :=
  .next (s.tableRead (.tableReadUnknownTable tag code) tag code 0 fun _ => .error .unknownTable)

end Sys2Proof.Machine
end

