-- ==== Sys2Proof/Machine/TableWrite.lean ====
section
/-! DEFINITION. The meanings of the TABLE-WRITE commands (R1, R2, R4 to R7, R10, R12, R14, R15, R17,
R116, R117, R136, R176). -/

namespace Sys2Proof.Machine

/-- R1: the reply of a write that passed: CLAMPED when step 4 changed a value. -/
def written (clamped : Bool) : Reply := if clamped then .clamped else .accepted

/-- R1, R2: a TABLE-WRITE. `range` is step 2, `used` step 3; `store` gives, for ERASE or contents, the
new tables with whether step 4 changed a value, or the refusal of step 5. -/
def State.tableWrite {α : Type} (s : State) (range used : Bool) (w : WriteOp α)
    (store : WriteOp α → Except Reason (Tables × Bool)) : State × Reply :=
  if !range then (s, .refused .range)
  else if used then (s, .refused .inUse)
  else match store w with
    | .error r => (s, .refused r)
    | .ok (t, clamped) => ({ s with tables := t }, written clamped)

/-! ## Programs -/

/-- The first pairs of a segment list, as many as its count says, at most 4 (R5). -/
def segmentsOf (count : Byte) (l : List SlotPair) : List Segment :=
  (l.take (min count.toNat 4)).map fun x => ⟨x.level.toNat, x.duration.toNat⟩

/-- The program that the bytes spell, before step 4. -/
def rawProgram (b : ProgramBody) (k : BondKind) : Program where
  kind := k
  force := segmentsOf b.forceCount b.force
  us := segmentsOf b.usCount b.us
  window := b.window.toNat
  eMin := b.eMin.toNat
  eMax := b.eMax.toNat
  dNonstick := b.dNonstick.toNat
  dMin := b.dMin.toNat
  dMax := b.dMax.toNat
  iPeakMax := b.iPeakMax.toNat
  efo := if b.efoPresent then some ⟨b.tMin.toNat, b.tMax.toNat, b.efoTimeout.toNat⟩ else none
  rebond := b.rebond.toNat
  weakRun := b.weakRun.toNat
  strict := b.strict

def Segment.clamp (x : Segment) : Segment := { x with level := clampTo 0 2000 x.level }

def EfoPart.clamp (x : EfoPart) : EfoPart :=
  ⟨clampTo 0 2000 x.tMin, clampTo 0 2000 x.tMax, clampTo 1 50 x.timeout⟩

/-- R5: every numeric field is brought into its range. -/
def Program.clamp (p : Program) : Program :=
  { p with
    force := p.force.map Segment.clamp
    us := p.us.map Segment.clamp
    window := clampTo 1 16383 p.window
    eMin := clampTo 0 8388607 p.eMin
    eMax := clampTo 0 8388607 p.eMax
    iPeakMax := clampTo 0 32768 p.iPeakMax
    efo := p.efo.map EfoPart.clamp
    rebond := clampTo 0 3 p.rebond
    weakRun := clampTo 1 15 p.weakRun }

/-- R6: the program satisfies the consistency rule. -/
def Program.consistent (p : Program) : Bool :=
  !p.force.isEmpty && !p.us.isEmpty && p.eMin ≤ p.eMax && p.dNonstick ≤ p.dMin && p.dMin ≤ p.dMax &&
    match p.kind, p.efo with
    | .ball, some e => e.tMin ≤ e.tMax
    | .ball, none => false
    | .stitch, e => e.isNone

def Tables.setProgram (t : Tables) (n : Nat) (p : Option Program) : Tables :=
  { t with programs := t.programs.set n p }

/-- R4 to R6: a program write. -/
def writeProgram (t : Tables) (n : Nat) : WriteOp ProgramBody → Except Reason (Tables × Bool)
  | .erase => .ok (t.setProgram n none, false)
  | .put b => match bondKindOf b.kind with
    | none => .error .inconsistent
    | some k =>
      let raw := rawProgram b k
      let p := raw.clamp
      if p.consistent then
        .ok (t.setProgram n (some p), p != raw || 4 < b.forceCount.toNat || 4 < b.usCount.toNat)
      else .error .inconsistent

/-- TABLE_WRITE_PROGRAM (R1, R2, R4 to R7). -/
def execTableWriteProgram (tag index : Byte) (w : WriteOp ProgramBody) (s : State) : Answer :=
  .next (s.request (.tableWriteProgram tag index w) 0 tag fun s =>
    s.tableWrite (index.toNat < 32) (programInUse s index.toNat) w
      (writeProgram s.tables index.toNat))

/-! ## Device types -/

def Tables.setDevice (t : Tables) (n : Nat) (d : Option DeviceType) : Tables :=
  { t with devices := t.devices.set n d }

/-- R9, R10: a device-type write. -/
def writeDevice (t : Tables) (n : Nat) : WriteOp DeviceBody → Except Reason (Tables × Bool)
  | .erase => .ok (t.setDevice n none, false)
  | .put b =>
    if 7 < b.map.toNat then .error .inconsistent
    else
      let raw : DeviceType := ⟨b.columns.toNat, b.rows.toNat, b.map.toNat⟩
      let d : DeviceType := ⟨clampTo 1 8 raw.columns, clampTo 1 4 raw.rows, raw.map⟩
      .ok (t.setDevice n (some d), d != raw)

/-- R12: an ERASE of the input device type setting in RUN is refused IN-USE. -/
def inputErased (s : State) (n : Nat) : WriteOp DeviceBody → Bool
  | .erase => s.mgmt.run && s.track.inputType == n
  | .put _ => false

/-- TABLE_WRITE_DEVICE_TYPE (R1, R2, R9, R10, R12). -/
def execTableWriteDeviceType (tag index : Byte) (w : WriteOp DeviceBody) (s : State) : Answer :=
  .next (s.request (.tableWriteDeviceType tag index w) 0 tag fun s =>
    s.tableWrite (index.toNat < 8) (deviceOnTrack s index.toNat || inputErased s index.toNat w) w
      (writeDevice s.tables index.toNat))

/-! ## Wire maps -/

def Tables.setMap (t : Tables) (n : Nat) (m : WireMap) : Tables := { t with maps := t.maps.set n m }

/-- R2, R14: a length write; ERASE clears the map. -/
def writeMapLength (t : Tables) (n : Nat) : WriteOp W16 → Except Reason (Tables × Bool)
  | .erase => .ok (t.setMap n WireMap.cleared, false)
  | .put w => .ok (t.setMap n { t.map n with length := clampTo 0 256 w.toNat }, 256 < w.toNat)

/-- TABLE_WRITE_MAP_LENGTH (R1, R2, R14, R17). -/
def execTableWriteMapLength (tag index : Byte) (w : WriteOp W16) (s : State) : Answer :=
  .next (s.request (.tableWriteMapLength tag index w) 0 tag fun s =>
    s.tableWrite (index.toNat < 8) (mapOnTrack s index.toNat) w (writeMapLength s.tables index.toNat))

/-- R15: the slot that the bytes spell, with its loop class clamped. -/
def slotOfBody (x : SlotBody) : Slot := ⟨x.ball.toNat, x.stitch.toNat, clampTo 0 3 x.loop.toNat, x.skip⟩

/-- The slots of a run replace those from `k` on. -/
def putSlots (l : List Slot) (k : Nat) (run : List Slot) : List Slot :=
  l.take k ++ run ++ l.drop (k + run.length)

/-- R15: a run of 1 to 8 slots that ends at or below 256. -/
def runInRange : WriteOp (Byte × Byte × List SlotBody) → Bool
  | .erase => true
  | .put (first, count, _) =>
    1 ≤ count.toNat && count.toNat ≤ 8 && first.toNat + count.toNat ≤ 256

/-- R2, R15: a run of slots; ERASE is refused. -/
def writeMapEntries (t : Tables) (n : Nat) :
    WriteOp (Byte × Byte × List SlotBody) → Except Reason (Tables × Bool)
  | .erase => .error .inconsistent
  | .put (first, count, slots) =>
    let run := slots.take count.toNat
    if run.any fun x => 31 < x.ball.toNat || 31 < x.stitch.toNat then .error .inconsistent
    else
      let m := t.map n
      .ok (t.setMap n { m with slots := putSlots m.slots first.toNat (run.map slotOfBody) },
        run.any fun x => 3 < x.loop.toNat)

/-- TABLE_WRITE_MAP_ENTRIES (R1, R2, R15, R17). The model's choice (log 37): ERASE on a map in use is
refused IN-USE, by the order of the five steps, before it is refused INCONSISTENT. -/
def execTableWriteMapEntries (tag index : Byte) (w : WriteOp (Byte × Byte × List SlotBody))
    (s : State) : Answer :=
  .next (s.request (.tableWriteMapEntries tag index w) 0 tag fun s =>
    s.tableWrite (index.toNat < 8 && runInRange w) (mapOnTrack s index.toNat) w
      (writeMapEntries s.tables index.toNat))

/-! ## Pull plans and pull limits -/

/-- R116: a plan write; ERASE returns the default. -/
def writePlan (t : Tables) (n : Nat) : WriteOp PlanBody → Except Reason (Tables × Bool)
  | .erase => .ok ({ t with plans := t.plans.set n PullPlan.default }, false)
  | .put b =>
    let units := (b.units.take (min b.unitCount.toNat 4)).map BitVec.toNat
    let wires := (b.wires.take (min b.wireCount.toNat 8)).map BitVec.toNat
    let limit := clampTo 1 15 b.limit.toNat
    .ok ({ t with plans := t.plans.set n ⟨b.interval.toNat, units, wires, limit⟩ },
      4 < b.unitCount.toNat || 8 < b.wireCount.toNat || limit != b.limit.toNat)

/-- TABLE_WRITE_PULL_PLAN (R1, R116). -/
def execTableWritePullPlan (tag index : Byte) (w : WriteOp PlanBody) (s : State) : Answer :=
  .next (s.request (.tableWritePullPlan tag index w) 0 tag fun s =>
    s.tableWrite (index.toNat < 8) (deviceOnTrack s index.toNat) w (writePlan s.tables index.toNat))

/-- R117: a limits write; ERASE returns the default. -/
def writeLimits (t : Tables) (n : Nat) : WriteOp LimitsBody → Except Reason (Tables × Bool)
  | .erase => .ok ({ t with limits := t.limits.set n PullLimits.default }, false)
  | .put b =>
    let raw : PullLimits := ⟨b.fMin.toNat, b.fLift.toNat⟩
    let l : PullLimits := ⟨clampTo 0 1000 raw.fMin, clampTo 0 1000 raw.fLift⟩
    if l.fLift < l.fMin then .error .inconsistent
    else .ok ({ t with limits := t.limits.set n l }, l != raw)

/-- TABLE_WRITE_PULL_LIMITS (R1, R117): an entry is never in use. -/
def execTableWritePullLimits (tag index : Byte) (w : WriteOp LimitsBody) (s : State) : Answer :=
  .next (s.request (.tableWritePullLimits tag index w) 0 tag fun s =>
    s.tableWrite (index.toNat < 4) false w (writeLimits s.tables index.toNat))

/-! ## The action table and the node table -/

/-- R136 step 4: the action that is stored for a class. -/
def storedAction (c : AlarmClass) (a : Action) : Action :=
  let a := if a.strength < c.minimum.strength then c.minimum else a
  if a = .holdHead ∧ c.ofHeads = false then .holdBoth else a

/-- R136: an action write; ERASE returns the default of the class. -/
def writeAction (t : Tables) (c : AlarmClass) : WriteOp ActionBody → Except Reason (Tables × Bool)
  | .erase => .ok ({ t with actions := t.actions.set c.code c.default }, false)
  | .put b => match actionOf b.action with
    | none => .error .inconsistent
    | some a =>
      let raw : ActionEntry := ⟨b.level.toNat, b.rank.toNat, a⟩
      let e : ActionEntry := ⟨clampTo 1 7 raw.level, clampTo 0 7 raw.rank, storedAction c a⟩
      .ok ({ t with actions := t.actions.set c.code e }, e != raw)

/-- TABLE_WRITE_ACTION (R1, R136): an entry is never in use. -/
def execTableWriteAction (tag index : Byte) (w : WriteOp ActionBody) (s : State) : Answer :=
  .next (s.request (.tableWriteAction tag index w) 0 tag fun s =>
    match classOf index with
    | none => (s, .refused .range)
    | some c => s.tableWrite true false w (writeAction s.tables c))

/-- R176: a node write; ERASE returns the default of the port. -/
def writeNode (t : Tables) (n : Nat) : WriteOp NodeBody → Except Reason (Tables × Bool)
  | .erase => .ok ({ t with nodes := t.nodes.set n (nodeDefaults.getD n ⟨0, 0⟩) }, false)
  | .put b =>
    if b.address = 0xFF then .error .inconsistent
    else .ok ({ t with nodes := t.nodes.set n ⟨b.address, b.mask⟩ }, false)

/-- R176 step 3: the entry's port is WAKING or LIVE. -/
def nodeInUse (p : PortRec) : Bool :=
  match p.state with
  | .waking _ => true
  | .live => true
  | .down => false
  | .quiet => false

/-- TABLE_WRITE_NODE (R1, R176). -/
def execTableWriteNode (tag index : Byte) (w : WriteOp NodeBody) (s : State) : Answer :=
  .next (s.request (.tableWriteNode tag index w) 0 tag fun s =>
    match downstreamOf index with
    | none => (s, .refused .range)
    | some x => s.tableWrite true (nodeInUse (s.port x)) w (writeNode s.tables (portCode x - 1)))

/-- TABLE_WRITE_UNKNOWN_TABLE (R1 step 1). -/
def execTableWriteUnknownTable (tag code : Byte) (s : State) : Answer :=
  .next (s.request (.tableWriteUnknownTable tag code) 0 tag fun s => (s, .refused .unknownTable))

end Sys2Proof.Machine
end

