-- ==== Sys2Proof/Machine/Dispatch.lean ====
section
/-! DEFINITION. One arm for each command: the direct call of its meaning. -/

namespace Sys2Proof.Machine

def exec (i : Instr) (s : State) : Host.Outcome State Fault Refusal :=
  match i with
  | .powerOnReset straps mv => Sys2Proof.Machine.execPowerOnReset straps mv s
  | .pinReset straps => Sys2Proof.Machine.execPinReset straps s
  | .supplyReset straps mv => Sys2Proof.Machine.execSupplyReset straps mv s
  | .resetPinLow => Sys2Proof.Machine.execResetPinLow s
  | .supplyBelowResetLevel mv => Sys2Proof.Machine.execSupplyBelowResetLevel mv s
  | .supplyFallsBelowWarning mv => Sys2Proof.Machine.execSupplyFallsBelowWarning mv s
  | .supplyRisesAboveWarning mv => Sys2Proof.Machine.execSupplyRisesAboveWarning mv s
  | .lineReady p => Sys2Proof.Machine.execLineReady p s
  | .lineNotReady p => Sys2Proof.Machine.execLineNotReady p s
  | .wakeTrainingReceived p intervals => Sys2Proof.Machine.execWakeTrainingReceived p intervals s
  | .wakeAnswerTimeout p => Sys2Proof.Machine.execWakeAnswerTimeout p s
  | .farEndWake p l => Sys2Proof.Machine.execFarEndWake p l s
  | .wakeRetryTimerExpiry p => Sys2Proof.Machine.execWakeRetryTimerExpiry p s
  | .sleepTimerExpiry p => Sys2Proof.Machine.execSleepTimerExpiry p s
  | .frameHeaderReceived p hdr => Sys2Proof.Machine.execFrameHeaderReceived p hdr s
  | .frameEndReceived p l => Sys2Proof.Machine.execFrameEndReceived p l s
  | .holdOff p => Sys2Proof.Machine.execHoldOff p s
  | .go p => Sys2Proof.Machine.execGo p s
  | .holdOffTimerExpiry p => Sys2Proof.Machine.execHoldOffTimerExpiry p s
  | .frameSent p => Sys2Proof.Machine.execFrameSent p s
  | .downstreamFrameForwarded p f => Sys2Proof.Machine.execDownstreamFrameForwarded p f s
  | .bondStart head strip unit wire kind => Sys2Proof.Machine.execBondStart head strip unit wire kind s
  | .bondAbort head => Sys2Proof.Machine.execBondAbort head s
  | .abortTimerExpiry h => Sys2Proof.Machine.execAbortTimerExpiry h s
  | .touchdown h e z stamp => Sys2Proof.Machine.execTouchdown h e z stamp s
  | .lift h e => Sys2Proof.Machine.execLift h e s
  | .aborted h e => Sys2Proof.Machine.execAborted h e s
  | .headFault h e code => Sys2Proof.Machine.execHeadFault h e code s
  | .strayEvent h e code => Sys2Proof.Machine.execStrayEvent h e code s
  | .sample h stamp samples => Sys2Proof.Machine.execSample h stamp samples s
  | .efoStart h e time => Sys2Proof.Machine.execEfoStart h e time s
  | .efoEnd h e time => Sys2Proof.Machine.execEfoEnd h e time s
  | .efoTimerExpiry h => Sys2Proof.Machine.execEfoTimerExpiry h s
  | .indexStep skip => Sys2Proof.Machine.execIndexStep skip s
  | .indexTransfer skip => Sys2Proof.Machine.execIndexTransfer skip s
  | .holdTimerExpiry => Sys2Proof.Machine.execHoldTimerExpiry s
  | .indexDoneStep e code inSlot outSlot => Sys2Proof.Machine.execIndexDoneStep e code inSlot outSlot s
  | .indexDoneTransfer e inSlot outSlot => Sys2Proof.Machine.execIndexDoneTransfer e inSlot outSlot s
  | .completionTimerExpiry => Sys2Proof.Machine.execCompletionTimerExpiry s
  | .jam e position => Sys2Proof.Machine.execJam e position s
  | .magInLoaded e count => Sys2Proof.Machine.execMagInLoaded e count s
  | .magInRemoved e => Sys2Proof.Machine.execMagInRemoved e s
  | .magOutLoaded e count => Sys2Proof.Machine.execMagOutLoaded e count s
  | .magOutRemoved e => Sys2Proof.Machine.execMagOutRemoved e s
  | .trackSet tag body => Sys2Proof.Machine.execTrackSet tag body s
  | .pullOrderQueued => Sys2Proof.Machine.execPullOrderQueued s
  | .pullResult e strip unit wire force mode => Sys2Proof.Machine.execPullResult e strip unit wire force mode s
  | .pullAbort e strip => Sys2Proof.Machine.execPullAbort e strip s
  | .pullStationTimerExpiry => Sys2Proof.Machine.execPullStationTimerExpiry s
  | .screenFrameQueued => Sys2Proof.Machine.execScreenFrameQueued s
  | .refreshTimerExpiry => Sys2Proof.Machine.execRefreshTimerExpiry s
  | .supervisionTimerExpiry => Sys2Proof.Machine.execSupervisionTimerExpiry s
  | .keyPage page => Sys2Proof.Machine.execKeyPage page s
  | .keyScrollUp => Sys2Proof.Machine.execKeyScrollUp s
  | .keyScrollDown => Sys2Proof.Machine.execKeyScrollDown s
  | .keyAck => Sys2Proof.Machine.execKeyAck s
  | .keyPause head mode => Sys2Proof.Machine.execKeyPause head mode s
  | .keyResume head => Sys2Proof.Machine.execKeyResume head s
  | .keyRetry head => Sys2Proof.Machine.execKeyRetry head s
  | .keyRejectUnit head => Sys2Proof.Machine.execKeyRejectUnit head s
  | .keyReleasePull head => Sys2Proof.Machine.execKeyReleasePull head s
  | .keyUnknown code => Sys2Proof.Machine.execKeyUnknown code s
  | .managementRequestRefused kind tag op => Sys2Proof.Machine.execManagementRequestRefused kind tag op s
  | .tableWriteProgram tag index w => Sys2Proof.Machine.execTableWriteProgram tag index w s
  | .tableWriteDeviceType tag index w => Sys2Proof.Machine.execTableWriteDeviceType tag index w s
  | .tableWriteMapLength tag index w => Sys2Proof.Machine.execTableWriteMapLength tag index w s
  | .tableWriteMapEntries tag index w => Sys2Proof.Machine.execTableWriteMapEntries tag index w s
  | .tableWritePullPlan tag index w => Sys2Proof.Machine.execTableWritePullPlan tag index w s
  | .tableWritePullLimits tag index w => Sys2Proof.Machine.execTableWritePullLimits tag index w s
  | .tableWriteAction tag index w => Sys2Proof.Machine.execTableWriteAction tag index w s
  | .tableWriteNode tag index w => Sys2Proof.Machine.execTableWriteNode tag index w s
  | .tableWriteUnknownTable tag code => Sys2Proof.Machine.execTableWriteUnknownTable tag code s
  | .tableReadProgram tag index => Sys2Proof.Machine.execTableReadProgram tag index s
  | .tableReadDeviceType tag index => Sys2Proof.Machine.execTableReadDeviceType tag index s
  | .tableReadMapLength tag index => Sys2Proof.Machine.execTableReadMapLength tag index s
  | .tableReadMapEntries tag index first count => Sys2Proof.Machine.execTableReadMapEntries tag index first count s
  | .tableReadSummary tag => Sys2Proof.Machine.execTableReadSummary tag s
  | .tableReadPullPlan tag index => Sys2Proof.Machine.execTableReadPullPlan tag index s
  | .tableReadPullLimits tag index => Sys2Proof.Machine.execTableReadPullLimits tag index s
  | .tableReadPullStatus tag => Sys2Proof.Machine.execTableReadPullStatus tag s
  | .tableReadAction tag index => Sys2Proof.Machine.execTableReadAction tag index s
  | .tableReadAlarmList tag index => Sys2Proof.Machine.execTableReadAlarmList tag index s
  | .tableReadNode tag index => Sys2Proof.Machine.execTableReadNode tag index s
  | .tableReadPortStatus tag index => Sys2Proof.Machine.execTableReadPortStatus tag index s
  | .tableReadPartStatus tag => Sys2Proof.Machine.execTableReadPartStatus tag s
  | .recordFetchBond tag first count => Sys2Proof.Machine.execRecordFetchBond tag first count s
  | .recordFetchTrace tag head first count => Sys2Proof.Machine.execRecordFetchTrace tag head first count s
  | .recordFetchPull tag first count => Sys2Proof.Machine.execRecordFetchPull tag first count s
  | .recordReplyQueued => Sys2Proof.Machine.execRecordReplyQueued s
  | .controlRun tag => Sys2Proof.Machine.execControlRun tag s
  | .controlConfig tag => Sys2Proof.Machine.execControlConfig tag s
  | .controlSupervision tag steps => Sys2Proof.Machine.execControlSupervision tag steps s
  | .controlSupplyLevel tag code => Sys2Proof.Machine.execControlSupplyLevel tag code s
  | .controlInputType tag device => Sys2Proof.Machine.execControlInputType tag device s
  | .controlIndexTimers tag hold done => Sys2Proof.Machine.execControlIndexTimers tag hold done s
  | .controlMagStop tag slot on => Sys2Proof.Machine.execControlMagStop tag slot on s
  | .controlPause tag head mode => Sys2Proof.Machine.execControlPause tag head mode s
  | .controlResume tag head => Sys2Proof.Machine.execControlResume tag head s
  | .controlRetry tag head => Sys2Proof.Machine.execControlRetry tag head s
  | .controlRejectUnit tag head => Sys2Proof.Machine.execControlRejectUnit tag head s
  | .controlTraceCapture tag head on => Sys2Proof.Machine.execControlTraceCapture tag head on s
  | .controlTraceRelease tag head => Sys2Proof.Machine.execControlTraceRelease tag head s
  | .controlClearResults tag head => Sys2Proof.Machine.execControlClearResults tag head s
  | .controlPullTimer tag seconds => Sys2Proof.Machine.execControlPullTimer tag seconds s
  | .controlPullCancel tag => Sys2Proof.Machine.execControlPullCancel tag s
  | .controlClearPullStats tag head => Sys2Proof.Machine.execControlClearPullStats tag head s
  | .controlReleasePull tag head => Sys2Proof.Machine.execControlReleasePull tag head s
  | .controlScreenRefresh tag steps => Sys2Proof.Machine.execControlScreenRefresh tag steps s
  | .controlPortEnable tag port => Sys2Proof.Machine.execControlPortEnable tag port s
  | .controlPortDisable tag port force => Sys2Proof.Machine.execControlPortDisable tag port force s
  | .controlPortRate tag port rate => Sys2Proof.Machine.execControlPortRate tag port rate s
  | .controlLinkThreshold tag threshold => Sys2Proof.Machine.execControlLinkThreshold tag threshold s
  | .controlClearCounters tag port => Sys2Proof.Machine.execControlClearCounters tag port s
  | .reset straps => Sys2Proof.Machine.execReset straps s
  | .alarmAck tag cls obj => Sys2Proof.Machine.execAlarmAck tag cls obj s
  | .alarmAckAll tag => Sys2Proof.Machine.execAlarmAckAll tag s
  | .forceTest tag => Sys2Proof.Machine.execForceTest tag s
  | .terminalLevel tag level => Sys2Proof.Machine.execTerminalLevel tag level s
  | .keepalive tag => Sys2Proof.Machine.execKeepalive tag s
  | .partTimeTick => Sys2Proof.Machine.execPartTimeTick s
  | .supplyBelowRetentionLevel mv => Sys2Proof.Machine.execSupplyBelowRetentionLevel mv s
  | .tableReadUnknownTable tag code => Sys2Proof.Machine.execTableReadUnknownTable tag code s
  | .recordFetchUnknownStore tag store => Sys2Proof.Machine.execRecordFetchUnknownStore tag store s

end Sys2Proof.Machine
end

