-- ==== Sys2Proof/Safety.lean ====
section
/-! DEFINITION. What the spec promises of the whole part at every moment: invariants over the state.
Each is decidable, and each is strong enough to be kept by every step from every state that has it. -/

namespace Sys2Proof.Machine

/-! ## Heads (R20, R22, R43) -/

/-- R22, R40, R43: a bond stands exactly in flight, the abort timer runs exactly in ABORTING, and a
head out of flight follows its hold reasons. -/
abbrev HeadInv (c : HeadCtx) : Prop :=
  c.state.inFlight = c.bond.isSome ∧ (c.abortTimer = true ↔ c.state = .aborting) ∧
    (c.state.inFlight = false → c.state = c.holds.state)

/-- R20, R37 to R39, R42: the EFO start time and the EFO timer stand exactly while TIMING. -/
abbrev EfoInv (c : HeadCtx) : Prop :=
  (c.efoStart.isSome = true ↔ c.efo = .timing) ∧ (c.efoTimer.isSome = true ↔ c.efo = .timing)

abbrev HeadsInv (s : State) : Prop :=
  HeadInv s.headA ∧ HeadInv s.headB ∧ EfoInv s.headA ∧ EfoInv s.headB

/-! ## Quality engines (R49, R50, R57 to R59, R67 to R70) -/

/-- R49, R50, R59: the engine is armed with the limits of the bond while its head is in flight, open
in IN-BOND, and DISARMED otherwise. -/
abbrev EngineFollows (c : HeadCtx) (e : Engine) : Prop :=
  c.state.inFlight = c.bond.isSome ∧ (c.state.inFlight = (e.state != .disarmed)) ∧
    (c.state = .armed → e.state = .armed) ∧ (c.state = .inBond → e.state = .opened) ∧
    (c.state.inFlight = true → e.limits.isSome = true)

/-- R57, R67, R69: no more samples count than the window limit, the greatest current has its place
among them, the ring keeps to its size, and a frozen trace stands exactly while the ring is FROZEN. -/
abbrev EngineBounds (e : Engine) : Prop :=
  (e.state ≠ .disarmed → e.n ≤ e.windowLimit) ∧ e.peakIndex ≤ e.n ∧
    e.ring.length ≤ Config.ringSize ∧ (e.ringState = .frozen ↔ e.frozen.isSome = true)

abbrev EnginesInv (s : State) : Prop :=
  EngineFollows s.headA s.engineA ∧ EngineFollows s.headB s.engineB ∧ EngineBounds s.engineA ∧
    EngineBounds s.engineB

/-! ## Alarms (R137, R142 to R144) -/

/-- R135, R137: one entry for each pair, each of an object of its class, in list order. -/
abbrev ListInv (l : List AlarmEntry) : Prop :=
  (l.map fun e => (e.cls, e.obj)).Nodup ∧ (∀ e ∈ l, e.cls.objects.contains e.obj = true) ∧
    l.Pairwise fun y e => standsAhead y e = true

/-- R143: the reasons ALARM and SAFE-STOP of a head follow the list. -/
abbrev FollowsList (c : HeadCtx) (h : Head) (l : List AlarmEntry) : Prop :=
  c.holds.alarm = alarmStands l h ∧ c.holds.safeStop = safeStopStands l

/-- R137, R142 to R144: the list, the safe-stop state and the hold reasons agree. -/
abbrev AlarmInv (s : State) : Prop :=
  ListInv s.alarms.entries ∧ s.alarms.safeStop = safeStopStands s.alarms.entries ∧
    FollowsList s.headA .a s.alarms.entries ∧ FollowsList s.headB .b s.alarms.entries

/-! ## The track (R86, R88, R99, R103, R113) -/

/-- R113: none of the four counts has reached its greatest value. -/
abbrev Unsaturated (t : Track) : Prop :=
  t.taken < maxU32 ∧ t.introduced < maxU32 ∧ t.delivered < maxU32 ∧ t.dropped < maxU32

/-- R113: strips taken plus introduced equal strips on the track plus delivered plus dropped. -/
abbrev Conserved (t : Track) : Prop :=
  t.taken + t.introduced = t.strips.length + t.delivered + t.dropped

/-- R91 to R94, R103: a TRANSFER in flight has an ordered output slot exactly when a strip stands at EXIT,
and an ordered slot whose magazine has not changed since is the cursor of that magazine, which is READY. -/
abbrev FlightInv (t : Track) : Prop :=
  ∀ q ∈ t.inFlight, q.kind = .transfer → q.outSlot.isSome = t.exit.isSome ∧
    (∀ k ∈ q.inSlot, q.inChanged = false → t.magIn.state = .ready ∧ t.magIn.cursor = k) ∧
    (∀ k ∈ q.outSlot, q.outChanged = false → t.magOut.state = .ready ∧ t.magOut.cursor = k)

/-- R88, R99, R102, R103, R113: the strips have distinct ids and are conserved; an UNKNOWN track has
no request; a request is never held and in flight; the slots of one in flight agree with the magazines. -/
abbrev TrackInv (s : State) : Prop :=
  (s.track.strips.map fun x => x.id).Nodup ∧
    (s.track.known = false → s.track.inFlight = none ∧ s.track.held = none) ∧
    (s.track.held.isSome = true → s.track.inFlight = none) ∧ FlightInv s.track ∧
    (Unsaturated s.track → Conserved s.track)

/-! ## Claims (R28, R29, R99) -/

/-- R28: the claim of a head is a unit of the window column at BOND that names the head. -/
abbrev ClaimStands (s : State) (h : Head) : Prop :=
  ∀ u ∈ (s.head h).claim, s.track.bond.isSome = true ∧ ∀ x ∈ s.track.bond,
    s.tables.inWindow x u = true ∧ (x.units[u]?).map (fun r => r.state) = some (.claimed h)

/-- R28: every unit of the strip at BOND that names a head is the claim of that head. -/
abbrev UnitsClaimed (s : State) (h : Head) : Prop :=
  ∀ x ∈ s.track.bond,
    ∀ y ∈ x.units.zipIdx, y.1.state = .claimed h → (s.head h).claim = some y.2

/-- R28: no unit of a strip is claimed. -/
abbrev NoClaim (x : Option Strip) : Prop :=
  ∀ y ∈ x, ∀ r ∈ y.units, r.state.isClaim = false

/-- R28: a bond in flight is on the head's claimed unit. -/
abbrev BondOnClaim (c : HeadCtx) : Prop :=
  c.state.inFlight = c.bond.isSome ∧ ∀ b ∈ c.bond, c.claim = some b.unit

/-- R28, R29, R99: claims and unit records agree, and no index operation is in flight while a unit is
claimed. -/
abbrev ClaimInv (s : State) : Prop :=
  ClaimStands s .a ∧ ClaimStands s .b ∧ UnitsClaimed s .a ∧ UnitsClaimed s .b ∧
    NoClaim s.track.entry ∧ NoClaim s.track.pull ∧ NoClaim s.track.exit ∧
    BondOnClaim s.headA ∧ BondOnClaim s.headB ∧
    (s.track.inFlight.isSome = true → s.headA.claim = none ∧ s.headB.claim = none)

/-! ## Pull testing (R98, R119 to R121, R128, R132) -/

/-- R119: a strip whose pull is neither WAITING nor ORDERED. -/
def Strip.quiet (x : Strip) : Bool := x.pullState != .waiting && x.pullState != .ordered

/-- R119 to R121, R128: a current pull is that of the strip at PULL, WAITING with no order queued and
no timer, or ORDERED with its timer running; a task of it waits for its result. Without a current pull
no strip's pull stands. -/
abbrev CurrentInv (s : State) : Prop :=
  (s.puller.current = none → s.puller.timer = none ∧ ∀ x ∈ s.track.pull, x.quiet = true) ∧
    ∀ c ∈ s.puller.current, s.track.pull.isSome = true ∧
      (∀ x ∈ s.track.pull, x.id = c.strip ∧ x.quiet = false ∧
        (x.pullState = .waiting → s.puller.ordersQueued = 0 ∧ s.puller.timer = none) ∧
        (x.pullState = .ordered → s.puller.timer.isSome = true)) ∧
      s.puller.ordersQueued ≤ c.tasks.length ∧ c.tasks.any (fun y => y.result.isNone) = true

/-- The pull controller, the strip at PULL and the index gate agree: no TRANSFER is in flight while a
pull stands (R99), and strips at other positions have none. -/
abbrev PullInv (s : State) : Prop :=
  TrackInv s ∧ CurrentInv s ∧
    (∀ q ∈ s.track.inFlight, q.kind = .transfer → ∀ x ∈ s.track.pull, x.quiet = true) ∧
    (∀ x ∈ s.track.entry, x.quiet = true) ∧ (∀ x ∈ s.track.bond, x.quiet = true) ∧
    (∀ x ∈ s.track.exit, x.quiet = true)

/-! ## Ports (R161, R166, R168, R170, R172) -/

/-- R170: the receive queue entries whose frame has not ended. -/
def PortRec.unended (p : PortRec) : Nat := (p.rx.filter fun e => e.body.isNone).length

/-- R170: the entries that the frame being received has. -/
def PortRec.awaited (p : PortRec) : Nat :=
  match p.receiving with
  | none => 0
  | some r => if r.fate = .stored ∨ r.fate = .passing then 1 else 0

/-- R172: at most one frame of the transmit queue is on the line. -/
def PortRec.begunCount (p : PortRec) : Nat := (p.tx.filter fun e => e.begun).length

/-- R166: what a running sleep timer says of its port. -/
abbrev SleepInv (p : PortRec) : Prop :=
  p.sleepTimer = true → p.state = .live ∧ p.tx = [] ∧ p.control = [] ∧ p.receiving = none

/-- R168: a DOWN port is empty, and its timers stand. -/
abbrev DownInv (p : PortRec) : Prop :=
  p.state = .down → p.rx = [] ∧ p.tx = [] ∧ p.control = [] ∧ p.receiving = none ∧ p.retryTimer = false

/-- R161, R162, R166, R168: frames are sent on a LIVE port only, and received on one that is WAKING or
LIVE; a DOWN port is not held off. -/
abbrev LineInv (p : PortRec) : Prop :=
  (p.state ≠ .live → p.begunCount = 0 ∧ p.hoSent = false) ∧
    (p.state.hears = false → p.receiving = none) ∧ (p.state = .down → p.hoReceived = false)

/-- R161, R170, R172: the bounds and the form of one port. -/
abbrev PortInv (x : Port) (p : PortRec) : Prop :=
  p.rx.length ≤ Config.queueDepth ∧ p.tx.length ≤ Config.queueDepth ∧
    (x = .u → p.normals ≤ Config.normalDepth) ∧ (x ≠ .u → p.urgents = 0) ∧
    p.unended = p.awaited ∧ p.begunCount ≤ 1 ∧ SleepInv p ∧ DownInv p ∧ LineInv p

abbrev PortsInv (s : State) : Prop := ∀ x ∈ allPorts, PortInv x (s.port x)

/-! ## The terminal server (R148, R151, R152) -/

/-- R148: the changed-field set is in field-number order, without duplicates, of the current page. -/
abbrev ChangedInv (t : Terminal) : Prop :=
  t.changed = (List.range (pageSize t.page)).filter t.changed.contains

/-- R152: the screen frames that stand in the transmit queue of port OT. -/
def screensInQueue (s : State) : Nat := (s.ports.ot.tx.filter fun e => e.msg.isScreen).length

/-- R148, R151: page, level, period, changed fields and scroll position keep their ranges. -/
abbrev TermInv (s : State) : Prop :=
  s.term.page ≤ 5 ∧ s.term.level ≤ 2 ∧ (1 ≤ s.term.refreshPeriod ∧ s.term.refreshPeriod ≤ 25) ∧
    ChangedInv s.term ∧ (s.term.scroll = 0 ∨ s.term.scroll + 8 ≤ s.alarms.entries.length)

/-- R152: the count of screen frames is that of the queue, and at most 2. -/
abbrev ScreenInv (s : State) : Prop :=
  s.term.screenQueued = screensInQueue s ∧ s.term.screenQueued ≤ 2 ∧ PortInv .ot s.ports.ot

/-! ## Words for what a command changes -/

/-- The blocks of the part (00, TABLE 1), each a component of the state. -/
inductive Block
  | tables | headA | headB | engineA | engineB | store | track | puller | alarms | term | ports | mgmt
  deriving DecidableEq, Repr

def headBlock : Head → Block
  | .a => .headA
  | .b => .headB

def engineBlock : Head → Block
  | .a => .engineA
  | .b => .engineB

/-- From `s` to `t` nothing changes outside the blocks of `l`. The changed-field set of the terminal
server may grow with every change (R150), so it stands outside the frame. -/
abbrev Frame (l : List Block) (s t : State) : Prop :=
  t.pending = s.pending ∧
    (Block.tables ∉ l → t.tables = s.tables) ∧ (Block.headA ∉ l → t.headA = s.headA) ∧
    (Block.headB ∉ l → t.headB = s.headB) ∧ (Block.engineA ∉ l → t.engineA = s.engineA) ∧
    (Block.engineB ∉ l → t.engineB = s.engineB) ∧ (Block.store ∉ l → t.store = s.store) ∧
    (Block.track ∉ l → t.track = s.track) ∧ (Block.puller ∉ l → t.puller = s.puller) ∧
    (Block.alarms ∉ l → t.alarms = s.alarms) ∧
    (Block.term ∉ l → t.term = { s.term with changed := t.term.changed }) ∧
    (Block.ports ∉ l → t.ports = s.ports) ∧ (Block.mgmt ∉ l → t.mgmt = s.mgmt)

/-- `t` is `u` but for the changed-field set of the terminal server (R150). -/
abbrev Like (u t : State) : Prop := t = { u with term := { u.term with changed := t.term.changed } }

/-- The ports outside `l` are unchanged. -/
abbrev PortsBut (l : List Port) (s t : State) : Prop := ∀ x ∈ allPorts, x ∉ l → t.port x = s.port x

/-- R22, R43, R143: head `h`, `c` before, once its hold reasons have been judged by the list `l`: ALARM and
SAFE-STOP stand as the list says, OPERATOR and LINK stay, and the state follows the set unless the head is
in flight. -/
abbrev HeldByList (c : HeadCtx) (h : Head) (l : List AlarmEntry) : HeadCtx :=
  let holds : Holds := { c.holds with
    alarm := l.any fun e => e.action == .holdBoth || (e.action == .holdHead && e.obj == .head h)
    safeStop := l.any fun e => e.action == .safeStop }
  { c with
    holds := holds
    state :=
      if c.state = .armed ∨ c.state = .inBond ∨ c.state = .aborting then c.state
      else if holds.link then .offline
      else if holds.operator ∨ holds.alarm ∨ holds.safeStop then .hold
      else .idle }

/-- R151: the terminal server has been told of a change to the alarm list, from `s` to `t`, whose list is the
new one: the scroll position follows the number of entries, and the fields that show the list are marked
where their page is current. -/
abbrev ListTold (s t : State) : Prop :=
  let n := t.alarms.entries.length
  t.term = { s.term with
      changed := t.term.changed
      scroll := if n < s.term.scroll + 8 ∧ 0 < s.term.scroll then n - 8 else s.term.scroll } ∧
    (s.term.page = 1 → ∀ k < 9, k ∈ t.term.changed) ∧
    (s.term.page = 0 → 5 ∈ t.term.changed ∧ 6 ∈ t.term.changed)

/-- The alarm list, both heads and the terminal server stand in `t` as in `u`, but for the changed-field
set. -/
abbrev AlarmsAs (u t : State) : Prop :=
  t.alarms = u.alarms ∧ t.headA = u.headA ∧ t.headB = u.headB ∧
    t.term = { u.term with changed := t.term.changed }

/-- R140, R142, R143: the conditions of the entries that satisfy `ends` are gone, from `s` to `t`: an
ACTIVE-UNACKED one is CLEARED-UNACKED, an ACTIVE-ACKED one has left, and where one left the hold reasons of
both heads and the safe-stop state follow the list. -/
abbrev ConditionsOver (ends : AlarmEntry → Bool) (s t : State) : Prop :=
  let l := s.alarms.entries
  let kept := l.filter fun y => !(ends y && y.state == .activeAcked)
  t.alarms = { s.alarms with
      entries := kept.map fun y =>
        if ends y = true ∧ y.state = .activeUnacked then { y with state := .clearedUnacked } else y
      safeStop := kept.any fun y => y.action == .safeStop } ∧
    t.headA = (if kept.length < l.length then HeldByList s.headA .a kept else s.headA) ∧
    t.headB = (if kept.length < l.length then HeldByList s.headB .b kept else s.headB) ∧
    (if l.all (fun y => !ends y || y.state == .clearedUnacked) then
        t.term = { s.term with changed := t.term.changed }
      else ListTold s t)

/-- R102, R109: what a jam leaves, from `s`, where the frame that tells of it has been taken, to `t`; `behind`
is what is queued on the ports behind the jam. The request in flight ends with its timer, the track becomes
UNKNOWN, a held request is refused UNKNOWN, and JAM is raised for the track and then TRACK-UNKNOWN. -/
abbrev Jammed (behind : Ports → Ports) (s t : State) : Prop :=
  let d := s.track
  let ended : State := { s with
    track := { d with
      inFlight := none
      doneTimer := none
      known := false
      held := none
      holdTimer := if d.held.isSome then none else d.holdTimer }
    ports := d.held.elim s.ports fun q => s.ports.enqueue .u false (.indexRefused q.kind .unknown) }
  let raised := (ended.raise .jam .track).raise .trackUnknown .track
  t.track = ended.track ∧ t.alarms = ((s.raise .jam .track).raise .trackUnknown .track).alarms ∧
    t.headA = ((s.raise .jam .track).raise .trackUnknown .track).headA ∧
    t.headB = ((s.raise .jam .track).raise .trackUnknown .track).headB ∧
    t.ports = behind raised.ports ∧ Like { raised with ports := behind raised.ports } t ∧
    Frame [.headA, .headB, .track, .alarms, .term, .ports] s t

/-- R171, R172, R174: which frame begins next, from a port `p` to `q`. On a LIVE port that is not held off
and whose line is free it is the oldest URGENT frame, and without one the oldest frame; a copy whose
inbound frame is still arriving begins only where the outbound rate is not greater than the rate of port
U, that is, where its symbol time is not shorter. On another port none begins. -/
abbrev NextBegins (rateU : Rate) (p q : PortRec) : Prop :=
  if p.state = .live ∧ p.hoReceived = false ∧ p.control = [] ∧ (∀ e ∈ p.tx, e.begun = false) then
    (p.tx = [] → q.tx = []) ∧
    ∀ k < p.tx.length, ∀ e ∈ p.tx[k]?, (∀ y ∈ p.tx.take k, y.urgent = false) →
      (e.urgent = true ∨ k = 0 ∧ ∀ y ∈ p.tx, y.urgent = false) →
      q.tx = if e.isArriving = false ∨ rateU.symbolPs ≤ p.rate.symbolPs then
          p.tx.set k { e with begun := true }
        else p.tx
  else q.tx = p.tx

/-- R174: what the failure of an inbound frame of port U leaves of a downstream port, from `p` to `q`: the
copies of the frame leave the queue, begun or not, each counted POISONED, and where that frees the line the
next frame begins; a port without a copy stays as it is. -/
abbrev CopiesPoisoned (rateU : Rate) (p q : PortRec) : Prop :=
  let copies := (p.tx.filter TxEntry.isArriving).length
  if copies = 0 then q = p
  else
    NextBegins rateU { p with tx := p.tx.filter fun e => !e.isArriving } q ∧
      q = { p with
        tx := q.tx
        sleepTimer := q.sleepTimer
        count := { p.count with poisoned := min 65535 (p.count.poisoned + copies) } }

/-- R162, R170, R174, R177: what a failed frame leaves on port `p`, from `s` to `t`: the port stands with the
counters `count` and the entries `left`, and sends GO where that `goes`; a frame that port U was passing on
has its copies poisoned; and at the threshold the line alarm of the port is raised, its note queued on port
U ahead of any GO. Nothing else changes. -/
abbrev FrameFailed (p : Port) (count : Counters) (left : List RxEntry) (goes : Prop) [Decidable goes]
    (s t : State) : Prop :=
  let r := s.port p
  let passing := p = .u ∧ r.receiving.any (fun y => y.fate = .passing) = true
  let pair : AlarmClass × AlarmObject :=
    if p = .ha then (.headFault, .head .a) else if p = .hb then (.headFault, .head .b)
    else (.linkError, .port p)
  let cleared := if passing then s.poisonCopies else s
  let freed := cleared.updatePort p fun r => { r with rx := left, receiving := none, count := count }
  let alarmed := s.mgmt.linkThreshold ≤ count.crc + count.framing + count.overlong
  let failed := if alarmed then freed.raise pair.1 pair.2 else freed
  (∀ x ∈ downstream, passing → CopiesPoisoned r.rate (s.port x) (cleared.port x)) ∧
    (∀ x ∈ allPorts, x ≠ p → t.port x = failed.port x) ∧
    t.port p = { failed.port p with
      control := if goes then r.control ++ [.go] else r.control
      hoSent := if goes then false else r.hoSent
      sleepTimer := (t.port p).sleepTimer } ∧
    AlarmsAs failed t ∧ t.track = failed.track ∧
    Frame (if alarmed then [.headA, .headB, .track, .alarms, .term, .ports] else [.ports]) s t

/-- R100, R103: what the judging of a held request leaves, from `s`, the state as it stands after a release
event, to `t`, of which only the track and the ports are spoken of; `behind` is what is queued on the ports
behind the judging. With no reason left the request ends and is forwarded, or refused BUSY where port IX
has no room; else it stays held with the reasons that are left. -/
abbrev GateJudged (behind : Ports → Ports) (s t : State) : Prop :=
  let d := s.track
  let reasons (k : IndexKind) : GateReasons := ⟨
    d.bond.any fun x => x.units.zipIdx.any fun y =>
      (k == .transfer || s.tables.inWindow x y.2) && y.1.state.isClaim,
    k == .transfer && d.pull.any fun x => x.pullState == .waiting || x.pullState == .ordered,
    k == .transfer && d.exit.isSome && d.magOut.state != .ready⟩
  let inSlot (k : IndexKind) := if k = .transfer ∧ d.magIn.state = .ready then some d.magIn.cursor else none
  let outSlot (k : IndexKind) := if k = .transfer ∧ d.exit.isSome then some d.magOut.cursor else none
  (d.held = none → t.track = d ∧ t.ports = behind s.ports) ∧
    ∀ q ∈ d.held,
      if reasons q.kind ≠ ⟨false, false, false⟩ then
        t.track = { d with held := some ⟨q.kind, reasons q.kind⟩ } ∧ t.ports = behind s.ports
      else if (s.port .ix).tx.length < 8 then
        t.track = { d with
          held := none
          holdTimer := none
          inFlight := some ⟨q.kind, inSlot q.kind, outSlot q.kind, false, false⟩
          doneTimer := some d.doneTimeout } ∧
        t.ports = behind (s.ports.enqueue .ix false (.index q.kind (inSlot q.kind) (outSlot q.kind)))
      else
        t.track = { d with held := none, holdTimer := none } ∧
        t.ports = behind (s.ports.enqueue .u false (.indexRefused q.kind .busy))

/-- R74, R75: the record `r` has been written into the records `old`, giving `new`: it stands behind the
older ones and ahead of the younger ones, and in a full store it has replaced the UNPINNED record with
the greatest distance back. -/
abbrev RecordWritten (next : Nat) (r : BondRecord) (old new : List BondRecord) : Prop :=
  ∃ k ∈ List.range new.length, new[k]? = some r ∧
    (∀ y ∈ new.take k, distanceBack next r.number ≤ distanceBack next y.number) ∧
    (∀ y ∈ new[k + 1]?, distanceBack next y.number < distanceBack next r.number) ∧
    (old.length < 1024 → new.eraseIdx k = old) ∧
    ∀ j ∈ List.range old.length, ∀ z ∈ old[j]?, 1024 ≤ old.length → z.pinned = false →
      (∀ y ∈ old, y.pinned = false → distanceBack next y.number ≤ distanceBack next z.number) →
      (∀ y ∈ old.take j, y.pinned = true ∨ distanceBack next y.number < distanceBack next z.number) →
      new.eraseIdx k = old.eraseIdx j

/-- R33, R59, R66, R69, R73 to R75, R80: what every close of the bond `b` of head `h` with the figures `f`
leaves, from `s` to `t`. Up to four frames may stand in the queue of port U for its BOND-REPORT to be
sure of its place. -/
abbrev Closed (h : Head) (b : Bond) (f : Figures) (late link : Bool) (s t : State) : Prop :=
  let c := s.head h
  let e := s.engine h
  let froze := e.capture = true ∧ e.ringState = .following ∧
    (f.cls = .nonstick ∨ f.cls = .overBond ∨ f.cls = .noData)
  (t.head h).bond = none ∧ (t.head h).abortTimer = false ∧
    (t.head h).state = (t.head h).holds.state ∧
    (t.head h).last = some ⟨f.cls, b.kind, f.energy, f.deformation⟩ ∧
    (t.head h).results = c.results.countClass f.cls ∧ (t.head h).stray = c.stray ∧
    (t.head h).weakRun =
      (if f.cls = .weak then min 255 (c.weakRun + 1) else if f.cls = .good then 0 else c.weakRun) ∧
    (t.head h).efoDuration = c.efoDuration ∧
    t.engine h = { e with
      state := .disarmed
      ringState := if froze then .frozen else e.ringState
      frozen := if froze then some ⟨b.record, f.cls, e.ring⟩ else e.frozen } ∧
    t.engine (otherHead h) = s.engine (otherHead h) ∧
    (∃ l, RecordWritten s.store.nextRecord (bondRecordOf s.mgmt.time h b f late link) s.store.records l ∧
      t.store.records.map (fun y => { y with pinned := false }) =
        l.map fun y => { y with pinned := false }) ∧
    t.store.nextRecord = s.store.nextRecord ∧ t.store.fetch = s.store.fetch ∧
    t.tables = s.tables ∧ t.puller = s.puller ∧ t.mgmt = s.mgmt ∧ t.pending = s.pending ∧
    (s.ports.u.state ≠ .down → s.ports.u.tx.length ≤ 4 → ∃ e ∈ t.ports.u.tx,
      e.msg = .bondReport b.record h b.unit b.wire b.kind f.cls f.energy f.deformation
        ⟨f.limit, f.gap, f.long, late, link⟩)

/-- R23, R42: what the loss of the port of head `h` leaves, from `s` to `t`: the head is OFFLINE with LINK
added, its EFO status is NONE, and a bond in flight has closed ABORTED with LINK; its claim, its pause
request and its other hold reasons stay, and so do the other head, the alarms, the track and the ports but
that of the head and port U. -/
abbrev HeadLost (h : Head) (s t : State) : Prop :=
  let c := s.head h
  let lost : HeadCtx := { c with
    state := .offline, holds := { c.holds with link := true }, efo := .none, efoStart := none, efoTimer := none }
  Frame [headBlock h, engineBlock h, .store, .ports] s t ∧ PortsBut [.u, h.port] s t ∧
    (c.bond = none → t.head h = lost ∧ Frame [headBlock h, .ports] s t) ∧
    ∀ b ∈ c.bond,
      (t.head h).state = .offline ∧ (t.head h).holds = lost.holds ∧ (t.head h).efo = .none ∧
      (t.head h).efoStart = none ∧ (t.head h).efoTimer = none ∧ (t.head h).claim = c.claim ∧
      (t.head h).pause = c.pause ∧ (t.head h).efoDuration = c.efoDuration ∧
      Closed h b ((s.engine h).figures false) false true s t

/-- R118, R119: what the start of the pull of the strip `x`, at PULL, leaves from `s` to `t`, over the records
`l` with the pins of its units that are not DONE released, and the pull controller `p` as it stood before: a
task for each selected pair of a DONE unit with a pinned pair, in unit order and wire order within a unit;
with no task the pull is COMPLETE at once, else it waits, and a QUIET port PT is asked to wake (R120). -/
abbrev PullBegun (x : Strip) (l : List BondRecord) (p : Puller) (s t : State) : Prop :=
  let m := s.tables.wiresOf x
  let plan := s.tables.plan x.device
  let pinned (u w : Nat) (k : BondKind) : Option BondRecord := l.find? fun r =>
    r.pinned && r.strip == x.id && r.unit == u && r.wire == w && r.kind == k
  let pair (u w : Nat) : Option Task := (pinned u w .ball).bind fun b => (pinned u w .stitch).map fun c =>
    ⟨u, w, (m.slot w).loop, b.number, b.head, c.number, c.head, none⟩
  let tasks := (List.range (s.tables.columnsOf x * s.tables.rowsOf x)).flatMap fun u =>
    (List.range m.length).filterMap fun w =>
      if plan.units.contains u && plan.wires.contains w && !(m.slot w).skip &&
        (x.units[u]?).any (fun r => r.state == .done) then pair u w else none
  t.track.pull.map (fun y => (y.id, y.units)) = some (x.id, x.units) ∧
    if tasks = [] then
      t.puller = { p with current := none, timer := none, ordersQueued := 0 } ∧ t.pullState = .complete
    else
      t.puller = { p with
        current := some ⟨x.id, x.device, tasks, plan.limit, false⟩, ordersQueued := 0 } ∧
      t.pullState = .waiting ∧
      (t.port .pt).state =
        if (s.port .pt).state = .quiet then .waking .localEnd else (s.port .pt).state

/-- The commands that reset the part: after them the changed-field set is empty (R148). -/
def isReset : Instr → Bool
  | .powerOnReset _ _ => true
  | .pinReset _ => true
  | .supplyReset _ _ => true
  | .reset _ => true
  | _ => false

/-! ## A run -/

/-- A run of `n` steps: the outcome of the last one. -/
def runSteps : Nat → State → Host.Outcome State Fault Refusal
  | 0, s => .next s
  | n + 1, s => match step s with
    | .next t => runSteps n t
    | .fault f => .fault f
    | .refused r => .refused r

/-- A state from which no run stops, whatever commands wait (log 1). -/
def Safe (s : State) : Prop := ∀ n, ∃ t, runSteps n s = .next t

end Sys2Proof.Machine
end

