-- ==== Sys2Proof/WellFormed.lean ====
section
/-! DEFINITION. Which commands are well formed: those whose operands an event or a frame of chapter
11 can carry. The types bound every field to its width; the checks here bound the lists and say which
codes belong to a row. `exec` does not ask for it. -/

namespace Sys2Proof

/-- An envelope leaves the payload within 96 bytes (R162) when its kind needs `n`. -/
def Envelope.wf (e : Envelope) (n : Nat) : Bool := n + e.extra.length ≤ Config.maxPayload

/-- R164: a training field has 8 edges and so 7 intervals. -/
def intervalsWf (l : List W32) : Bool := l.length == 7

/-- 11 TABLE 9: four force slots and four ultrasonic slots. -/
def ProgramBody.wf (b : ProgramBody) : Bool := b.force.length == 4 && b.us.length == 4

/-- 11 TABLE 19: four unit slots and eight wire slots. -/
def PlanBody.wf (b : PlanBody) : Bool := b.units.length == 4 && b.wires.length == 8

/-- 11 TABLE 19: a run carries as many slots as its run count says, within a payload of 96 bytes. -/
def runWf (c : Byte × Byte × List SlotBody) : Bool :=
  c.2.2.length == c.2.1.toNat && 7 + 4 * c.2.2.length ≤ Config.maxPayload

/-- The contents of a write are well formed; ERASE always is. -/
def WriteOp.wf {α : Type} (ok : α → Bool) : WriteOp α → Bool
  | .erase => true
  | .put c => ok c

/-- R175: the frames that a block of the part reads at this port. -/
def isReadKind (p : Port) (kind : Byte) : Bool :=
  match p with
  | .u => false
  | .ha => kind == 0x10 || kind == 0x11
  | .hb => kind == 0x10 || kind == 0x11
  | .ix => kind == 0x22 || kind == 0x26
  | .pt => kind == 0x31 || kind == 0x32
  | .ot => kind == 0x42

/-- A MAG-IN or MAG-OUT frame of one of the two known sub-kinds, or with no sub-kind byte. -/
def isTakenMag (p : Port) (f : Frame) : Bool :=
  p == .ix && (f.kind == 0x24 || f.kind == 0x25) &&
    (f.payload.length == 0 || f.payload.getD 0 0 == 0 || f.payload.getD 0 0 == 1)

/-- The frames of the row DOWNSTREAM_FRAME_FORWARDED: from a downstream port, of a kind that no block
reads there (link control is taken by the port itself, R171). -/
def forwardedWf (p : Port) (f : Frame) : Bool :=
  p != .u && f.payload.length ≤ Config.maxPayload && !isReadKind p f.kind && !isTakenMag p f &&
    f.kind != 0x7E && f.kind != 0x7F

/-- R163, R182: a supply level within the stated bound. -/
def risenWf (mv : W16) : Bool := Config.resetMv ≤ mv.toNat

/-- Well-formed commands. -/
def Instr.wf : Instr → Bool
  | .powerOnReset _ mv => risenWf mv
  | .supplyReset _ mv => risenWf mv
  | .supplyBelowResetLevel mv => mv.toNat < Config.resetMv
  | .supplyBelowRetentionLevel mv => mv.toNat < Config.retentionMv
  | .wakeTrainingReceived _ l => intervalsWf l
  | .farEndWake _ (some l) => intervalsWf l
  | .downstreamFrameForwarded p f => forwardedWf p f
  | .touchdown _ e _ _ => e.wf 4
  | .lift _ e => e.wf 1
  | .aborted _ e => e.wf 1
  | .headFault _ e _ => e.wf 2
  | .strayEvent _ e c => e.wf 1 && 6 ≤ c.toNat
  | .sample _ _ xs => xs.length ≤ 15
  | .efoStart _ e _ => e.wf 3
  | .efoEnd _ e _ => e.wf 3
  | .indexDoneStep e c _ _ => e.wf 3 && c != 1
  | .indexDoneTransfer e _ _ => e.wf 3
  | .jam e _ => e.wf 1
  | .magInLoaded e _ => e.wf 2
  | .magInRemoved e => e.wf 1
  | .magOutLoaded e _ => e.wf 2
  | .magOutRemoved e => e.wf 1
  | .pullResult e _ _ _ _ _ => e.wf 7
  | .pullAbort e _ => e.wf 2
  | .keyUnknown c => 9 ≤ c.toNat
  | .managementRequestRefused k _ op =>
      (10 ≤ k.toNat && op == 0) || (k == 3 && 24 ≤ op.toNat)
  | .tableWriteProgram _ _ w => w.wf ProgramBody.wf
  | .tableWriteMapEntries _ _ w => w.wf runWf
  | .tableWritePullPlan _ _ w => w.wf PlanBody.wf
  | .tableWriteUnknownTable _ c => 8 ≤ c.toNat
  | .tableReadUnknownTable _ c => 13 ≤ c.toNat
  | .recordFetchUnknownStore _ s => 3 ≤ s.toNat
  | .alarmAck _ c _ => c != 0xFF
  | _ => true

end Sys2Proof
end

