-- ==== Sys2Proof/Certificates/Slice0/Obligations.lean ====
section
/-! DEFINITION. The statements for the provers. `s.inTurn p c` says that the part is not held in reset,
and that the oldest whole frame in the receive queue of port `p`, if one stands there, spells `c` (R170,
R178); `s.takeRx p c` is `s` with the entry of that frame freed. -/

open Sys2Proof Sys2Proof.Machine

/-! ## The queue of commands, runs and resets -/

/-- A step with a command at the front of the queue runs it on the state with the queue's rest.

The model's choice (logs 1 and 4): with no command waiting the part takes the short frames that are due
on its ports; while it is held in reset, or where every oldest whole frame spells a command, it idles. -/
def Obligations.StepRunsTheFrontCommand : Prop :=
  (∀ (c : Instr) (rest : List Instr) (s : State),
      step { s with pending := c :: rest } = exec c { s with pending := rest }) ∧
  (∀ (s : State), s.pending = [] →
      let due (p : Port) : Bool := (s.port p).oldest.any fun f => (commandOfFrame strapsAssumed p f).isNone
      step s = .next s.settleAll ∧ s.settleAll.pending = [] ∧
      (s.inReset = true ∨ allPorts.all (fun p => !due p) = true → step s = .next s))

/-- Every command completes from every state, and leaves the queue of commands to the step.

No run stops, whatever commands wait; a run of as many steps as commands wait empties the queue. -/
def Obligations.CommandsCompleteAndRunsDrain : Prop :=
  (∀ (c : Instr) (s : State), ∃ t, exec c s = .next t ∧ t.pending = s.pending) ∧
  (∀ (s : State), Safe s ∧ ∃ t, runSteps s.pending.length s = .next t ∧ t.pending = [])

/-- A command that a frame carries changes nothing while the part is held in reset (R182, log 3).

R182, R168, R42: the reset pin goes low, or the supply falls below the reset or the retention level: the part
is held, every port stands DOWN with its queues empty and its losses counted, and a head whose port was not
DOWN is OFFLINE with no bond in flight. R102: where port IX was not DOWN, a held request ends. R174: the
copies of a frame that port U was passing on are poisoned.

R33, R42, R59, R74: a bond in flight closes ABORTED with LINK: its engine is DISARMED, its record takes its
place in the store, that of head A before that of head B, and the head's last bond and result counters take
it. Its BOND-REPORT, and the INDEX-REFUSED of a held request, find port U DOWN and count in its TX-DROP.

R182 says that the ports of a held part stand DOWN; that each enters DOWN as at the loss of its line, from
port U to port OT, with what R168, R174 and R42 tie to it, is the model's reading (log 33); that a link
control frame waiting to be sent counts as the one being sent is log 19. -/
def Obligations.HeldPart : Prop :=
  (∀ (c : Instr) (s : State),
      s.inReset = true → (frameOf c).isSome = true → exec c s = .next s) ∧
  (∀ (mv : W16) (s : State),
      HeadsInv s →
      let lost (p : Port) : Bool := (s.port p).state != .down
      let closing (h : Head) : Option Bond := if lost h.port then (s.head h).bond else none
      let figures (h : Head) : Figures := (s.engine h).figures false
      let written (h : Head) (old new : List BondRecord) : Prop :=
        (closing h = none → new = old) ∧ ∀ b ∈ closing h, RecordWritten s.store.nextRecord
          (bondRecordOf s.mgmt.time h b (figures h) false true) old new
      let unsent : Nat := (closing .a).toList.length + (closing .b).toList.length +
        if lost .ix then s.track.held.toList.length else 0
      let emptied (q : PortRec) : PortRec :=
        let sent := if q.tx.any (fun e => e.begun) || !q.control.isEmpty then 1 else 0
        { q with
          state := .down, rx := [], receiving := none, tx := [], control := []
          hoSent := false, hoReceived := false, sleepTimer := false, retryTimer := false
          count := { q.count with
            txDrop := min 65535 (min 65535 (q.count.txDrop + sent) + q.waitingTx)
            rxOverrun := min 65535 (q.count.rxOverrun + q.wholeRx) } }
      let held (m : Mgmt) (t : State) : Prop :=
        t.mgmt = m ∧ t.inReset = true ∧ t.tables = s.tables ∧ t.pending = s.pending ∧
        (∀ p ∈ allPorts, (t.port p).state = .down ∧ (t.port p).enabled = (s.port p).enabled ∧
          (t.port p).lineReady = (s.port p).lineReady ∧ (t.port p).rate = (s.port p).rate ∧
          ∃ q, (if p ≠ .u ∧ lost .u = true then CopiesPoisoned s.ports.u.rate (s.port p) q
              else q = s.port p) ∧
            let left := if lost p then emptied q else q
            t.port p = if p = .u ∧ 0 < unsent then { left with
                count := { left.count with txDrop := min 65535 (left.count.txDrop + unsent) } }
              else left) ∧
        t.alarms = s.alarms ∧ t.puller = s.puller ∧
        t.track = (if lost .ix = true ∧ s.track.held.isSome = true then
          { s.track with held := none, holdTimer := none } else s.track) ∧
        t.term = { s.term with
          changed := t.term.changed
          screenQueued := if lost .ot then 0 else s.term.screenQueued } ∧
        (∀ h ∈ [Head.a, Head.b], t.head h =
          let c := s.head h
          if lost h.port then { c with
            state := .offline
            holds := { c.holds with link := true }
            bond := none
            abortTimer := false
            efo := .none, efoStart := none, efoTimer := none
            last := c.bond.elim c.last fun b =>
              some ⟨.aborted, b.kind, (figures h).energy, (figures h).deformation⟩
            results := if c.bond.isSome then
                { c.results with aborted := min 65535 (c.results.aborted + 1) }
              else c.results }
          else c) ∧
        (∀ h ∈ [Head.a, Head.b], t.engine h = if (closing h).isSome then
          { s.engine h with state := .disarmed } else s.engine h) ∧
        t.store = { s.store with records := t.store.records } ∧
        ∃ l, written .a s.store.records l ∧ written .b l t.store.records
      (∃ t, exec .resetPinLow s = .next t ∧ held { s.mgmt with pinLow := true } t) ∧
      (∃ t, exec (.supplyBelowResetLevel mv) s = .next t ∧
        held { s.mgmt with supplyMv := mv.toNat, supplyDown := true } t) ∧
      (∃ t, exec (.supplyBelowRetentionLevel mv) s = .next t ∧
        held { s.mgmt with supplyMv := mv.toNat, supplyDown := true, powerMark := false } t))

/-- R18, R20, R48, R71, R86, R115 to R117, R134 to R136, R148, R161, R176, R182, R185 to R187: the machine
after a POWER-ON reset, field by field, the twenty entries of the action table among them in the order of
their class codes; straps low, line inputs not ready and the supply at 3.3 V are the model's (log 8), as are
the magazine cursors and slots (log 9), and the frames and link control frames being received or to be sent
are its own form of the ports (log 19). -/
def Obligations.ResetLeavesTheStatedValues : Prop :=
  let s := State.reset
  let head : HeadCtx :=
    { state := .offline, claim := none, bond := none
      efo := .none, efoStart := none, efoTimer := none, efoDuration := none
      pause := none, holds := ⟨false, true, false, true⟩, abortTimer := false
      weakRun := 0, stray := 0, last := none, results := ⟨0, 0, 0, 0, 0, 0⟩ }
  let engine : Engine :=
    { state := .disarmed, limits := none, zTouch := 0, expected := 0
      n := 0, energy := 0, peak := 0, peakIndex := 0, zMin := 65535
      missing := 0, position := 0, gap := false, long := false
      ring := [], ringState := .following, frozen := none, capture := false }
  let port (enabled : Bool) (rate : Rate) : PortRec :=
    { state := .down, enabled := enabled, lineReady := false, rate := rate
      rx := [], receiving := none, tx := [], control := []
      hoSent := false, hoReceived := false, sleepTimer := false, retryTimer := false
      count := ⟨0, 0, 0, 0, 0, 0, 0, 0, 0, 0⟩ }
  s.headA = head ∧ s.headB = head ∧ s.engineA = engine ∧ s.engineB = engine ∧
  s.tables.programs = List.replicate 32 none ∧ s.tables.devices = List.replicate 8 none ∧
  s.tables.maps = List.replicate 8 ⟨0, List.replicate 256 ⟨0, 0, 0, true⟩⟩ ∧
  s.tables.plans = List.replicate 8 ⟨0, [], [], 3⟩ ∧ s.tables.limits = List.replicate 4 ⟨30, 40⟩ ∧
  s.tables.actions = [
    ⟨5, 6, .holdHead⟩, ⟨5, 5, .holdHead⟩, ⟨4, 4, .holdHead⟩, ⟨3, 4, .note⟩, ⟨5, 7, .holdHead⟩,
    ⟨3, 2, .note⟩, ⟨6, 6, .holdHead⟩, ⟨6, 3, .holdHead⟩, ⟨4, 6, .note⟩, ⟨2, 5, .note⟩,
    ⟨3, 6, .note⟩, ⟨4, 2, .note⟩, ⟨7, 5, .safeStop⟩, ⟨4, 7, .holdBoth⟩, ⟨3, 3, .note⟩,
    ⟨7, 7, .safeStop⟩, ⟨2, 2, .note⟩, ⟨6, 7, .note⟩, ⟨4, 5, .holdBoth⟩, ⟨1, 0, .note⟩] ∧
  s.tables.nodes = [⟨0x20, 0xFF⟩, ⟨0x30, 0xFF⟩, ⟨0x40, 0xF0⟩, ⟨0x50, 0xFF⟩, ⟨0x60, 0xFF⟩] ∧
  s.store = ⟨[], 1, none⟩ ∧
  s.track =
    { entry := none, bond := none, pull := none, exit := none, known := false
      magIn := ⟨.absent, 0, List.replicate 40 .unreached, 1⟩, loadCount := 0
      magOut := ⟨.absent, 0, List.replicate 40 .free, 1⟩
      held := none, holdTimer := none, inFlight := none, doneTimer := none
      inputType := 0, holdTimeout := 50, doneTimeout := 30, stripCounter := 0
      taken := 0, introduced := 0, delivered := 0, dropped := 0, lastDelivered := none } ∧
  s.puller =
    { current := none, ordersQueued := 0, timer := none, timeout := 60, log := [], nextPull := 1
      statsA := ⟨0, 0, 0, 0, none⟩, statsB := ⟨0, 0, 0, 0, none⟩, runA := 0, runB := 0
      stray := 0, last := none } ∧
  s.alarms = ⟨[⟨.trackUnknown, .track, 4, 7, .holdBoth, 1, 1, .activeUnacked⟩], 1, false⟩ ∧
  s.term =
    { page := 0, scroll := 0, changed := [], clearPending := false, screenQueued := 0
      level := 0, denied := false, refreshPeriod := 5, refreshTimer := 5 } ∧
  s.ports = ⟨port true .r6, port false .r25, port false .r25, port false .r25, port false .r25,
    port false .r25⟩ ∧
  s.mgmt =
    { run := false, time := 0, cause := ⟨true, true, false, false⟩, supervision := 0, supTimer := none
      started := false, own := 0xE0, linkThreshold := 100, supplyLow := false, warnHigh := false
      supplyMv := 3300, powerMark := true, supplyDown := false, pinLow := false } ∧
  s.pending = []

/-! ## Invariants -/

/-- The invariants hold after a POWER-ON reset. -/
def Obligations.ResetMeetsTheInvariants : Prop :=
  HeadsInv State.reset ∧ EnginesInv State.reset ∧ AlarmInv State.reset ∧ TrackInv State.reset ∧
    ClaimInv State.reset ∧ PullInv State.reset ∧ PortsInv State.reset ∧ TermInv State.reset ∧ ScreenInv State.reset

/-- Every step keeps: a bond stands exactly in flight, the abort timer runs exactly in ABORTING, a
head out of flight follows its hold reasons, and EFO start and timer stand exactly while TIMING.

Every step keeps: an engine is armed exactly while its head is in flight, and its counts, ring and
frozen trace keep their bounds. -/
def Obligations.StepsKeepHeadsAndEngines : Prop :=
  (∀ (s t : State), HeadsInv s → step s = .next t → HeadsInv t) ∧
  (∀ (s t : State), EnginesInv s → step s = .next t → EnginesInv t)

/-- Every step keeps the alarm list ordered by level and rank, with one entry for each pair, and keeps
the hold reasons ALARM and SAFE-STOP and the safe-stop state as the list says. Where entries of one level
and rank are put is said at the raise (R138). -/
def Obligations.StepsKeepAlarmsAndHolds : Prop :=
  ∀ (s t : State), AlarmInv s → step s = .next t → AlarmInv t

/-- Every step keeps the strip ids distinct and, until a count saturates, the strips conserved:
taken plus introduced equal on the track plus delivered plus dropped (R88, R113); and that a TRANSFER in
flight agrees with the magazines: an ordered slot whose magazine has not changed since is the cursor of that
magazine, which is READY (R91 to R94, R103). -/
def Obligations.StepsConserveStrips : Prop :=
  ∀ (s t : State), TrackInv s → step s = .next t → TrackInv t

/-- Every step keeps claims and unit records in agreement, and no index operation is in flight while a
unit is claimed (R28, R29, R99). -/
def Obligations.StepsKeepClaims : Prop :=
  ∀ (s t : State), ClaimInv s → step s = .next t → ClaimInv t

/-- Every step keeps the pull controller, the strip at PULL and the index gate in agreement: a current pull
is WAITING or ORDERED with a task that waits, no TRANSFER is in flight while a pull stands, and strips at
other positions have none (R98, R99, R119 to R121, R128). -/
def Obligations.StepsKeepPulls : Prop :=
  ∀ (s t : State), PullInv s → step s = .next t → PullInv t

/-- Every step keeps the bounds and the form of the six ports' queues (R161, R166, R168, R170, R172). -/
def Obligations.StepsKeepPortQueues : Prop :=
  ∀ (s t : State), PortsInv s → step s = .next t → PortsInv t

/-- Every step keeps the ranges of the terminal server (R148, R151).

Every step keeps the count of queued screen frames equal to what stands on port OT (R152). -/
def Obligations.StepsKeepTerminal : Prop :=
  (∀ (s t : State), TermInv s → step s = .next t → TermInv t) ∧
  (∀ (s t : State), ScreenInv s → step s = .next t → ScreenInv t)

/-! ## Frames -/

/-- Every well-formed command that a frame carries is read back from its frame, every operand at every
value; the strap pins are RESET's own operand. -/
def Obligations.FramesReadBack : Prop :=
  ∀ (c : Instr) (p : Port) (f : Frame),
    c.wf = true → frameOf c = some (p, f) → commandOfFrame (commandPins c) p f = some c

/-- A frame with up to 96 payload bytes, put on the line with its stuffed zeros and its CRC, is judged
good and gives its payload back (R162).

R162, the failure table, for the bits that a sender puts behind a header, `line`, with their stuffed zeros:
OVERLONG where the header's length is above 96, whatever follows, and where 99 whole bytes have come, which
are 97 payload bytes and the CRC; else FRAMING where the bits are not whole bytes or are not as many as the
length and the CRC ask for, and where two more ones stand in the place of the zero after five; else CRC where
the two bytes behind the payload are not the complement of the register, high byte first. Which failure is
found first is log 16. -/
def Obligations.LineReadsBack : Prop :=
  (∀ (f : Frame), f.payload.length ≤ 96 → judgeTail (frameHeader f) (goodTail f) = .good f.payload) ∧
  (∀ (h : Header) (bits rest : List Bool) (data : List Byte),
    let run := runAfter 0 (lineBits (Header.bytes h))
    let line := stuffTail run bits
    let whole := bits.length / 8
    let n := h.len.toNat
    let sentBits (l : List Byte) := l.flatMap fun x => (List.range 8).map fun k => x.getLsbD k
    let checked := sentBits ([h.dst, h.src, h.kind, h.len] ++ data.take n)
    let register : BitVec 16 := checked.foldl (fun (r : BitVec 16) x =>
      if r.msb != x then (r <<< 1) ^^^ 0x1021#16 else r <<< 1) 0xFFFF#16
    let crc := [(~~~register).extractLsb' 8 8, (~~~register).extractLsb' 0 8]
    if 96 < n then judgeTail h rest = .overlong
    else
      (99 ≤ whole → judgeTail h (line ++ rest) = .overlong) ∧
      (whole < 99 → bits.length % 8 ≠ 0 ∨ whole ≠ n + 2 → judgeTail h line = .framing) ∧
      (whole < 99 → runAfter run bits = 5 →
        judgeTail h (line.dropLast ++ [true, true] ++ rest) = .framing) ∧
      (data.length = n + 2 → judgeTail h (stuffTail run (sentBits data)) =
        if data.drop n = crc then .good (data.take n) else .crc))

/-- Frames written out from the layouts of chapter 11 decode to the commands they stand for. -/
def Obligations.WrittenFramesDecode : Prop :=
  let read (p : Port) (kind : Byte) (l : List Byte) : Option Instr :=
    commandOfFrame strapsAssumed p ⟨0xE0, 0x20, kind, l⟩
  read .u 0x01 [1, 0x01, 0x43, 7, 9, 1] = some (.bondStart 1 0x0143 7 9 1) ∧
  read .u 0x03 [1] = some (.bondAbort 1) ∧
  read .u 0x20 [1, 1] = some (.indexTransfer true) ∧
  read .u 0x60 [3, 0x55, 22, 0x12, 0x34] = some (.controlLinkThreshold 0x55 0x1234) ∧
  read .u 0x60 [2, 9, 1, 1, 0, 0, 2, 3, 4] = some (.recordFetchTrace 9 1 0x203 4) ∧
  read .u 0x60 [0, 7, 1, 3, 0, 4, 2, 6] = some (.tableWriteDeviceType 7 3 (.put ⟨4, 2, 6⟩)) ∧
  read .ha 0x11 [0, 0x12, 0x34, 0x56] = some (.touchdown .a ⟨0xE0, 0x20, []⟩ 0x1234 0x56) ∧
  read .hb 0x10 [5, 1, 0, 1, 0xFF, 0xFE, 0, 9] = some (.sample .b 5 [⟨1, 0xFFFE, 9⟩]) ∧
  read .ix 0x22 [1, 12, 0] = some (.indexDoneTransfer ⟨0xE0, 0x20, []⟩ 12 0) ∧
  read .pt 0x31 [0, 66, 3, 4, 0, 35, 2, 7] =
    some (.pullResult ⟨0xE0, 0x20, [7]⟩ 66 3 4 35 2) ∧
  read .ot 0x42 [4, 1, 2] = some (.keyPause 1 2) ∧
  read .ix 0x7E [] = some (.holdOff .ix)

/-- R150: a value that changes while its page is current marks its field; the part time, field 9 of
page 0, is excepted, and a reset empties the set. First, the values compared before and after a command.

R107, R112, R113, R119: then, values that a command changes and gives back, each in a step of its rule
(log 7): a TRANSFER that delivers a strip, or a TRACK-SET that drops one strip and introduces another, marks
the number of strips, field 4 of MACHINE; the pull of a strip without a task, over as soon as it starts,
marks the pull state and the tasks, fields 1 and 2 of PULL. -/
def Obligations.ChangedValuesAreMarked : Prop :=
  (∀ (c : Instr) (s t : State),
      isReset c = false → exec c s = .next t → t.term.page = s.term.page →
        ∀ k < pageSize s.term.page, ¬(s.term.page = 0 ∧ k = 9) →
          fieldValue s s.term.page k ≠ fieldValue t s.term.page k → k ∈ t.term.changed) ∧
  (∀ (e : Envelope) (i o : Byte) (q : FlightRequest) (s : State),
      let c : Instr := .indexDoneTransfer e i o
      s.inTurn .ix c = true → s.track.inFlight = some q →
      transferMismatch s.track q (slotOf i) (slotOf o) = false →
      ∃ t, exec c s = .next t ∧
        (s.term.page = 0 → o ≠ 0 → s.track.exit.isSome = true → 4 ∈ t.term.changed) ∧
        (s.term.page = 4 → s.track.bond.any (fun x => x.pullDue) = true → t.pullState = .complete →
          2 ∈ t.term.changed ∧
          (s.track.bond.any (fun x => x.pullState = .complete) = false → 1 ∈ t.term.changed))) ∧
  (∀ (tag : Byte) (b : TrackSetBody) (s t : State),
      let gone := s.track.strips.filter fun x => t.track.strips.all fun y => y.id != x.id
      let fresh := t.track.strips.filter fun y => s.track.strips.all fun x => x.id != y.id
      exec (.trackSet tag b) s = .next t → s.term.page = 0 → gone ≠ [] → fresh ≠ [] →
        4 ∈ t.term.changed)

/-! ## Shared operations -/

/-- R164, R168, R172, R174: a frame queued on port `x`: a DOWN port, a queue of 8 frames, or on port U a
NORMAL frame beside 6 NORMAL ones, drops it and counts TX-DROP; else it joins the queue as its youngest and
a QUIET port wakes. On a LIVE port that is not held off and whose line is free the next frame then begins:
the oldest URGENT one, else the oldest; else none begins. -/
def Obligations.QueueingAFrame : Prop :=
  ∀ (p : PortRec) (x : Port) (rateU : Rate) (urgent : Bool) (m : Msg),
    let q := p.enqueue x rateU urgent m
    let flags (l : List TxEntry) := l.map fun e => (e.msg, e.urgent)
    if p.state = .down ∨ 8 ≤ p.tx.length ∨ (x = .u ∧ urgent = false ∧ 6 ≤ p.normals) then
      q = { p with count := { p.count with txDrop := min 65535 (p.count.txDrop + 1) } }
    else
      q = { p with
        tx := q.tx
        sleepTimer := false
        state := if p.state = .quiet then .waking .localEnd else p.state } ∧
      flags q.tx = flags p.tx ++ [(m, urgent)] ∧
      NextBegins rateU { p with tx := p.tx ++ [⟨m, urgent, false⟩] } q

/-- R138, R139, R143, R145, R151: what a raise does when the entry's action is not SAFE-STOP or the pair is
listed: the entry, its place, the sequence number, the note, and the hold reasons; the terminal server is
told.

R144, R110, R40: a new SAFE-STOP entry aborts the bonds that are ARMED or IN-BOND, holds both
heads, queues FREEZE on port IX, and ends a held request with INDEX-REFUSED STOPPED. -/
def Obligations.RaisingAnAlarm : Prop :=
  (∀ (s : State) (c : AlarmClass) (o : AlarmObject),
      let t := s.raise c o
      let x := s.actionEntry c
      let e : AlarmEntry :=
        ⟨c, o, x.level, x.rank, x.action, nextInCycle s.alarms.lastSeq, 1, .activeUnacked⟩
      Frame [.headA, .headB, .track, .alarms, .term, .ports] s t ∧ ListTold s t ∧
      let listed := Alarms.find s.alarms.entries c o
      (∀ y ∈ listed,
        t.alarms = { s.alarms with entries := s.alarms.entries.map fun z =>
          if z.cls = c ∧ z.obj = o then { z with count := min 255 (z.count + 1), state := .activeUnacked }
          else z } ∧
        Frame [.alarms, .term, .ports] s t ∧
        t.ports = if s.mgmt.started then s.ports.enqueue .u true (.alarmNote c o y.level .raised)
          else s.ports) ∧
      (listed = none →
        t.alarms.lastSeq = nextInCycle s.alarms.lastSeq ∧
        t.alarms.entries = s.alarms.entries.takeWhile (fun y => standsAhead y e) ++
          e :: s.alarms.entries.dropWhile (fun y => standsAhead y e) ∧
        (x.action ≠ .safeStop →
          t.alarms.safeStop = s.alarms.safeStop ∧ t.track = s.track ∧
          t.headA = HeldByList s.headA .a t.alarms.entries ∧
          t.headB = HeldByList s.headB .b t.alarms.entries ∧
          t.ports = if s.mgmt.started then s.ports.enqueue .u true (.alarmNote c o x.level .raised)
            else s.ports))) ∧
  (∀ (s : State) (c : AlarmClass) (o : AlarmObject),
      Alarms.find s.alarms.entries c o = none → (s.actionEntry c).action = .safeStop →
      let t := s.raise c o
      let stopped (x : HeadCtx) (h : Head) : HeadCtx :=
        let holds := { x.holds with alarm := alarmStands t.alarms.entries h, safeStop := true }
        if x.state = .armed ∨ x.state = .inBond then
          { x with state := .aborting, abortTimer := true, holds := holds }
        else if x.state = .aborting then { x with holds := holds }
        else { x with holds := holds, state := if x.holds.link then .offline else .hold }
      let abort (h : Head) (p : Ports) : Ports :=
        if (s.head h).state = .armed ∨ (s.head h).state = .inBond then p.enqueue h.port false .abort
        else p
      t.alarms.safeStop = true ∧ t.headA = stopped s.headA .a ∧ t.headB = stopped s.headB .b ∧
      t.track = (if s.track.held.isSome then { s.track with held := none, holdTimer := none }
        else s.track) ∧
      let p := if s.mgmt.started then
          s.ports.enqueue .u true (.alarmNote c o (s.actionEntry c).level .raised) else s.ports
      let p := (abort .b (abort .a p)).enqueue .ix false .freeze
      t.ports = s.track.held.elim p fun q => p.enqueue .u false (.indexRefused q.kind .stopped))

/-- R140 to R142: the condition of a listed pair goes, or the pair is acknowledged: an entry moves to
CLEARED-UNACKED or ACTIVE-ACKED, or leaves the list, with the note of what happened, and the terminal server
is told (R151); when it leaves, the heads' hold reasons and the safe-stop state follow the list.

R141: an ACTIVE entry leaves at its acknowledgement when its class is latched, PULL-TIMEOUT among them, or
when it is a HEAD-FAULT whose head's port is LIVE; every other one waits in ACTIVE-ACKED. -/
def Obligations.EntriesMoveAndLeave : Prop :=
  ∀ (s : State) (e : AlarmEntry),
    AlarmInv s → e ∈ s.alarms.entries →
    let latched : List AlarmClass :=
      [.weakRun, .overBond, .sampleLoss, .rebondLimit, .indexStall, .test, .pullTimeout]
    let ends := e.cls ∈ latched ∨ e.cls = .headFault ∧
      ∃ h ∈ [Head.a, Head.b], e.obj = .head h ∧ (s.port h.port).state = .live
    let isE (y : AlarmEntry) : Bool := y.cls == e.cls && y.obj == e.obj
    let moved (t : State) (st : AlarmState) (w : NoteEvent) : Prop :=
      Frame [.alarms, .term, .ports] s t ∧ ListTold s t ∧
      t.alarms = { s.alarms with
        entries := s.alarms.entries.map fun y => if isE y then { y with state := st } else y } ∧
      t.ports = if s.mgmt.started then s.ports.enqueue .u true (.alarmNote e.cls e.obj e.level w)
        else s.ports
    let left (t : State) : Prop :=
      Frame [.headA, .headB, .alarms, .term, .ports] s t ∧ ListTold s t ∧
      t.alarms.entries = s.alarms.entries.filter (fun y => !isE y) ∧
      t.alarms.lastSeq = s.alarms.lastSeq ∧
      t.alarms.safeStop = safeStopStands t.alarms.entries ∧
      t.headA = HeldByList s.headA .a t.alarms.entries ∧
      t.headB = HeldByList s.headB .b t.alarms.entries ∧
      t.ports = if s.mgmt.started then
          s.ports.enqueue .u true (.alarmNote e.cls e.obj e.level .removed) else s.ports
    (e.state = .activeUnacked →
      moved (s.conditionGone e.cls e.obj) .clearedUnacked .cleared ∧
      if ends then left (s.acknowledge e) else moved (s.acknowledge e) .activeAcked .acked) ∧
    (e.state = .activeAcked → left (s.conditionGone e.cls e.obj) ∧ s.acknowledge e = s) ∧
    (e.state = .clearedUnacked → s.conditionGone e.cls e.obj = s ∧ left (s.acknowledge e))

/-! ## Resets, supply, part time, supervision (chapter 10) -/

/-- R182 and the reset columns of the chapters: what a POWER-ON, SUPPLY or PIN reset leaves. The cause
marks POWER-ON when the power mark was lost; every block is as after a POWER-ON reset; the supply is
judged against the LOW level of 3050 mV (R186). The order of the two entries is log 10, the queue of
commands log 1; while the supply is low a PIN release resets nothing (log 11), and a PIN or RESET entry
judges the level of the last supply event (log 39).

R183 and the reset columns: RESET keeps the tables, the records, the pull log, the settings and the
port rates; it clears the contexts, the pins, the fetch, the track, the run state, the port counters and the
alarm list. R134, R137, R138: TRACK-UNKNOWN is listed anew with the level, rank and action of the action table
as it stands, sequence number 1 and count 1, ACTIVE-UNACKED, and SUPPLY-LOW with number 2 where the supply is
low (log 10), at its place in list order. R143, R144: the hold reasons of both heads and the safe-stop state
follow that list; the FREEZE of each entry with the action SAFE-STOP finds port IX DOWN, and TX-DROP counts it
(R168, log 45).

After each of them port U is QUIET where its line is ready and the part is not held any more (R163, R188;
that a line counts as ready over a reset is log 12), and else DOWN like the other ports. -/
def Obligations.ResetsClearThePart : Prop :=
  let rateU (x : Straps) : Rate :=
    if x.rateSecond then (if x.rateFirst then .r50 else .r25) else if x.rateFirst then .r12 else .r6
  let port (s : State) (p : Port) (rate : Rate) (released : Bool) (txDrop : Nat) : PortRec :=
    { state := if p = .u ∧ s.ports.u.lineReady = true ∧ released = true then .quiet else .down
      enabled := p == .u, lineReady := (s.port p).lineReady, rate := rate
      rx := [], receiving := none, tx := [], control := []
      hoSent := false, hoReceived := false, sleepTimer := false, retryTimer := false
      count := { Counters.zero with txDrop := txDrop } }
  (∀ (x : Straps) (mv : W16) (s : State),
      let cleared (level : Nat) (cause : ResetCause) (pinLow : Bool) (t : State) : Prop :=
        let low := decide (level < 3050)
        t.tables = Tables.initial ∧ t.headA = HeadCtx.afterReset ∧ t.headB = HeadCtx.afterReset ∧
        t.engineA = Engine.initial ∧ t.engineB = Engine.initial ∧ t.store = Store.initial ∧
        t.track = Track.initial ∧ t.puller = Puller.initial ∧ t.term = Terminal.initial ∧
        t.alarms = (if low then
            ⟨[⟨.supplyLow, .part, 6, 7, .note, 2, 1, .activeUnacked⟩, AlarmEntry.trackUnknownAtReset], 2,
              false⟩
          else ⟨[AlarmEntry.trackUnknownAtReset], 1, false⟩) ∧
        (∀ p ∈ allPorts, t.port p = port s p (if p = .u then rateU x else .r25) (!pinLow) 0) ∧
        t.mgmt = { Mgmt.initial with
          cause := cause
          own := 0xE0 + x.address.setWidth 8
          supplyLow := low
          supplyMv := level
          pinLow := pinLow } ∧
        t.pending = s.pending
      (∃ t, exec (.powerOnReset x mv) s = .next t ∧
        cleared mv.toNat ⟨true, true, false, false⟩ s.mgmt.pinLow t) ∧
      (∃ t, exec (.supplyReset x mv) s = .next t ∧
        cleared mv.toNat ⟨!s.mgmt.powerMark, true, false, false⟩ s.mgmt.pinLow t) ∧
      (∃ t, exec (.pinReset x) s = .next t ∧
        if s.mgmt.supplyDown then t = { s with mgmt := { s.mgmt with pinLow := false } }
        else cleared s.mgmt.supplyMv ⟨false, false, true, false⟩ false t)) ∧
  (∀ (x : Straps) (s : State),
      let low := decide (s.mgmt.supplyMv < if s.mgmt.warnHigh then 3150 else 3050)
      let entry (c : AlarmClass) (o : AlarmObject) (a : ActionEntry) (number : Nat) : AlarmEntry :=
        { cls := c, obj := o, level := a.level, rank := a.rank, action := a.action
          seq := number, count := 1, state := .activeUnacked }
      let unknown := entry .trackUnknown .track (s.tables.actions.getD 13 ⟨4, 7, .holdBoth⟩) 1
      let supply := entry .supplyLow .part (s.tables.actions.getD 17 ⟨6, 7, .note⟩) 2
      let first := supply.level < unknown.level ∨
        supply.level = unknown.level ∧ supply.rank ≤ unknown.rank
      let list := if low = false then [unknown]
        else if first then [unknown, supply] else [supply, unknown]
      s.inTurn .u (.reset x) = true →
        ∃ t, exec (.reset x) s = .next t ∧ t.tables = s.tables ∧ t.pending = s.pending ∧
        t.alarms = ⟨list, list.length, list.any fun y => y.action == .safeStop⟩ ∧
        (∀ h ∈ [Head.a, Head.b], t.head h = HeldByList HeadCtx.initial h list) ∧
        t.engineA = Engine.initial ∧ t.engineB = Engine.initial ∧
        t.store = { s.store with
          records := s.store.records.map fun r => { r with pinned := false }, fetch := none } ∧
        t.track = { Track.initial with
          loadCount := s.track.loadCount
          inputType := s.track.inputType
          holdTimeout := s.track.holdTimeout
          doneTimeout := s.track.doneTimeout } ∧
        t.puller = { Puller.initial with
          timeout := s.puller.timeout, log := s.puller.log, nextPull := s.puller.nextPull } ∧
        t.term = { Terminal.initial with
          refreshPeriod := s.term.refreshPeriod, refreshTimer := s.term.refreshPeriod } ∧
        (∀ p ∈ allPorts, t.port p = port s p (if p = .u then rateU x else (s.port p).rate) true
          (if p = .ix then (list.filter fun y => y.action == .safeStop).length else 0)) ∧
        t.mgmt = { Mgmt.initial with
          cause := ⟨false, false, false, true⟩
          own := 0xE0 + x.address.setWidth 8
          linkThreshold := s.mgmt.linkThreshold
          warnHigh := s.mgmt.warnHigh
          supplyLow := low
          supplyMv := s.mgmt.supplyMv
          supplyDown := s.mgmt.supplyDown
          pinLow := s.mgmt.pinLow })

/-- R186: the supply falls below the warning level, or rises above it with its hysteresis: the supply
state changes, and SUPPLY-LOW is raised or its condition is gone, once. The millivolts of the event stand
as the supply level from then on, and do not decide whether it acts (log 39).

R185: the supervision timer expires while it runs: it stops and LINK-LOSS is raised for port U; a
stopped timer does nothing (log 6). -/
def Obligations.SupplyWarningsAndSupervision : Prop :=
  (∀ (mv : W16) (s : State),
      let m := { s.mgmt with supplyMv := mv.toNat }
      (∃ t, exec (.supplyFallsBelowWarning mv) s = .next t ∧
        t.mgmt = { m with supplyLow := true } ∧
        if s.mgmt.supplyLow then Frame [.mgmt] s t
        else Like ({ s with mgmt := { m with supplyLow := true } }.raise .supplyLow .part) t ∧
          t.alarms = (s.raise .supplyLow .part).alarms ∧ t.ports = (s.raise .supplyLow .part).ports ∧
          t.headA = (s.raise .supplyLow .part).headA ∧ t.headB = (s.raise .supplyLow .part).headB ∧
          t.track = (s.raise .supplyLow .part).track ∧
          Frame [.headA, .headB, .track, .alarms, .term, .ports, .mgmt] s t) ∧
      (∃ t, exec (.supplyRisesAboveWarning mv) s = .next t ∧
        t.mgmt = { m with supplyLow := false } ∧
        if s.mgmt.supplyLow then
          Like ({ s with mgmt := { m with supplyLow := false } }.conditionGone .supplyLow .part) t ∧
          t.alarms = (s.conditionGone .supplyLow .part).alarms ∧
          t.ports = (s.conditionGone .supplyLow .part).ports ∧
          t.headA = (s.conditionGone .supplyLow .part).headA ∧
          t.headB = (s.conditionGone .supplyLow .part).headB ∧
          Frame [.headA, .headB, .alarms, .term, .ports, .mgmt] s t
        else Frame [.mgmt] s t)) ∧
  (∀ (s : State),
      ∃ t, exec .supervisionTimerExpiry s = .next t ∧
        if s.mgmt.supTimer = none then t = s
        else Like ({ s with mgmt := { s.mgmt with supTimer := none } }.raise .linkLoss (.port .u)) t)

/-- R184: the part time rises by 1 and is 0 after 4,294,967,295; nothing else changes. -/
def Obligations.PartTimeTicks : Prop :=
  ∀ (s : State),
    s.mgmt.time ≤ 4294967295 →
    exec .partTimeTick s =
      .next { s with mgmt := { s.mgmt with time := (s.mgmt.time + 1) % 4294967296 } }

/-! ## The bond link (chapter 9) -/

/-- R163, R168, R120, R153: LINE-READY lets an enabled DOWN port of a part not held in reset into
QUIET; port PT wakes at once for a pull that waits or has orders to queue, port OT starts its screen
afresh. Losing the line empties the port, which enters DOWN, and counts what it held; a link control frame
that waits with no other frame on the line counts as the one being sent (log 19).

R23, R42: the loss of HA or HB makes its head OFFLINE with LINK, ends its ball formation, and closes its
bond in flight ABORTED with LINK, without a change to its unit or its claim. R102: the loss of IX ends a
held request with INDEX-REFUSED PORT-DOWN. R174: the loss of U poisons the copies of a frame that it was
passing on. -/
def Obligations.LineReadyAndLost : Prop :=
  ∀ (p : Port) (s : State),
    let r := s.port p
    let asks := s.puller.current.isSome &&
      (s.pullState == .waiting || (s.pullState == .ordered && s.puller.unordered))
    (∃ t, exec (.lineReady p) s = .next t ∧
      Frame (if p = .ot then [.ports, .term] else [.ports]) s t ∧ PortsBut [p] s t ∧
      if r.state = .down ∧ r.enabled = true ∧ s.inReset = false then
        t.port p = { r with
          lineReady := true
          state := if p = .pt ∧ asks = true then .waking .localEnd else .quiet } ∧
        (p = .ot → t.term.clearPending = true ∧ t.term.changed = List.range (pageSize s.term.page) ∧
          { t.term with clearPending := s.term.clearPending, changed := s.term.changed } = s.term)
      else t.port p = { r with lineReady := true } ∧
        t.term = { s.term with changed := t.term.changed }) ∧
    (∃ t, exec (.lineNotReady p) s = .next t ∧ t.tables = s.tables ∧ t.mgmt = s.mgmt ∧
      t.pending = s.pending ∧
      let sent := if r.tx.any (fun e => e.begun) || !r.control.isEmpty then 1 else 0
      if r.state = .down then Frame [.ports] s t ∧ PortsBut [p] s t ∧
        t.port p = { r with lineReady := false }
      else
        t.port p = { r with
          state := .down, lineReady := false, rx := [], receiving := none, tx := [], control := []
          hoSent := false, hoReceived := false, sleepTimer := false, retryTimer := false
          count := { r.count with
            txDrop := min 65535 (min 65535 (r.count.txDrop + sent) + r.waitingTx)
            rxOverrun := min 65535 (r.count.rxOverrun + r.wholeRx) } } ∧
        (∀ h ∈ [Head.a, Head.b], p = h.port → HeadInv (s.head h) → HeadLost h s t) ∧
        (p = .pt → Frame [.ports] s t ∧ PortsBut [.pt] s t) ∧
        (p = .u → Frame [.ports] s t ∧
          ∀ x ∈ downstream, CopiesPoisoned r.rate (s.port x) (t.port x)) ∧
        (p = .ix → Frame [.ports, .track] s t ∧ PortsBut [.u, .ix] s t ∧
          t.track = (if s.track.held.isSome then { s.track with held := none, holdTimer := none }
            else s.track) ∧
          t.ports.u = s.track.held.elim s.ports.u fun q =>
            s.ports.u.enqueue .u s.ports.u.rate false (.indexRefused q.kind .portDown)) ∧
        (p = .ot → Frame [.ports, .term] s t ∧ t.term.screenQueued = 0 ∧
          { t.term with screenQueued := s.term.screenQueued, changed := s.term.changed } = s.term))

/-- R164, R165: what a wake's training, its answer timeout and the retry timer do. The port enters LIVE
exactly when each of the seven intervals lies within 3 % of one symbol time; else the wake fails, and the port
is QUIET again (a port PT with a pull to order wakes at once, R120); a frame being received is then abandoned
(log 15), and its copies are poisoned (R174). A far-end wake may come before its training (log 25); one taken
in QUIET or as the answer to the port's own wake stops the retry timer, which else runs on over a wake (log
31). In other port states nothing changes.

R141, R142: where HA or HB enters LIVE, a HEAD-FAULT of its head that waits ACTIVE-ACKED is removed, with its
note, and the hold reasons of both heads follow the list; one that is not acknowledged stays as it is, and so
does every other entry.

R188, R23, R170: at the first LIVE of port U after a reset STARTED joins its queue, URGENT, with the reset
cause, the run state, the counts of the table state and the own address, and no later LIVE queues one; HA and
HB take LINK from their head; 6 waiting frames make HOLD-OFF due, which goes ahead of the transmit queue and
so of STARTED (log 42), and sets hold-off sent.

R171, R172, R174: on a port that enters LIVE, is not held off and has no link control frame to send, the next
frame begins: the oldest URGENT one, STARTED among them, else the oldest. Nothing else of the port changes,
but that the sleep timer starts where nothing is to be sent or being received (log 29).

R166: a LIVE port whose sleep timer expires enters QUIET (PT wakes at once for a pull, R120); the expiry of a
stopped timer changes nothing (log 6). -/
def Obligations.WakesAndSleeps : Prop :=
  (∀ (p : Port) (l : List W32) (s : State),
      let r := s.port p
      let pass := l.all fun x =>
        ((x.toNat - r.rate.symbolPs) + (r.rate.symbolPs - x.toNat)) * 100 ≤ 3 * r.rate.symbolPs
      let asks := s.puller.current.isSome &&
        (s.pullState == .waiting || (s.pullState == .ordered && s.puller.unordered))
      let passing := p = .u ∧ r.receiving.any (fun y => y.fate = .passing) = true
      let failed (retry : Bool) (t : State) : Prop :=
        Frame [.ports] s t ∧ (¬passing → PortsBut [p] s t) ∧
        (passing → ∀ x ∈ downstream, CopiesPoisoned r.rate (s.port x) (t.port x)) ∧
        t.port p = { r with
          state := if p = .pt ∧ asks = true then .waking .localEnd else .quiet
          rx := r.rx.filter fun e => e.body.isSome
          receiving := none
          retryTimer := retry
          count := { r.count with wakeFail := min 65535 (r.count.wakeFail + 1) } }
      let T := s.tables
      let started : Msg := .started s.mgmt.cause s.mgmt.run
        ⟨(T.programs.filter Option.isSome).length, (T.devices.filter Option.isSome).length,
          (T.maps.filter T.mapValid).length, ((List.range 8).filter T.usable).length⟩ s.mgmt.own
      let holds := r.hoSent = false ∧ 6 ≤ r.rx.length
      let starts := p = .u ∧ s.mgmt.started = false
      let live (retry : Bool) (t : State) : Prop :=
        let entered : PortRec := { r with
          state := .live
          retryTimer := retry
          control := if holds then r.control ++ [.holdOff] else r.control
          hoSent := if holds then true else r.hoSent
          tx := if starts ∧ r.tx.length < 8 then r.tx ++ [⟨started, true, false⟩] else r.tx
          count := if starts ∧ 8 ≤ r.tx.length then
              { r.count with txDrop := min 65535 (r.count.txDrop + 1) }
            else r.count }
        let still := entered.tx = [] ∧ entered.control = [] ∧ r.receiving = none
        NextBegins s.ports.u.rate entered (t.port p) ∧
        t.port p = { entered with tx := (t.port p).tx, sleepTimer := (t.port p).sleepTimer } ∧
        (still → (t.port p).sleepTimer = true) ∧
        (¬still → r.sleepTimer = false → (t.port p).sleepTimer = false) ∧
        (p = .ha ∨ p = .hb → PortsBut [p, .u] s t) ∧ (p ≠ .ha → p ≠ .hb → PortsBut [p] s t) ∧
        t.mgmt = (if p = .u then { s.mgmt with started := true } else s.mgmt) ∧
        (∀ h ∈ [Head.a, Head.b], p = h.port →
          (t.head h).holds.link = false ∧ t.head (otherHead h) =
            { s.head (otherHead h) with
              holds := (t.head (otherHead h)).holds, state := (t.head (otherHead h)).state } ∧
          (t.head (otherHead h)).holds.link = (s.head (otherHead h)).holds.link ∧
          ((t.head h).state = if (s.head h).state.inFlight then (s.head h).state
            else (t.head h).holds.state) ∧
          let c (x : Head) : HeadCtx := if x = h then
            { s.head x with holds := { (s.head x).holds with link := false } } else s.head x
          let fault := Alarms.find s.alarms.entries .headFault (.head h)
          let left := s.alarms.entries.filter fun z => !(z.cls == .headFault && z.obj == .head h)
          (fault.all (fun y => y.state ≠ .activeAcked) = true →
            t.alarms = s.alarms ∧ t.head h = (c h).followHolds ∧
            t.term = { s.term with changed := t.term.changed } ∧
            t.head (otherHead h) = s.head (otherHead h) ∧ t.ports.u = s.ports.u) ∧
          ∀ y ∈ fault, y.state = .activeAcked →
            t.alarms = { s.alarms with
              entries := left
              safeStop := if y.action = .safeStop ∧ safeStopStands left = false then false
                else s.alarms.safeStop } ∧
            (∀ x ∈ [Head.a, Head.b], t.head x = HeldByList (c x) x left) ∧ ListTold s t ∧
            t.ports.u = if s.mgmt.started then s.ports.u.enqueue .u s.ports.u.rate true
              (.alarmNote .headFault (.head h) y.level .removed) else s.ports.u) ∧
        Frame (if p = .ha ∨ p = .hb then [.headA, .headB, .alarms, .term, .ports]
          else if p = .u then [.ports, .mgmt] else [.ports]) s t
      (∃ t, exec (.wakeTrainingReceived p l) s = .next t ∧
        if r.state = .waking .localEnd then (if pass then live r.retryTimer t else failed true t)
        else t = s) ∧
      (∃ t, exec (.wakeAnswerTimeout p) s = .next t ∧
        if r.state = .waking .localEnd then failed true t else t = s) ∧
      (∃ t, exec (.farEndWake p none) s = .next t ∧
        if r.state = .quiet then Frame [.ports] s t ∧ PortsBut [p] s t ∧
          t.port p = { r with state := .waking .farEnd, retryTimer := false }
        else if r.state = .waking .localEnd then Frame [.ports] s t ∧ PortsBut [p] s t ∧
          t.port p = { r with retryTimer := false }
        else t = s) ∧
      (∃ t, exec (.farEndWake p (some l)) s = .next t ∧
        if r.state = .quiet then (if pass then live false t else failed (!r.tx.isEmpty) t)
        else if r.state = .waking .farEnd then
          (if pass then live r.retryTimer t else failed (!r.tx.isEmpty) t)
        else if r.state = .waking .localEnd then (if pass then live false t else failed true t)
        else t = s) ∧
      (∃ t, exec (.wakeRetryTimerExpiry p) s = .next t ∧ Frame [.ports] s t ∧ PortsBut [p] s t ∧
        t.port p = { r with
          retryTimer := false
          state := if r.retryTimer = true ∧ r.state = .quiet ∧ r.tx ≠ [] then .waking .localEnd
            else r.state })) ∧
  (∀ (p : Port) (s : State),
      let r := s.port p
      let asks := s.puller.current.isSome &&
        (s.pullState == .waiting || (s.pullState == .ordered && s.puller.unordered))
      ∃ t, exec (.sleepTimerExpiry p) s = .next t ∧
        if r.sleepTimer = true ∧ r.state = .live then
          Frame [.ports] s t ∧ PortsBut [p] s t ∧
          t.port p = { r with
            state := if p = .pt ∧ asks = true then .waking .localEnd else .quiet
            sleepTimer := false, hoSent := false, hoReceived := false }
        else t = s)

/-- R162, R170, R173, R174: a header on a WAKING or LIVE port takes a receive queue entry, with HOLD-OFF
at 6 entries; a ninth is RX-OVERRUN; a length above 96 counts OVERLONG at once, takes no entry, and the rest
of its frame is passed over; a header that cuts another frame off counts FRAMING and frees its entry, with
GO where 3 are left, and then acts as on the port so left. On port U the router keeps the part's own frames,
drops what it cannot route (UNROUTED), and queues copies. Nothing happens on a port that is DOWN or QUIET. That a header cuts a frame
off is log 15, and that OVERLONG is judged before RX-OVERRUN log 16.

The model's choices: a HOLD-OFF or GO that finds the 8 entries taken counts RX-OVERRUN like any frame, though
R171 calls such frames not counted (log 40); the entry of a frame that the router drops is freed at once, in
the step of its header (log 41); and where a cut-off makes GO due and raises an alarm, the frame that the alarm
queues on the port begins first on a free line, and GO follows it (log 43). -/
def Obligations.HeadersTakeEntries : Prop :=
  ∀ (p : Port) (h : Header) (s : State),
    let r := s.port p
    let hears := r.state ≠ .down ∧ r.state ≠ .quiet
    let free := r.receiving = none ∨
      r.receiving.any (fun y => y.fate = .overrun ∨ y.fate = .passedOver) = true
    let fits := h.len.toNat ≤ 96
    let whole := r.rx.filter fun e => e.body.isSome
    ∃ t, exec (.frameHeaderReceived p h) s = .next t ∧
      (¬hears → Like s t) ∧
      (hears → free → fits → Frame [.ports] s t) ∧
      (hears → free → ¬fits →
        (t.port p).receiving = some ⟨h, .passedOver⟩ ∧ (t.port p).rx = r.rx ∧
        (t.port p).control = r.control ∧
        (t.port p).count.overlong = min 65535 (r.count.overlong + 1) ∧
        let pair : AlarmClass × AlarmObject :=
          if p = .ha then (.headFault, .head .a) else if p = .hb then (.headFault, .head .b)
          else (.linkError, .port p)
        if s.mgmt.linkThreshold ≤
            r.count.crc + r.count.framing + min 65535 (r.count.overlong + 1) then
          t.alarms = (s.raise pair.1 pair.2).alarms ∧
          Like ((s.updatePort p fun _ => { r with
            receiving := some ⟨h, .passedOver⟩
            sleepTimer := false
            count := { r.count with overlong := min 65535 (r.count.overlong + 1) } }).raise
              pair.1 pair.2) t
        else Frame [.ports] s t ∧ PortsBut [p] s t ∧ t.port p = { r with
          receiving := some ⟨h, .passedOver⟩
          sleepTimer := false
          count := { r.count with overlong := min 65535 (r.count.overlong + 1) } }) ∧
      (hears → free → fits → 8 ≤ r.rx.length → PortsBut [p] s t ∧
        t.port p = { r with
          receiving := some ⟨h, .overrun⟩
          sleepTimer := false
          count := { r.count with rxOverrun := min 65535 (r.count.rxOverrun + 1) } }) ∧
      (hears → free → fits → r.rx.length < 8 → p ≠ .u → PortsBut [p] s t ∧
        let holds := r.state = .live ∧ r.hoSent = false ∧ 6 ≤ r.rx.length + 1
        t.port p = { r with
          rx := r.rx ++ [⟨h, none⟩]
          receiving := some ⟨h, .stored⟩
          sleepTimer := false
          control := if holds then r.control ++ [.holdOff] else r.control
          hoSent := if holds then true else r.hoSent }) ∧
      (hears → free → fits → r.rx.length < 8 → p = .u →
        let holds := r.state = .live ∧ r.hoSent = false ∧ 6 ≤ r.rx.length + 1
        let own := h.kind = 0x7E ∨ h.kind = 0x7F ∨ h.kind = 0x01 ∨ h.kind = 0x03 ∨ h.kind = 0x20
        let kept := own ∨ (h.dst = s.mgmt.own ∧ h.kind = 0x60)
        let copies (x : Port) : Prop := ¬own ∧ h.dst ≠ s.mgmt.own ∧
          (if h.dst = 0xFF then (s.port x).state = .live ∨ (s.port x).state = .quiet
           else downstream.find? (fun y => (s.tables.node y).matches h.dst) = some x)
        (∀ x ∈ downstream, t.port x = if copies x then (s.port x).enqueue x r.rate false (.arriving h)
          else s.port x) ∧
        let held : PortRec := { r with
          rx := r.rx ++ [⟨h, none⟩]
          receiving := some ⟨h, if kept then .stored else .passing⟩
          sleepTimer := false
          control := if holds then r.control ++ [.holdOff] else r.control
          hoSent := if holds then true else r.hoSent }
        let goes := r.state = .live ∧ held.hoSent = true ∧ whole.length ≤ 3
        if kept ∨ ∃ x ∈ downstream, copies x then t.port .u = held
        else t.port .u = { held with
          rx := whole
          receiving := some ⟨h, .dropped⟩
          control := if goes then held.control ++ [.go] else held.control
          hoSent := if goes then false else held.hoSent
          count := { r.count with unrouted := min 65535 (r.count.unrouted + 1) } }) ∧
      (hears → ¬free →
        let u := s.cutOff p
        let goes := r.state = .live ∧ r.hoSent = true ∧ whole.length ≤ 3
        FrameFailed p { r.count with framing := min 65535 (r.count.framing + 1) } whole goes s u ∧
        ∃ v, exec (.frameHeaderReceived p h) u = .next v ∧ Like v t)

/-- R162, R170, R174, R177: the end of a frame that is bad, or that no header began: the failure found first
is counted, the frame's entry is freed, with GO where 3 are left, the copies of a frame that port U was
passing on leave their ports, each counted POISONED, and at the threshold the line alarm of the port is
raised. When a frame is bad, and by which failure, is said of `judgeTail` by LineReadsBack. That an end
without a header counts FRAMING is log 15, that a frame which takes no entry is judged too is log 13, the order of the failures is log 16, and that the alarm's note goes ahead of the GO is
log 43. -/
def Obligations.BadFramesAreCounted : Prop :=
  ∀ (p : Port) (tail : List Bool) (s : State),
    let r := s.port p
    let bad (y : Receiving) (v : LineVerdict) : Prop :=
      y.fate ≠ .overrun ∧ y.fate ≠ .passedOver ∧ judgeTail y.hdr tail = v
    let crc := r.receiving.any fun y => bad y .crc
    let overlong := r.receiving.any fun y => bad y .overlong
    let framing := r.receiving.isNone || r.receiving.any fun y => bad y .framing
    let left := if r.receiving = none then r.rx else r.rx.filter fun e => e.body.isSome
    r.state ≠ .down → r.state ≠ .quiet → (crc || overlong || framing) = true →
    ∃ t, exec (.frameEndReceived p tail) s = .next t ∧
      FrameFailed p
        { r.count with
          crc := if crc then min 65535 (r.count.crc + 1) else r.count.crc
          overlong := if overlong then min 65535 (r.count.overlong + 1) else r.count.overlong
          framing := if framing then min 65535 (r.count.framing + 1) else r.count.framing }
        left (r.state = .live ∧ r.hoSent = true ∧ left.length ≤ 3) s t

/-- R162, R170, R173 to R175, R185: the end of a good frame by its way: a stored frame fills its entry for its
block, or counts SOURCE-ERROR where its source does not match the port's node; a passed frame completes its
copies, its entry is freed (log 14), and on each downstream port that is LIVE and not held off and whose line
is free the next frame begins, a copy that waited for its end among them (R171, R172); where the port is left
with at most 3 entries GO is due. On port U every good frame but link control starts the supervision timer
afresh and ends the condition of LINK-LOSS, with all that this does to the heads; that the note of LINK-LOSS
goes ahead of a GO that the same end makes due is log 43. The end of a frame that overran or was passed over
counts nothing, and is not judged (log 13).

R170, R178, R182: the frames of a port are taken in the order of its queue: a command acts when the oldest
whole frame spells it, or when none stands there, and its entry is then freed, with GO where 3 are left; out
of its turn it does nothing (log 2), as in a part held in reset (log 3); short frames before it go first.

R189: a short frame, in its turn (log 4): a request is refused RANGE, a KEY is denied, an EVENT or a SAMPLE is
stray, a PULL-RESULT or PULL-ABORT too, and those of TABLE R175 are forwarded; other frames that name no
command are dropped. A missing byte of a KEY or a request is read as 0 (log 28). -/
def Obligations.GoodFramesArrive : Prop :=
  (∀ (p : Port) (tail : List Bool) (y : Receiving) (payload : List Byte) (s : State),
      let r := s.port p
      let control := y.hdr.kind = 0x7E ∨ y.hdr.kind = 0x7F
      let wrong := p ≠ .u ∧ ¬control ∧ (s.tables.node p).matches y.hdr.src = false
      let whole := r.rx.map fun e => if e.body.isNone then { e with body := some payload } else e
      let freed := r.rx.filter fun e => e.body.isSome
      let counted := y.fate = .overrun ∨ y.fate = .passedOver
      let gone := if p = .u ∧ ¬control ∧ ¬counted then s.conditionGone .linkLoss (.port .u) else s
      let left := if y.fate = .stored then (if wrong then freed else whole)
        else if y.fate = .passing then freed else r.rx
      let goes := r.state = .live ∧ r.hoSent = true ∧ left.length ≤ 3
      r.state ≠ .down → r.state ≠ .quiet → r.receiving = some y →
      (¬counted → judgeTail y.hdr tail = .good payload) →
      ∃ t, exec (.frameEndReceived p tail) s = .next t ∧ (t.port p).receiving = none ∧
        AlarmsAs gone t ∧ Frame [.headA, .headB, .alarms, .term, .ports, .mgmt] s t ∧
        (y.fate ≠ .passing → PortsBut [p] s t) ∧
        (y.fate ≠ .passing ∨ p = .u → t.port p = { gone.port p with
          rx := left
          receiving := none
          control := if goes then r.control ++ [.go] else r.control
          hoSent := if goes then false else r.hoSent
          sleepTimer := (t.port p).sleepTimer
          count := if y.fate = .stored ∧ wrong then
              { r.count with sourceError := min 65535 (r.count.sourceError + 1) }
            else (gone.port p).count }) ∧
        (p = .u → ¬control → ¬counted →
          t.mgmt = { s.mgmt with supTimer :=
            if s.mgmt.supervision = 0 then s.mgmt.supTimer else some s.mgmt.supervision } ∧
          t.alarms = (s.conditionGone .linkLoss (.port .u)).alarms) ∧
        (p ≠ .u ∨ control ∨ counted → t.mgmt = s.mgmt ∧ Frame [.ports] s t) ∧
        (y.fate = .stored → wrong → PortsBut [p] s t ∧ (t.port p).rx = freed ∧
          (t.port p).count =
            { r.count with sourceError := min 65535 (r.count.sourceError + 1) }) ∧
        (y.fate = .stored → ¬wrong → (t.port p).rx = whole ∧
          (p ≠ .u → PortsBut [p] s t ∧ (t.port p).count = r.count)) ∧
        (y.fate = .passing → p = .u → (t.port .u).rx = freed ∧
          ∀ x ∈ downstream,
            let whole : PortRec := { s.port x with tx := (s.port x).tx.map fun e => match e.msg with
              | .arriving h => { e with msg := .forwarded ⟨h.dst, h.src, h.kind, payload⟩ }
              | _ => e }
            NextBegins r.rate whole (t.port x) ∧ t.port x = { whole with
              tx := (t.port x).tx
              sleepTimer := (s.port x).sleepTimer && decide ((t.port x).tx = whole.tx) }) ∧
        (counted → PortsBut [p] s t ∧ (t.port p).rx = r.rx ∧ (t.port p).count = r.count)) ∧
  (∀ (c : Instr) (p : Port) (s : State),
      (frameOf c).map (fun y => y.1) = some p →
      exec c s = exec c (s.settle p) ∧
      ((s.settle p).inTurn p c = false → exec c s = .next (s.settle p)) ∧
      (s.inTurn p c = true → s.settle p = s ∧
        let r := s.port p
        let left := if r.oldest = none then r.rx else dropFirst (fun e => e.body.isSome) r.rx
        let go := r.oldest ≠ none ∧ r.state = .live ∧ r.hoSent = true ∧ left.length ≤ 3
        (s.takeRx p c).port p = { r with
          rx := left
          control := if go then r.control ++ [.go] else r.control
          hoSent := if go then false else r.hoSent
          sleepTimer := if go then false else r.sleepTimer })) ∧
  (∀ (p : Port) (f : Frame) (s : State),
      s.inReset = false → (s.port p).oldest = some f → commandOfFrame strapsAssumed p f = none →
      let l := f.payload
      let rate := s.ports.u.rate
      let forwarded := s.ports.u.enqueue .u rate false (.forwarded f)
      ∃ t, s.settle p = t.settle p ∧
        (t.port p).rx = dropFirst (fun e => e.body.isSome) (s.port p).rx ∧ PortsBut [.u, p] s t ∧
        (p = .ha → Frame [.headA, .ports] s t ∧
          t.headA = { s.headA with stray := min 65535 (s.headA.stray + 1) } ∧
          t.ports.u = if f.kind = 0x11 then forwarded else s.ports.u) ∧
        (p = .hb → Frame [.headB, .ports] s t ∧
          t.headB = { s.headB with stray := min 65535 (s.headB.stray + 1) } ∧
          t.ports.u = if f.kind = 0x11 then forwarded else s.ports.u) ∧
        (p = .ix → Frame [.ports] s t ∧ t.ports.u = forwarded) ∧
        (p = .pt → Frame [.puller, .ports] s t ∧
          t.puller = { s.puller with stray := min 65535 (s.puller.stray + 1) } ∧
          t.ports.u = forwarded) ∧
        (p = .ot → Frame [.term, .ports] s t ∧
          t.term = { s.term with denied := true, changed := t.term.changed } ∧
          t.ports.u = s.ports.u.enqueue .u rate false
            (.keyNote (byteAt l 0) (byteAt l 1) (byteAt l 2) .denied)) ∧
        (p = .u → Frame [.ports] s t ∧ t.ports.u = if f.kind = 0x60 then
            s.ports.u.freeOldest.enqueue .u rate false
              (.controlReply (byteAt l 0) (byteAt l 1) (.refused .range))
          else s.ports.u.freeOldest))

/-- R171: HOLD-OFF holds a port's sending, GO and the hold-off timer release it; the expiry counts
HOLD-EXPIRED. A released LIVE port whose line is free begins its oldest URGENT frame, else its oldest
(R172, R174). HOLD-OFF acts in every port state but DOWN, where no frame can be taken (log 38); the expiry
of a stopped hold-off timer changes nothing (log 6). -/
def Obligations.FlowControlFrames : Prop :=
  ∀ (p : Port) (s : State),
    let r := s.port p
    let flags (l : List TxEntry) := l.map fun e => (e.msg, e.urgent)
    let resumes (q : PortRec) (t : State) : Prop :=
      NextBegins s.ports.u.rate q (t.port p) ∧ flags (t.port p).tx = flags q.tx ∧
      { t.port p with tx := q.tx, sleepTimer := q.sleepTimer } = q
    (s.inTurn p (.holdOff p) = true →
      ∃ t, exec (.holdOff p) s = .next t ∧ Frame [.ports] s t ∧ PortsBut [p] s t ∧
        t.port p = { (s.takeRx p (.holdOff p)).port p with
          hoReceived := if r.state = .down then r.hoReceived else true }) ∧
    (s.inTurn p (.go p) = true →
      ∃ t, exec (.go p) s = .next t ∧ Frame [.ports] s t ∧ PortsBut [p] s t ∧
        if r.hoReceived then resumes { (s.takeRx p (.go p)).port p with hoReceived := false } t
        else t.port p = (s.takeRx p (.go p)).port p) ∧
    (∃ t, exec (.holdOffTimerExpiry p) s = .next t ∧ Frame [.ports] s t ∧ PortsBut [p] s t ∧
      if r.hoReceived then
        resumes { r with
          hoReceived := false
          count := { r.count with holdExpired := min 65535 (r.count.holdExpired + 1) } } t
      else t.port p = r)

/-- R152, R166, R170, R172, R174: a frame has been sent: the begun frame leaves the transmit queue, or
else a link control frame leaves; a sent screen frame leaves the count. On a LIVE port that is not held off
and whose line is then free the next frame begins: the oldest URGENT one, else the oldest; with nothing left
to send or being received the sleep timer starts. -/
def Obligations.SentFramesLeave : Prop :=
  ∀ (p : Port) (s : State),
    PortInv p (s.port p) →
    let r := s.port p
    let flags (l : List TxEntry) := l.map fun e => (e.msg, e.urgent)
    let sent := r.tx.filter fun e => e.begun && !e.isArriving
    let left : PortRec := { r with
      tx := r.tx.filter fun e => !(e.begun && !e.isArriving)
      control := if r.tx.any (fun e => e.begun) then r.control else r.control.drop 1 }
    ∃ t, exec (.frameSent p) s = .next t ∧ Frame [.ports, .term] s t ∧ PortsBut [p] s t ∧
      NextBegins s.ports.u.rate left (t.port p) ∧ flags (t.port p).tx = flags left.tx ∧
      { t.port p with tx := left.tx, sleepTimer := left.sleepTimer } = left ∧
      (r.state = .live → left.tx = [] → left.control = [] → r.receiving = none →
        (t.port p).sleepTimer = true) ∧
      t.term = { s.term with screenQueued :=
        if p = .ot ∧ sent.any (fun e => e.msg.isScreen) = true then s.term.screenQueued - 1
        else s.term.screenQueued }

/-- R175: a frame from a downstream port that no block reads is queued on port U as received, NORMAL;
one whose source does not match its port counts SOURCE-ERROR, unless it stood in the receive queue,
where it was checked (log 34). -/
def Obligations.DownstreamFramesForwarded : Prop :=
  ∀ (p : Port) (f : Frame) (s : State),
    let c : Instr := .downstreamFrameForwarded p f
    p ≠ .u → s.inTurn p c = true →
    let wrong := f.kind ≠ 0x7E ∧ f.kind ≠ 0x7F ∧ (s.tables.node p).matches f.src = false
    ∃ t, exec c s = .next t ∧ Frame [.ports] s t ∧
      if (s.port p).oldest ≠ none ∨ ¬wrong then
        t.ports = ((s.takeRx p c).send .u (.forwarded f)).ports
      else PortsBut [p] s t ∧ t.port p = { (s.takeRx p c).port p with
        count := { (s.port p).count with sourceError := min 65535 ((s.port p).count.sourceError + 1) } }

/-! ## The bond cycle and the quality engine (chapters 2 and 3) -/

/-- R24, TABLE 1: the reason of a BOND-START is that of the first check that fails, in this order, and the
refusal changes nothing but the queues; while a SAFE-STOP alarm is listed some check fails. -/
def Obligations.BondStartChecksInOrder : Prop :=
  ∀ (head : Byte) (strip : W16) (unit wire kind : Byte) (s : State),
    let c : Instr := .bondStart head strip unit wire kind
    let h := (headOf head).getD .a
    let x := s.track.bond.getD ⟨0, 0, 0, [], false, .none, 0, 0⟩
    let r := (x.units[unit.toNat]?).getD ⟨.pending, none, .ballDue, 0, 0, 0, 0⟩
    let k := (bondKindOf kind).getD .ball
    let u := unit.toNat
    let slot := (s.tables.wiresOf x).slot wire.toNat
    let checks : List (Bool × Reason) := [
      (s.mgmt.run, .notRunning),
      ((headOf head).isSome && (s.port h.port).state != .down && (s.head h).state != .offline,
        .portDown),
      ((s.head h).state != .hold, .held),
      ((s.head h).state == .idle, .busy),
      (s.track.inFlight.isNone, .moving),
      (s.track.bond.isSome, .noStrip),
      (x.id == strip.toNat, .strip),
      (s.tables.inWindow x u, .unitRange),
      (r.state != .done && r.state != .reject, .unitClosed),
      (r.state != .claimed (otherHead h), .claimed),
      ((s.head h).claim == none || (s.head h).claim == some u, .otherUnit),
      ((s.head h).pause != some .afterUnit || (s.head h).claim == some u, .held),
      (r.cursor == some wire.toNat, .outOfOrder),
      ((bondKindOf kind).isSome && r.phase == (if k = .ball then .ballDue else .stitchDue), .phase),
      ((s.tables.programOf (if k = .ball then slot.ball else slot.stitch) k).isSome, .table),
      (k != .ball || (s.head h).efo == .passed, .noBall),
      ((s.port h.port).tx.length < 8, .queueFull)]
    let failed := checks.find? fun y => !y.1
    (∀ y ∈ failed, s.inTurn .u c = true → ∃ t, exec c s = .next t ∧ Frame [.ports] s t ∧
      t.ports = ((s.takeRx .u c).send .u (.bondRefused head strip unit wire y.2)).ports) ∧
    (AlarmInv s → HeadsInv s → safeStopStands s.alarms.entries = true → failed.isSome = true)

/-- R26, R27, R49: a BOND-START that passes every check makes the claim, takes the next record number
and the EFO duration of a ball, makes the head ARMED and its engine armed with the limits of the
program and every figure of its context cleared, its ring emptied unless it is FROZEN, and queues BOND-ORDER
with the program's segments and window. -/
def Obligations.BondStartAccepted : Prop :=
  ∀ (h : Head) (k : BondKind) (strip : W16) (unit wire : Byte) (x : Strip) (r : UnitRecord)
      (p : Program) (s : State),
    let head : Byte := if h = .a then 0 else 1
    let c : Instr := .bondStart head strip unit wire (if k = .ball then 0 else 1)
    let u := unit.toNat
    let slot := (s.tables.wiresOf x).slot wire.toNat
    let number := if k = .ball then slot.ball else slot.stitch
    s.mgmt.run = true → (s.port h.port).state ≠ .down →
    (s.head h).state = .idle → s.track.inFlight = none → s.track.bond = some x →
    x.id = strip.toNat → s.tables.inWindow x u = true → x.units[u]? = some r →
    (r.state = .pending ∧ (s.head h).claim = none ∧ (s.head h).pause ≠ some .afterUnit ∨
      r.state = .claimed h ∧ (s.head h).claim = some u) →
    r.cursor = some wire.toNat → r.phase = (if k = .ball then .ballDue else .stitchDue) →
    s.tables.programOf number k = some p → (k = .ball → (s.head h).efo = .passed) →
    (s.port h.port).tx.length < 8 →
    s.inTurn .u c = true → ∃ t, exec c s = .next t ∧
      Frame [headBlock h, engineBlock h, .track, .store, .ports] s t ∧
      t.head h = { s.head h with
        state := .armed
        claim := some u
        bond := some ⟨number, k, s.store.nextRecord, x.id, u, wire.toNat, r.rebond,
          if k = .ball then (s.head h).efoDuration else none⟩
        efo := if k = .ball then .none else (s.head h).efo
        efoDuration := if k = .ball then none else (s.head h).efoDuration } ∧
      t.track = { s.track with bond := some { x with
        units := x.units.set u { r with state := .claimed h } } } ∧
      t.store = { s.store with nextRecord := nextInCycle s.store.nextRecord } ∧
      t.engine h =
        { state := .armed
          limits := some
            { kind := p.kind, window := p.window, eMin := p.eMin, eMax := p.eMax
              dNonstick := p.dNonstick, dMin := p.dMin, dMax := p.dMax, iPeakMax := p.iPeakMax
              strict := p.strict, weakRun := p.weakRun }
          zTouch := 0, expected := 0, n := 0, energy := 0, peak := 0, peakIndex := 0, zMin := 65535
          missing := 0, position := 0, gap := false, long := false
          ring := if (s.engine h).ringState = .frozen then (s.engine h).ring else []
          ringState := if (s.engine h).ringState = .frozen then .frozen else .following
          frozen := (s.engine h).frozen
          capture := (s.engine h).capture } ∧
      t.ports = ((s.takeRx .u c).send h.port
        (.bondOrder k p.force p.us p.window s.store.nextRecord)).ports

/-- R30, R50, R36: TOUCHDOWN in ARMED makes the head IN-BOND and opens the engine's window with its z
and first stamp; in any other state it is stray. It is forwarded.

R36, R37: events in states that have no use for them are stray: the count rises by 1, nothing else
changes, and the event is forwarded.

R36: HEAD-FAULT is raised for the head in every head state, with all that the raise does to the heads and to
a held request (R138, R144), and the event is forwarded.

R40: BOND-ABORT for a head that is ARMED or IN-BOND queues ABORT and makes it ABORTING with its
timer running; in another state, or with a head field that names neither head, nothing happens. -/
def Obligations.HeadEventsAndAborts : Prop :=
  (∀ (h : Head) (e : Envelope) (z : W16) (stamp : Byte) (s : State),
      let c : Instr := .touchdown h e z stamp
      s.inTurn h.port c = true →
        ∃ t, exec c s = .next t ∧ Frame [headBlock h, engineBlock h, .ports] s t ∧
        t.ports = ((s.takeRx h.port c).send .u (.forwarded ⟨e.dst, e.src, 0x11,
          [0, z.extractLsb' 8 8, z.extractLsb' 0 8, stamp] ++ e.extra⟩)).ports ∧
        if (s.head h).state = .armed then
          t.head h = { s.head h with state := .inBond } ∧
          t.engine h = { s.engine h with
            state := .opened, zTouch := z.toNat, expected := stamp.toNat }
        else t.head h = { s.head h with stray := min 65535 ((s.head h).stray + 1) } ∧
          t.engine h = s.engine h) ∧
  (∀ (h : Head) (e : Envelope) (code : Byte) (time : W16) (s : State),
      let strays (c : Instr) (payload : List Byte) : Prop :=
        s.inTurn h.port c = true → ∃ t, exec c s = .next t ∧ Frame [headBlock h, .ports] s t ∧
          t.head h = { s.head h with stray := min 65535 ((s.head h).stray + 1) } ∧
          t.ports = ((s.takeRx h.port c).send .u (.forwarded ⟨e.dst, e.src, 0x11, payload⟩)).ports
      let hi := time.extractLsb' 8 8
      let lo := time.extractLsb' 0 8
      strays (.strayEvent h e code) (code :: e.extra) ∧
      ((s.head h).state.inFlight = false → strays (.lift h e) (1 :: e.extra) ∧
        strays (.aborted h e) (2 :: e.extra)) ∧
      ((s.head h).state ≠ .idle → (s.head h).state ≠ .hold →
        strays (.efoStart h e time) ([3, hi, lo] ++ e.extra)) ∧
      ((s.head h).efo ≠ .timing → strays (.efoEnd h e time) ([4, hi, lo] ++ e.extra))) ∧
  (∀ (h : Head) (e : Envelope) (code : Byte) (s : State),
      let c : Instr := .headFault h e code
      s.inTurn h.port c = true → ∃ t, exec c s = .next t ∧
        Frame [.headA, .headB, .track, .alarms, .term, .ports] s t ∧
        t.alarms = (s.raise .headFault (.head h)).alarms ∧
        (Alarms.find t.alarms.entries .headFault (.head h)).any
          (fun y => y.state = .activeUnacked) = true ∧
        t.headA = (s.raise .headFault (.head h)).headA ∧
        t.headB = (s.raise .headFault (.head h)).headB ∧
        t.track = (s.raise .headFault (.head h)).track ∧ ListTold s t ∧
        t.ports = (((s.takeRx h.port c).raise .headFault (.head h)).send .u
          (.forwarded ⟨e.dst, e.src, 0x11, [5, code] ++ e.extra⟩)).ports) ∧
  (∀ (head : Byte) (h : Head) (s : State),
      let c : Instr := .bondAbort head
      s.inTurn .u c = true → ∃ t, exec c s = .next t ∧
        if headOf head = some h ∧ ((s.head h).state = .armed ∨ (s.head h).state = .inBond) then
          Frame [headBlock h, .ports] s t ∧
          t.head h = { s.head h with state := .aborting, abortTimer := true } ∧
          t.ports = ((s.takeRx .u c).send h.port .abort).ports
        else headOf head = none ∨ headOf head = some h →
          Frame [.ports] s t ∧ t.ports = (s.takeRx .u c).ports)

/-- R31 to R33, R40, R41, R59: LIFT, ABORTED and the expiry of the abort timer close the bond in flight; LIFT
gives the class of the figures, with ABORT-LATE from ABORTING, the others ABORTED; the expiry also raises
HEAD-FAULT and pauses the head. The expiry of a stopped abort timer changes nothing (log 6), nor does one at a
head that is not ABORTING, or that has no bond in flight.

R64, R65, R35: a close by LIFT raises for the head the alarm of its class, SAMPLE-LOSS for NO-DATA or 16
missing samples, WEAK-RUN at the program's limit, and REBOND-LIMIT past the program's rebond limit, with all
that the raises do to the hold reasons, to the other head and to the terminal server; ABORTED raises none, and
leaves the track as it is. The head's ball formation stays as it is. R74, R75: the record takes its place by
its number, and in a full store it replaces the oldest UNPINNED one. R36: LIFT and ABORTED are forwarded to
port U behind what the close queues. -/
def Obligations.ClosesOfABond : Prop :=
  (∀ (h : Head) (e : Envelope) (b : Bond) (s : State),
      HeadInv (s.head h) → (s.head h).bond = some b →
      let f := (s.engine h).figures true
      let failed := f.cls = .nonstick ∨ f.cls = .noData
      let weakLimit := (s.engine h).limits.elim 0 fun l => l.weakRun
      let rebondLimit := (s.tables.program b.program).elim 0 fun p => p.rebond
      let rebonds (x : Strip) : Nat := (x.units[b.unit]?).elim 0 fun r => r.rebond
      let raised : List (Bool × AlarmClass) := [
        (decide (f.cls = .nonstick), if b.kind = .ball then .nonstickBall else .nonstickStitch),
        (decide (f.cls = .overBond), .overBond),
        (decide (f.cls = .noData ∨ 16 ≤ f.missing), .sampleLoss),
        (decide (f.cls = .weak ∧ weakLimit ≤ min 255 ((s.head h).weakRun + 1)), .weakRun),
        (decide failed && s.track.bond.any fun x => rebondLimit < rebonds x + 1, .rebondLimit)]
      let passedOn (c : Instr) (payload : List Byte) (close : State → State) (t : State) : Prop :=
        t.ports = ((close (s.takeRx h.port c)).send .u
          (.forwarded ⟨e.dst, e.src, 0x11, payload ++ e.extra⟩)).ports
      let o := otherHead h
      let told (u t : State) : Prop :=
        t.alarms = u.alarms ∧ t.term = { u.term with changed := t.term.changed } ∧ t.head o = u.head o ∧
        (t.head h).holds = { (u.head h).holds with operator := (t.head h).holds.operator } ∧
        (t.head h).efo = (s.head h).efo ∧ (t.head h).efoStart = (s.head h).efoStart ∧
        (t.head h).efoTimer = (s.head h).efoTimer
      let aborted := (s.engine h).figures false
      let report : Msg := .bondReport b.record h b.unit b.wire b.kind .aborted aborted.energy
        aborted.deformation ⟨aborted.limit, aborted.gap, aborted.long, false, false⟩
      (s.inTurn h.port (.lift h e) = true → ∃ t, exec (.lift h e) s = .next t ∧
        Closed h b f ((s.head h).state == .aborting) false s t ∧
        passedOn (.lift h e) [1] (fun u => u.closeBond h true ((s.head h).state == .aborting) false) t ∧
        told (raised.foldl (fun (u : State) y => if y.1 then u.raise y.2 (.head h) else u) s) t ∧
        (t.head h).pause = (s.head h).pause) ∧
      (s.inTurn h.port (.aborted h e) = true → ∃ t, exec (.aborted h e) s = .next t ∧
        Closed h b aborted false false s t ∧ t.track = s.track ∧ told s t ∧
        passedOn (.aborted h e) [2] (fun u => u.send .u report) t ∧
        (t.head h).holds = (s.head h).holds ∧ (t.head h).claim = (s.head h).claim ∧
        (t.head h).pause = (s.head h).pause) ∧
      (∃ t, exec (.abortTimerExpiry h) s = .next t ∧
        if (s.head h).state = .aborting then
          Closed h b aborted false false s t ∧ (t.head h).pause = some .now ∧
          (t.head h).holds.operator = true ∧ (t.head h).claim = (s.head h).claim ∧
          told (s.raise .headFault (.head h)) t ∧ t.track = (s.raise .headFault (.head h)).track ∧
          t.ports = ((s.send .u report).raise .headFault (.head h)).ports
        else t = s)) ∧
  (∀ (h : Head) (s : State),
      (s.head h).abortTimer = false ∨ (s.head h).state ≠ .aborting ∨
        (HeadInv (s.head h) ∧ (s.head h).bond = none) →
      exec (.abortTimerExpiry h) s = .next s)

/-- R34, R35, R29: at a close by LIFT the unit record moves: GOOD, WEAK and OVER complete their half of
the cursor wire, and the last wire makes the unit DONE; NONSTICK and NO-DATA count a rebond, and past
the program's rebond limit the unit becomes REJECT, with REBOND-LIMIT listed. The claim ends exactly with
DONE or REJECT.

R76, R78: a wire that is complete on a pull-due strip, and that the plan selects, has its final pair pinned;
a REJECT unit has its pins released.

R29, R100: when the claim ends, OPERATOR is added for a pause request AFTER-UNIT, and a held request is
judged again, behind the head's close: it is forwarded with no reason left (refused BUSY where port IX has
no room), else it takes the new reasons. -/
def Obligations.UnitsMoveAtAClose : Prop :=
  ∀ (h : Head) (e : Envelope) (b : Bond) (x : Strip) (r : UnitRecord) (s : State),
    HeadInv (s.head h) → (s.head h).bond = some b →
    s.track.bond = some x → x.units[b.unit]? = some r → r.state = .claimed h →
    (s.head h).claim = some b.unit →
    let f := (s.engine h).figures true
    let next := (s.tables.wiresOf x).wireFrom (b.wire + 1)
    let failed := f.cls = .nonstick ∨ f.cls = .noData
    let limit := (s.tables.program b.program).elim 0 fun p => p.rebond
    let counted : UnitRecord := { r with
      weakCount := if f.cls = .weak then min 65535 (r.weakCount + 1) else r.weakCount
      overCount := if f.cls = .overBond then min 65535 (r.overCount + 1) else r.overCount }
    let after : UnitRecord :=
      if failed then { r with
        rebond := r.rebond + 1
        state := if limit < r.rebond + 1 then .reject else r.state }
      else if b.kind = .ball then { counted with phase := .stitchDue }
      else { counted with
        completed := r.completed + 1, cursor := next, phase := .ballDue, rebond := 0
        state := if next = none then .done else r.state }
    let record := bondRecordOf s.mgmt.time h b f ((s.head h).state == .aborting) false
    let plan := s.tables.plan x.device
    let m := s.tables.wiresOf x
    let selected := b.unit ∈ plan.units ∧ b.wire ∈ plan.wires ∧
      b.unit < s.tables.columnsOf x * s.tables.rowsOf x ∧ b.wire < m.length ∧ (m.slot b.wire).skip = false
    let isFinalBall (y : BondRecord) : Bool := y.strip == b.strip && y.unit == b.unit && y.wire == b.wire &&
      y.kind == .ball && (y.cls == .good || y.cls == .weak || y.cls == .overBond)
    let ends := after.state = .done ∨ after.state = .reject
    let bond : Strip := { x with units := x.units.set b.unit after }
    let reasons (k : IndexKind) : GateReasons := ⟨
      bond.units.zipIdx.any fun y => (k == .transfer || s.tables.inWindow bond y.2) && y.1.state.isClaim,
      k == .transfer && s.track.pull.any fun y => y.pullState == .waiting || y.pullState == .ordered,
      k == .transfer && s.track.exit.isSome && s.track.magOut.state != .ready⟩
    s.inTurn h.port (.lift h e) = true → ∃ t, exec (.lift h e) s = .next t ∧
      t.track.bond = some bond ∧
      (∃ l, RecordWritten s.store.nextRecord record s.store.records l ∧ t.store.records =
        if after.state = .reject then l.map fun y =>
          if y.strip = x.id ∧ y.unit = b.unit then { y with pinned := false } else y
        else if b.kind = .stitch ∧ ¬failed ∧ x.pullDue = true ∧ selected then
          (l.filter isFinalBall).getLast?.elim l fun z => l.map fun y =>
            if y.number = z.number ∨ y.number = b.record then { y with pinned := true } else y
        else l) ∧
      (after.state = .reject → (Alarms.find t.alarms.entries .rebondLimit (.head h)).any
        (fun y => y.state = .activeUnacked) = true) ∧
      (t.head h).pause = (s.head h).pause ∧
      (t.head h).holds.operator =
        ((s.head h).holds.operator || decide (ends ∧ (s.head h).pause = some .afterUnit)) ∧
      (safeStopStands t.alarms.entries = false →
        (¬ends ∨ s.track.held = none → t.track.held = s.track.held ∧ t.track.holdTimer = s.track.holdTimer ∧
          t.track.inFlight = s.track.inFlight) ∧
        (ends → ∀ q ∈ s.track.held,
          if reasons q.kind = ⟨false, false, false⟩ then
            t.track.held = none ∧ t.track.holdTimer = none ∧
            t.track.inFlight = if (s.port .ix).tx.length < 8 then some ⟨q.kind,
                if q.kind = .transfer ∧ s.track.magIn.state = .ready then some s.track.magIn.cursor else none,
                if q.kind = .transfer ∧ s.track.exit.isSome then some s.track.magOut.cursor else none,
                false, false⟩
              else s.track.inFlight
          else t.track.held = some ⟨q.kind, reasons q.kind⟩ ∧ t.track.holdTimer = s.track.holdTimer ∧
            t.track.inFlight = s.track.inFlight)) ∧
      (t.head h).claim = (if after.state = .claimed h then some b.unit else none) ∧
      t.track.entry = s.track.entry ∧ t.track.pull = s.track.pull ∧ t.track.exit = s.track.exit ∧
      (t.head (otherHead h)).claim = (s.head (otherHead h)).claim

/-- R51 to R57, R67: samples of an open window are taken in order: those within the window limit add
their energy, greatest current and lowest height, later ones set LONG; a stamp ahead marks a gap and
counts the missing ones. The peak index moves only to a greater current, and to the first sample of the
greatest one. A frame outside an open window, or stale, and a frame of no or more than six
samples, is stray. -/
def Obligations.SamplesAccumulate : Prop :=
  ∀ (h : Head) (stamp : Byte) (xs : List Triple) (s : State),
    (s.engine h).ring.length ≤ 64 →
    let c : Instr := .sample h stamp xs
    let e := s.engine h
    let d := (stamp.toNat + 256 - e.expected) % 256
    let window := e.limits.elim 0 fun l => l.window
    let k := min xs.length (window - e.n)
    let counted := xs.take k
    let traced := xs.zipIdx.map fun y => TraceEntry.mk (min 65535 (e.position + d + y.2 + 1))
      y.1.v.toInt y.1.i.toInt y.1.z.toNat (decide (window ≤ e.n + y.2))
    s.inTurn h.port c = true →
      ∃ t, exec c s = .next t ∧ Frame [headBlock h, engineBlock h, .ports] s t ∧
      t.ports = (s.takeRx h.port c).ports ∧
      if xs.length = 0 ∨ 6 < xs.length ∨ e.state ≠ .opened ∨ 128 ≤ d then
        t.engine h = e ∧ t.head h = { s.head h with stray := min 65535 ((s.head h).stray +
          if xs.length = 0 ∨ 6 < xs.length then 1 else xs.length) }
      else
        t.head h = s.head h ∧
        let peak := counted.foldl (fun m x => max m x.i.toInt.natAbs) e.peak
        let first := counted.findIdx fun x => x.i.toInt.natAbs == peak
        (peak ≠ e.peak → first < k) ∧
        t.engine h = { e with
          expected := (stamp.toNat + xs.length) % 256
          n := e.n + k
          energy := e.energy + (counted.map fun x => x.v.toInt * x.i.toInt).sum
          peak := peak
          peakIndex := if peak = e.peak then e.peakIndex else e.n + first + 1
          zMin := counted.foldl (fun m x => min m x.z.toNat) e.zMin
          missing := if d = 0 then e.missing else min 255 (e.missing + d)
          position := min 65535 (e.position + d + xs.length)
          gap := e.gap || d != 0
          long := e.long || decide (k < xs.length)
          ring := if e.ringState = .following then
              (e.ring ++ traced).drop (e.ring.length + xs.length - 64)
            else e.ring }

/-- R60: the energy figure is the energy sum divided by 4096, rounded to the nearest integer with halves
to the even one, and clamped to 24 bits; LIMIT is set exactly when the clamp changed it. The bond
record takes the energy, LIMIT and the deformation from the figures.

R61, R62: the deformation, and the class of a close by LIFT as the first row that holds; every
other close has the class ABORTED. -/
def Obligations.FiguresAndClass : Prop :=
  (∀ (e : Engine) (lift late link : Bool) (time : Nat) (h : Head) (b : Bond),
      let f := e.figures lift
      let r := bondRecordOf time h b f late link
      r.energy = f.energy ∧ r.flags.limit = f.limit ∧ r.deformation = f.deformation ∧
      -8388608 ≤ r.energy ∧ r.energy ≤ 8388607 ∧
      ∃ q : Int, 2 * (4096 * q - e.energy) ≤ 4096 ∧ -4096 ≤ 2 * (4096 * q - e.energy) ∧
        (2 * (4096 * q - e.energy) = 4096 ∨ 2 * (4096 * q - e.energy) = -4096 → q % 2 = 0) ∧
        (q < -8388608 → f.energy = -8388608 ∧ f.limit = true) ∧
        (8388607 < q → f.energy = 8388607 ∧ f.limit = true) ∧
        (-8388608 ≤ q → q ≤ 8388607 → f.energy = q ∧ f.limit = false)) ∧
  (∀ (e : Engine) (l : Limits),
      e.limits = some l →
      let f := e.figures true
      let rows : List (Bool × BondClass) := [
        (e.n == 0, .noData),
        (decide (f.deformation < l.dNonstick), .nonstick),
        (f.limit || decide ((l.eMax : Int) < f.energy) || decide (l.iPeakMax < e.peak) ||
          decide (l.dMax < f.deformation), .overBond),
        (decide (f.energy < (l.eMin : Int)) || decide (f.deformation < l.dMin) ||
          (l.strict && (e.gap || e.long)), .weak),
        (true, .good)]
      f.deformation = (if e.zMin < e.zTouch then e.zTouch - e.zMin else 0) ∧
        (rows.find? fun y => y.1).map (fun y => y.2) = some f.cls ∧
        (e.figures false).cls = .aborted)

/-- R37 to R39: EFO-START of an IDLE or held head starts the timing with the program's end timeout or
50 ms; EFO-END in TIMING judges the duration modulo 65536 µs against the window of the ball program,
and ends or raises EFO-FAULT; the expiry in TIMING fails the formation and raises it. The program is the
VALID BALL program of the cursor wire of the claimed unit, or without a claim of the lowest PENDING unit of
the window column; without one no window applies. R36: both events are forwarded to port U, behind the
alarm's note. An expiry while the EFO timer is stopped changes nothing
(log 6). -/
def Obligations.EfoTimingIsJudged : Prop :=
  ∀ (h : Head) (e : Envelope) (time : W16) (s : State),
    let c := s.head h
    let unit : Option UnitRecord := s.track.bond.bind fun x => c.claim.elim
      ((x.units.zipIdx.find? fun y => y.1.state == .pending && s.tables.inWindow x y.2).map fun y => y.1)
      fun u => x.units[u]?
    let program : Option Program := s.track.bond.bind fun x => unit.bind fun r => r.cursor.bind fun w =>
      (s.tables.program ((s.tables.wiresOf x).slot w).ball).filter fun p => p.kind = .ball
    let part : Option EfoPart := program.bind fun p => p.efo
    let d := (time.toNat + 65536 - c.efoStart.getD 0) % 65536
    let passed := part.all fun y => y.tMin ≤ d && d ≤ y.tMax
    let same (t : State) : Prop := (t.head h).claim = c.claim ∧ (t.head h).bond = c.bond ∧
      (t.head h).pause = c.pause ∧ (t.head h).stray = c.stray ∧ (t.head h).last = c.last ∧
      (t.head h).results = c.results ∧ (t.head h).weakRun = c.weakRun ∧
      (t.head h).efoStart = none ∧ (t.head h).efoTimer = none ∧
      Frame [.headA, .headB, .track, .alarms, .term, .ports] s t
    let forwarded (u : State) (code : Byte) : State := u.send .u (.forwarded ⟨e.dst, e.src, 0x11,
      [code, time.extractLsb' 8 8, time.extractLsb' 0 8] ++ e.extra⟩)
    (s.inTurn h.port (.efoStart h e time) = true → ∃ t, exec (.efoStart h e time) s = .next t ∧
      (c.state = .idle ∨ c.state = .hold → Frame [headBlock h, .ports] s t ∧
        t.ports = (forwarded (s.takeRx h.port (.efoStart h e time)) 3).ports ∧
        t.head h = { c with
          efo := .timing
          efoStart := some time.toNat
          efoTimer := some (part.elim 50 fun y => y.timeout) })) ∧
    (s.inTurn h.port (.efoEnd h e time) = true → ∃ t, exec (.efoEnd h e time) s = .next t ∧
      (c.efo = .timing → same t ∧ (t.head h).efoDuration = some d ∧
        (t.head h).efo = (if passed then .passed else .failed) ∧
        (let judged (u : State) : State := if passed then u.conditionGone .efoFault (.head h)
          else u.raise .efoFault (.head h)
         let ended : HeadCtx := { c with
           efo := if passed then .passed else .failed
           efoStart := none, efoTimer := none, efoDuration := some d }
         Like (forwarded (judged ((s.takeRx h.port (.efoEnd h e time)).setHead h ended)) 4) t ∧
         t.alarms = (judged s).alarms ∧
         t.ports = (forwarded (judged (s.takeRx h.port (.efoEnd h e time))) 4).ports))) ∧
    (∃ t, exec (.efoTimerExpiry h) s = .next t ∧
      if c.efoTimer.isSome = true ∧ c.efo = .timing then
        same t ∧ (t.head h).efo = .failed ∧ (t.head h).efoDuration = c.efoDuration ∧
        (let ended : HeadCtx := { c with efo := .failed, efoStart := none, efoTimer := none }
         Like ((s.setHead h ended).raise .efoFault (.head h)) t) ∧
        t.alarms = (s.raise .efoFault (.head h)).alarms
      else Like s t)

/-! ## Track and magazines (chapter 5) -/

/-- R96: the first failed check refuses an INDEX with its reason, and nothing else changes.

R97 to R99, R103: an INDEX that passed R96. STEP is refused EMPTY, END or UNITS-OPEN, TRANSFER
UNITS-OPEN; with SKIP the PENDING units become REJECT and their pins are released; then the request is
held with its blocking reasons, or forwarded to the indexer with its slots and the completion timer, or
refused BUSY when port IX has no room. -/
def Obligations.IndexChecksAndGate : Prop :=
  (∀ (skip : Bool) (s : State),
      let checks : List (Bool × Reason) := [
        (s.mgmt.run, .notRunning), (s.track.known, .unknown),
        (s.alarms.entries.all fun e => e.action != .safeStop, .stopped),
        ((s.port .ix).state != .down, .portDown),
        (s.track.inFlight.isNone && s.track.held.isNone, .busy)]
      let refused (c : Instr) (k : IndexKind) (y : Reason) : Prop :=
        s.inTurn .u c = true → ∃ t, exec c s = .next t ∧ Frame [.ports] s t ∧
          t.ports = ((s.takeRx .u c).send .u (.indexRefused k y)).ports
      ∀ y ∈ checks.find? fun y => !y.1,
        refused (.indexStep skip) .step y.2 ∧ refused (.indexTransfer skip) .transfer y.2) ∧
  (∀ (transfer skip : Bool) (s : State),
      let k : IndexKind := if transfer then .transfer else .step
      let c : Instr := if transfer then .indexTransfer skip else .indexStep skip
      let refused (y : Reason) (t : State) : Prop :=
        Frame [.ports] s t ∧ t.ports = ((s.takeRx .u c).send .u (.indexRefused k y)).ports
      let inReach (x : Strip) (u : Nat) : Bool := transfer || s.tables.inWindow x u
      let isOpen := s.track.bond.any fun x =>
        x.units.zipIdx.any fun y => inReach x y.2 && y.1.state == .pending
      let gone (x : Strip) : List Nat :=
        (x.units.zipIdx.filter fun y => inReach x y.2 && y.1.state == .pending).map fun y => y.2
      let bond := s.track.bond.map fun x => { x with
        units := x.units.zipIdx.map fun y =>
          if (gone x).contains y.2 then { y.1 with state := .reject } else y.1 }
      let records := s.store.records.map fun r =>
        if s.track.bond.any (fun x => r.strip == x.id && (gone x).contains r.unit) then
          { r with pinned := false } else r
      let reasons : GateReasons := ⟨
        s.track.bond.any fun x => x.units.zipIdx.any fun y => inReach x y.2 && y.1.state.isClaim,
        transfer && s.track.pull.any fun x => x.pullState == .waiting || x.pullState == .ordered,
        transfer && s.track.exit.isSome && s.track.magOut.state != .ready⟩
      let inSlot := if transfer ∧ s.track.magIn.state = .ready then some s.track.magIn.cursor else none
      let outSlot := if transfer ∧ s.track.exit.isSome then some s.track.magOut.cursor else none
      s.mgmt.run = true → s.track.known = true →
      safeStopStands s.alarms.entries = false → (s.port .ix).state ≠ .down →
      s.track.inFlight = none → s.track.held = none →
      s.inTurn .u c = true → ∃ t, exec c s = .next t ∧
        if transfer = false ∧ s.track.bond = none then refused .empty t
        else if transfer = false ∧
            s.track.bond.any (fun x => s.tables.columnsOf x ≤ x.window + 1) = true then
          refused .endOfStrip t
        else if isOpen = true ∧ skip = false then refused .unitsOpen t
        else
          Frame [.track, .store, .ports] s t ∧ t.store = { s.store with records := records } ∧
          if reasons ≠ ⟨false, false, false⟩ then
            t.ports = (s.takeRx .u c).ports ∧
            t.track = { s.track with
              bond := bond, held := some ⟨k, reasons⟩, holdTimer := some s.track.holdTimeout }
          else if (s.port .ix).tx.length < 8 then
            t.ports = ((s.takeRx .u c).send .ix (.index k inSlot outSlot)).ports ∧
            t.track = { s.track with
              bond := bond
              inFlight := some ⟨k, inSlot, outSlot, false, false⟩
              doneTimer := some s.track.doneTimeout }
          else t.ports = ((s.takeRx .u c).send .u (.indexRefused k .busy)).ports ∧
            t.track = { s.track with bond := bond })

/-- R104 to R106: an INDEX-DONE with no request in flight changes nothing; one that disagrees is a jam, which
ends the request and raises JAM and then TRACK-UNKNOWN, with all that the raises do to the heads (R109); a
STEP that agrees ends the request and raises the window column. Each is forwarded. A kind byte that is
neither 0 nor 1 is read as a kind that differs from the one in flight, and so as a jam (log 24). -/
def Obligations.IndexDoneIsJudged : Prop :=
  ∀ (e : Envelope) (code i o : Byte) (s : State),
    (s.track.held.isSome = true → s.track.inFlight = none) →
    let stepDone : Instr := .indexDoneStep e code i o
    let transferDone : Instr := .indexDoneTransfer e i o
    let step := s.track.inFlight.any fun q => q.kind == .step
    let slots := s.track.inFlight.any fun q => q.kind == .transfer &&
      (i == 0 || q.inSlot == some i.toNat && !q.inChanged) &&
      (q.outSlot == none && o == 0 || o != 0 && !q.outChanged && o.toNat ≤ s.track.magOut.count &&
        q.outSlot.any fun k => k ≤ o.toNat)
    let fresh := i == 0 || s.track.strips.all fun x =>
      x.id != s.track.loadCount % 1024 * 64 + i.toNat
    let jammed (c : Instr) (payload : List Byte) (t : State) : Prop :=
      t.track.strips = s.track.strips ∧ Frame [.headA, .headB, .track, .alarms, .term, .ports] s t ∧
      Jammed (fun p => p.enqueue .u false (.forwarded ⟨e.dst, e.src, 0x22, payload ++ e.extra⟩))
        (s.takeRx .ix c) t
    let passedOn (c : Instr) (payload : List Byte) (t : State) : Prop :=
      t.ports = ((s.takeRx .ix c).send .u (.forwarded ⟨e.dst, e.src, 0x22, payload ++ e.extra⟩)).ports
    (s.inTurn .ix stepDone = true → ∃ t, exec stepDone s = .next t ∧
      if s.track.inFlight = none then Frame [.ports] s t ∧ passedOn stepDone [code, i, o] t
      else if step = true ∧ code = 0 then
        Frame [.track, .ports] s t ∧ passedOn stepDone [code, i, o] t ∧
        t.track = { s.track with
          inFlight := none
          doneTimer := none
          bond := s.track.bond.map fun x => { x with window := x.window + 1 } }
      else jammed stepDone [code, i, o] t) ∧
    (s.inTurn .ix transferDone = true → ∃ t, exec transferDone s = .next t ∧
      (s.track.inFlight = none → Frame [.ports] s t ∧ passedOn transferDone [1, i, o] t) ∧
      (s.track.inFlight ≠ none → slots = false ∨ fresh = false → jammed transferDone [1, i, o] t) ∧
      (slots = true → fresh = true → t.track.inFlight = none ∧ t.track.doneTimer = none ∧
        t.track.known = s.track.known))

/-- R107, R108, R92, R94, R88, R89: an INDEX-DONE TRANSFER that agrees moves every strip one position:
the strip at EXIT is delivered into the reported slot, the strip that arrives at BOND begins at column
0, and the reported input slot gives a new strip at ENTRY; slots and cursors move on.

R92, R94: a magazine that becomes FULL raises MAG-OUT-FULL, one that becomes EXHAUSTED MAG-IN-EMPTY, with
all that the raises do to the heads; no other alarm changes, but that a pull with no task, which is COMPLETE at once, ends the condition of
PULL-TIMEOUT (R128). R107: the INDEX-DONE is forwarded, and R114: a STRIP-REPORT of the delivered strip
stands in the queue of port U, where it has room for them behind what the alarms may bring. R78: the strip that arrives at EXIT has its pins
released. R118, R119: a pull-due strip that arrives at PULL starts its pull; another leaves the pull
controller as it is. -/
def Obligations.TransfersMoveTheStrips : Prop :=
  ∀ (e : Envelope) (i o : Byte) (q : FlightRequest) (s : State),
    let old := s.track
    old.inFlight = some q → transferMismatch old q (slotOf i) (slotOf o) = false →
    TrackInv s →
    let full := (o.toNat : Nat) + 1 > old.magOut.count
    let drawn := q.inChanged = false ∧ q.inSlot.isSome = true
    let k := q.inSlot.getD 0
    let slots := old.magIn.slots.set (k - 1) (if i = 0 then InSlot.empty else .taken)
    let exhausted := old.magIn.count < k + 1 ∨ slots.getD k .unreached = .stop
    let n := min 4294967295 (old.stripCounter + 1)
    let interval := (s.tables.plan old.inputType).interval
    let notDone (x : Strip) (u : Nat) : Bool := (x.units[u]?).all fun r => r.state != .done
    let released (r : BondRecord) : Bool := old.pull.any (fun x => r.strip == x.id) ||
      old.bond.any fun x => x.pullDue && r.strip == x.id && notDone x r.unit
    let records := s.store.records.map fun r => if released r then { r with pinned := false } else r
    let count (x : Strip) (st : UnitState) : Nat := (x.units.filter fun r => r.state == st).length
    s.inTurn .ix (.indexDoneTransfer e i o) = true →
      ∃ t, exec (.indexDoneTransfer e i o) s = .next t ∧
      t.track.bond = old.entry.map (fun x => { x with window := 0 }) ∧
      t.store = { s.store with records := records } ∧
      (old.bond.all (fun x => !x.pullDue) = true → t.track.pull = old.bond ∧ t.puller = s.puller) ∧
      (∀ x ∈ old.bond, x.pullDue = true → PullBegun x records s.puller s t) ∧
      (let filled := if o ≠ 0 ∧ full then s.raise .magOutFull .track else s
       let drew := if drawn ∧ exhausted then filled.raise .magInEmpty .track else filled
       let begun := old.bond.any (fun x => x.pullDue) = true
       AlarmsAs (if begun ∧ t.puller.current = none then drew.conditionGone .pullTimeout .pullStation
         else drew) t) ∧
      (s.ports.u.state ≠ .down → s.ports.u.tx.length ≤ 3 → ∃ y ∈ t.ports.u.tx,
        y.msg = .forwarded ⟨e.dst, e.src, 0x22, [1, i, o] ++ e.extra⟩) ∧
      (∀ x ∈ old.exit, s.ports.u.state ≠ .down → s.ports.u.tx.length ≤ 3 → ∃ y ∈ t.ports.u.tx,
        y.msg = .stripReport x.id (some o.toNat) (count x .done) (count x .reject)
          (min 65535 (x.units.map fun r => r.weakCount).sum)
          (min 65535 (x.units.map fun r => r.overCount).sum) x.passes x.fails) ∧
      t.track.exit = old.pull ∧
      (if o = 0 then t.track.magOut = old.magOut ∧ t.track.delivered = old.delivered ∧
          t.track.lastDelivered = old.lastDelivered
       else t.track.delivered = min 4294967295 (old.delivered + 1) ∧
        t.track.lastDelivered = old.exit.map (fun x => ⟨x.id, count x .done, count x .reject⟩) ∧
        t.track.magOut = { old.magOut with
          slots := old.magOut.slots.zipIdx.map fun y =>
            if old.magOut.cursor ≤ y.2 + 1 ∧ y.2 < o.toNat then .filled else y.1
          cursor := o.toNat + 1
          state := if full then .full else old.magOut.state }) ∧
      (if drawn then t.track.magIn = { old.magIn with
          slots := slots
          cursor := k + 1
          state := if exhausted then .exhausted else old.magIn.state }
       else t.track.magIn = old.magIn) ∧
      (if drawn ∧ i ≠ 0 then
        t.track.entry = some (s.tables.newStrip (old.loadCount % 1024 * 64 + k) old.inputType 0
          (0 < interval && n % interval == 0)) ∧
        t.track.taken = min 4294967295 (old.taken + 1) ∧ t.track.stripCounter = n
       else t.track.entry = none ∧ t.track.taken = old.taken ∧
        t.track.stripCounter = old.stripCounter) ∧
      t.track.inFlight = none ∧ t.track.doneTimer = none ∧ t.track.held = none ∧
      t.track.known = old.known ∧ t.track.dropped = old.dropped ∧
      t.track.introduced = old.introduced ∧ t.tables = s.tables ∧ t.mgmt = s.mgmt ∧
      t.engineA = s.engineA ∧ t.engineB = s.engineB ∧ t.pending = s.pending

/-- R101, R109, R110: a JAM frame, or the completion timer, jams the track: a request in flight ends, a held
one is refused UNKNOWN, and JAM is raised and then TRACK-UNKNOWN, with all that the raises do to the heads;
claims and strips stay. The hold timer refuses the held request TIMED-OUT and raises INDEX-STALL. A stopped
timer does nothing (log 6). JAM always raises both alarms (R109 as it reads). -/
def Obligations.JamsAndIndexTimers : Prop :=
  ∀ (e : Envelope) (position : Byte) (s : State),
    let jammed (behind : Ports → Ports) (u t : State) : Prop :=
      t.track.strips = s.track.strips ∧ t.track.magIn = s.track.magIn ∧ t.track.magOut = s.track.magOut ∧
      t.headA.claim = s.headA.claim ∧ t.headB.claim = s.headB.claim ∧
      Frame [.headA, .headB, .track, .alarms, .term, .ports] s t ∧ Jammed behind u t
    let c : Instr := .jam e position
    (s.inTurn .ix c = true → ∃ t, exec c s = .next t ∧
      jammed (fun p => p.enqueue .u false (.forwarded ⟨e.dst, e.src, 0x26, position :: e.extra⟩))
        (s.takeRx .ix c) t) ∧
    (∃ t, exec .completionTimerExpiry s = .next t ∧
      if s.track.inFlight.isSome = true ∧ s.track.doneTimer.isSome = true then jammed id s t
      else t = s) ∧
    (∃ t, exec .holdTimerExpiry s = .next t ∧
      if s.track.held.isSome = true ∧ s.track.holdTimer.isSome = true then
        t.track = { s.track with held := none, holdTimer := none } ∧
        t.alarms = (s.raise .indexStall .track).alarms ∧
        t.headA = (s.raise .indexStall .track).headA ∧ t.headB = (s.raise .indexStall .track).headB ∧
        Frame [.headA, .headB, .track, .alarms, .term, .ports] s t ∧ ListTold s t ∧
        ∀ q ∈ s.track.held, t.ports =
          (({ s with track := t.track }.send .u (.indexRefused q.kind .timedOut)).raise .indexStall
            .track).ports
      else t = s)

/-- R91, R94, R100: LOADED makes a magazine READY with all its slots, at most 40, and ends the condition
of MAG-IN-EMPTY or MAG-OUT-FULL, with all that this does to the heads; REMOVED, or LOADED with no slots, makes it ABSENT; a TRANSFER in
flight is marked; MAG-OUT lets the gate judge a held request again. Each is forwarded, behind what the alarm
and the gate queue. The cursor of a removed magazine stays (log 9). -/
def Obligations.MagazinesLoadAndLeave : Prop :=
  ∀ (e : Envelope) (count : Byte) (s : State),
    let n := min count.toNat 40
    let flight (i o : Bool) := s.track.inFlight.map fun q => if q.kind = .transfer then
      { q with inChanged := q.inChanged || i, outChanged := q.outChanged || o } else q
    let goneIn : MagIn := ⟨.absent, 0, List.replicate 40 .unreached, s.track.magIn.cursor⟩
    let goneOut : MagOut := ⟨.absent, 0, List.replicate 40 .free, s.track.magOut.cursor⟩
    let input (c : Instr) (m : MagIn) (loads : Nat) (payload : List Byte) : Prop :=
      s.inTurn .ix c = true → ∃ t, exec c s = .next t ∧
        t.track = { s.track with magIn := m, loadCount := loads, inFlight := flight true false } ∧
        AlarmsAs (if m.state = .ready then s.conditionGone .magInEmpty .track else s) t ∧
        Frame [.headA, .headB, .track, .alarms, .term, .ports] s t ∧
        (m.state = .absent → Frame [.track, .ports] s t) ∧
        t.ports = ((if m.state = .ready then (s.takeRx .ix c).conditionGone .magInEmpty .track
          else s.takeRx .ix c).send .u (.forwarded ⟨e.dst, e.src, 0x24, payload ++ e.extra⟩)).ports
    let output (c : Instr) (m : MagOut) (payload : List Byte) : Prop :=
      s.inTurn .ix c = true →
        ∃ t, exec c s = .next t ∧ t.track.magOut = m ∧ t.track.magIn = s.track.magIn ∧
        t.track.strips = s.track.strips ∧
        AlarmsAs (if m.state = .ready then s.conditionGone .magOutFull .track else s) t ∧
        Frame [.headA, .headB, .track, .alarms, .term, .ports] s t ∧
        let told := if m.state = .ready then (s.takeRx .ix c).conditionGone .magOutFull .track
          else s.takeRx .ix c
        GateJudged
          (fun p => p.enqueue .u false (.forwarded ⟨e.dst, e.src, 0x25, payload ++ e.extra⟩))
          { told with track := { s.track with magOut := m, inFlight := flight false true } } t
    (if count = 0 then input (.magInLoaded e count) goneIn s.track.loadCount [0, count] ∧
        output (.magOutLoaded e count) goneOut [0, count]
     else input (.magInLoaded e count) ⟨.ready, n, List.replicate 40 .unreached, 1⟩
          (min 4294967295 (s.track.loadCount + 1)) [0, count] ∧
        output (.magOutLoaded e count) ⟨.ready, n, List.replicate 40 .free, 1⟩ [0, count]) ∧
    input (.magInRemoved e) goneIn s.track.loadCount [1] ∧
    output (.magOutRemoved e) goneOut [1]

/-- R111: a TRACK-SET is refused with the reason of the first check that fails, in this order, and nothing
else changes; an entry type above 2 fails with step 2 (11 TABLE 21). Where step 4 asks for the columns of an
EXISTING strip that is not on the track, it passes and step 5 refuses (log 21).

R112: an accepted TRACK-SET ends every claim, drops the strips that it does not name, puts the named and the
new strips at their positions with no PENDING claim left, counts them, and makes the track KNOWN with the
conditions of JAM and TRACK-UNKNOWN gone, with all that this does to the heads; it is answered ACCEPTED.

R114: each dropped strip has its STRIP-REPORT in the queue of port U, where it has room. R78: the pins of a
dropped strip, and of one that arrives at EXIT, are released. R132: the pull of a strip that leaves PULL is
discarded; that its orders queued stay as they are, which R132 does not name, is the model's reading (log 26).
R119: an EXISTING strip that arrives at PULL and is pull-due starts its pull; else the pull controller stays
as it is. -/
def Obligations.TrackSetIsJudged : Prop :=
  ∀ (tag : Byte) (b : TrackSetBody) (s : State),
    let c : Instr := .trackSet tag b
    let raw : List PosEntry := [b.entry, b.bond, b.pull, b.exit]
    let news := raw.filter fun y => y.type == 2
    let listed := raw.zipIdx.filter fun y => y.1.type == 1
    let ids : List Nat := (raw.filter fun y => y.type != 0).map fun y => y.id.toNat
    let device (y : PosEntry) : Option DeviceType := s.tables.device y.device.toNat
    let places := [s.track.entry, s.track.bond, s.track.pull, s.track.exit]
    let place (y : PosEntry) : Option Nat := places.findIdx? fun z => z.any fun x => x.id == y.id.toNat
    let strip (y : PosEntry) : Option Strip := s.track.strips.find? fun x => x.id == y.id.toNat
    let columns : Option Nat := if b.bond.type = 1 then (strip b.bond).map s.tables.columnsOf
      else if b.bond.type = 2 then (device b.bond).map fun d => d.columns else some 0
    let stood : List (Nat × Nat) := listed.filterMap fun y => (place y.1).map fun k => (k, y.2)
    let checks : List (Bool × Reason) := [
      (!s.track.known && !s.headA.state.inFlight && !s.headB.state.inFlight, .busy),
      (raw.all fun y => y.type.toNat ≤ 2, .range),
      (news.all fun y => y.device.toNat < 8, .range),
      (news.all fun y => (device y).isSome, .invalid),
      (news.all fun y => (device y).any fun d => y.column.toNat ≤ d.columns, .range),
      (b.window == 0xFF || columns.all fun n => b.window.toNat < n, .range),
      (listed.all fun y => (place y.1).isSome, .inconsistent),
      (decide ids.Nodup, .inconsistent),
      (news.all fun y => (place y).isNone, .inconsistent),
      (stood.all fun y => y.1 ≤ y.2, .inconsistent),
      (decide ((stood.map fun y => y.1).Pairwise fun i j : Nat => i < j), .inconsistent)]
    (∀ y ∈ checks.find? (fun y => !y.1), s.inTurn .u c = true → ∃ t, exec c s = .next t ∧
      Frame [.ports] s t ∧ t.ports = ((s.takeRx .u c).reply 7 tag (.refused y.2)).ports) ∧
    (checks.all (fun y => y.1) = true → PullInv s → AlarmInv s → ClaimInv s → s.inTurn .u c = true →
      let window := if b.window = 0xFF then none else some b.window.toNat
      let drops := s.track.strips.filter fun x => !ids.contains x.id
      let dropped (i : Nat) : Bool := drops.any fun x => x.id == i
      let moved (k : Nat) (y : PosEntry) : Bool := y.type == 1 && (place y).any fun j => j != k
      let discards := s.track.pull.any fun x => (x.pullState == .waiting || x.pullState == .ordered) &&
        !(b.pull.type == 1 && b.pull.id.toNat == x.id)
      let puller := if discards then { s.puller with current := none, timer := none } else s.puller
      let plain (x : Strip) : Strip := { x with
        units := x.units.map fun r => if r.state.isClaim then { r with state := .pending } else r }
      let starts : Option Strip := ((strip b.pull).filter fun x => moved 2 b.pull && x.pullDue).map plain
      let records := s.store.records.map fun r =>
        if dropped r.strip || (moved 3 b.exit && r.strip == b.exit.id.toNat) ||
          starts.any (fun x => r.strip == x.id && (x.units[r.unit]?).all fun y => y.state != .done) then
          { r with pinned := false } else r
      let count (x : Strip) (st : UnitState) : Nat := (x.units.filter fun r => r.state == st).length
      ∃ t, exec c s = .next t ∧ t.track.known = true ∧ t.track.held = s.track.held ∧
        t.track.inFlight = s.track.inFlight ∧
        (∀ h ∈ [Head.a, Head.b], (t.head h).claim = none ∧ (t.head h).pause = (s.head h).pause ∧
          (t.head h).holds.operator = ((s.head h).holds.operator ||
            (s.head h).claim.isSome && (s.head h).pause == some .afterUnit)) ∧
        t.track.magIn = s.track.magIn ∧ t.track.magOut = s.track.magOut ∧
        t.track.strips.map (fun x => x.id) = ids ∧
        (t.track.positions.zip raw).all (fun y => y.1.isSome == (y.2.type != 0)) = true ∧
        (∀ y ∈ (t.track.positions.zip raw).zipIdx, y.1.2.type = 2 → ∀ x ∈ y.1.1,
          x = { s.tables.newStrip y.1.2.id.toNat y.1.2.device.toNat y.1.2.column.toNat false with
            window := if y.2 = 1 then window.getD x.window else x.window } ∧
          (y.2 ≠ 1 ∨ window = none → x =
            s.tables.newStrip y.1.2.id.toNat y.1.2.device.toNat y.1.2.column.toNat false)) ∧
        (∀ y ∈ (t.track.positions.zip raw).zipIdx, y.1.2.type = 1 → ∀ x ∈ y.1.1, ∀ z ∈ strip y.1.2,
          x = { plain z with
            window := if y.2 = 1 then window.getD z.window else z.window
            pullState := if y.2 = 2 ∧ starts.isSome then x.pullState
              else if z.pullState = .waiting ∨ z.pullState = .ordered then
                (if y.2 = 2 then z.pullState else .none)
              else z.pullState }) ∧
        t.store = { s.store with records := records } ∧
        (starts = none → t.puller = puller) ∧
        (∀ x ∈ starts, PullBegun x records puller s t) ∧
        (∀ x ∈ drops, s.ports.u.state ≠ .down → s.ports.u.tx.length ≤ 2 → ∃ y ∈ t.ports.u.tx,
          y.msg = .stripReport x.id none (count x .done) (count x .reject)
            (min 65535 (x.units.map fun r => r.weakCount).sum)
            (min 65535 (x.units.map fun r => r.overCount).sum) x.passes x.fails) ∧
        (s.ports.u.state ≠ .down → s.ports.u.tx.length ≤ 1 → ∃ y ∈ t.ports.u.tx,
          y.msg = .controlReply 7 tag .accepted) ∧
        t.track.introduced = (if news = [] then s.track.introduced
          else min 4294967295 (s.track.introduced + news.length)) ∧
        t.track.dropped = (if drops = [] then s.track.dropped
          else min 4294967295 (s.track.dropped + drops.length)) ∧
        t.track.taken = s.track.taken ∧ t.track.delivered = s.track.delivered ∧
        (let freed (c : HeadCtx) : HeadCtx :=
           if c.claim.isSome = true ∧ c.pause = some .afterUnit then
             { c with
               claim := none
               holds := { c.holds with operator := true }
               state := if c.holds.link then .offline else .hold }
           else { c with claim := none }
         ∃ v, ConditionsOver (fun y => y.cls == .jam || y.cls == .trackUnknown)
             { s with headA := freed s.headA, headB := freed s.headB } v ∧
           AlarmsAs (if starts.isSome = true ∧ t.puller.current = none then
             v.conditionGone .pullTimeout .pullStation else v) t) ∧
        t.tables = s.tables ∧ t.mgmt = s.mgmt ∧ t.engineA = s.engineA ∧ t.engineB = s.engineB ∧
        t.pending = s.pending)

/-! ## Pull testing (chapter 6) -/

/-- R121: the next PULL-ORDER, of up to 8 tasks, is queued while tasks wait and port PT is LIVE with room; the
first one makes the pull ORDERED and starts its timer.

R129, R130: PULL-ABORT of the current pull, PULL-CANCEL, and the pull station timer end the pull: each task
without a result gets a NO-RESULT record (R125) in task order, its pair is unpinned, and the pull is COMPLETE.
That the orders queued of the ended pull stay as they are is the model's reading, since R128 does not name
them (log 26). Only the timer raises an alarm, PULL-TIMEOUT; abort and cancel end its condition. Another
PULL-ABORT is stray, another PULL-CANCEL is refused INCONSISTENT. The expiry of a stopped timer does nothing
(log 6).

R131, R100, R128: each record has its PULL-REPORT, in the order of the records; then the alarm has its note,
and the end releases the index gate, which judges a held request again. A PULL-ABORT is forwarded (ahead of
them, log 23), and a PULL-CANCEL answered ACCEPTED behind them. -/
def Obligations.PullsAreOrderedAndEnd : Prop :=
  (∀ (s : State),
      let rest := s.puller.current.elim [] fun c => c.tasks.drop s.puller.ordersQueued
      let next := rest.take 8
      ∃ t, exec .pullOrderQueued s = .next t ∧
        if (s.pullState = .waiting ∨ s.pullState = .ordered) ∧ next ≠ [] ∧
            (s.port .pt).state = .live ∧ (s.port .pt).tx.length < 8 then
          Frame [.track, .puller, .ports] s t ∧ PortsBut [.pt] s t ∧
          t.ports = (s.send .pt (.pullOrder (s.puller.current.elim 0 fun c => c.strip)
            (next.map fun y => (y.unit, y.wire, y.loop)))).ports ∧
          t.puller = { s.puller with
            ordersQueued := s.puller.ordersQueued + next.length
            timer := if s.pullState = .waiting then some s.puller.timeout else s.puller.timer } ∧
          t.track = { s.track with pull := s.track.pull.map fun x => { x with pullState := .ordered } }
        else Like s t) ∧
  (∀ (e : Envelope) (strip : W16) (tag : Byte) (s : State),
      CurrentInv s →
      let tasks := s.puller.current.elim [] fun p => p.tasks
      let waiting := tasks.filter fun y => y.result.isNone
      let record (n : Nat) (y : Task) : PullRecord := ⟨n, s.mgmt.time, s.puller.current.elim 0 fun p => p.strip,
        y.unit, y.wire, y.loop, none, none, .noResult, y.stitchHead, y.ballRecord, y.stitchRecord⟩
      let written := waiting.foldl (fun (a : List PullRecord × Nat) y =>
        (a.1 ++ [record a.2 y], if a.2 = 4294967295 then 1 else a.2 + 1)) ([], s.puller.nextPull)
      let given (h : Head) : Nat := (waiting.filter fun y => y.stitchHead == h).length
      let ended (t : State) : Prop :=
        t.puller.current = none ∧ t.puller.timer = none ∧ t.pullState = .complete ∧
        t.puller.timeout = s.puller.timeout ∧ t.puller.ordersQueued = s.puller.ordersQueued ∧
        t.puller.stray = s.puller.stray ∧ t.puller.runA = s.puller.runA ∧
        t.puller.runB = s.puller.runB ∧
        t.puller.last = some ⟨.noResult, none, none⟩ ∧
        t.puller.log = (s.puller.log ++ written.1).drop
          (min 256 s.puller.log.length + written.1.length - 256) ∧
        t.puller.nextPull = written.2 ∧
        (∀ h ∈ [Head.a, Head.b], t.puller.stats h = if given h = 0 then s.puller.stats h
          else { s.puller.stats h with
            noResults := min 65535 ((s.puller.stats h).noResults + given h) }) ∧
        t.store = { s.store with records := written.1.foldl (fun l p => l.map fun r =>
          if r.number = p.ballRecord ∨ r.number = p.stitchRecord then
            { r with pinned := false, pullRef := some p.number } else r) s.store.records } ∧
        t.tables = s.tables ∧ t.mgmt = s.mgmt ∧ t.track.strips.map (fun x => (x.id, x.units)) =
          s.track.strips.map (fun x => (x.id, x.units)) ∧
        t.engineA = s.engineA ∧ t.engineB = s.engineB ∧ t.pending = s.pending
      let reported (u : State) : State :=
        { written.1.foldl (fun (v : State) p => v.send .u (.pullReport p.number .noResult none none)) u with
          track := { s.track with pull := s.track.pull.map fun x => { x with pullState := .complete } } }
      let quietly (u : State) (behind : Ports → Ports) (t : State) : Prop :=
        let told := if s.puller.current.any (fun p => p.timedOut) = true then reported u
          else (reported u).conditionGone .pullTimeout .pullStation
        ended t ∧ AlarmsAs told t ∧ GateJudged behind told t
      let abort := (s.takeRx .pt (.pullAbort e strip)).send .u (.forwarded ⟨e.dst, e.src, 0x32,
        [strip.extractLsb' 8 8, strip.extractLsb' 0 8] ++ e.extra⟩)
      (s.inTurn .pt (.pullAbort e strip) = true → ∃ t, exec (.pullAbort e strip) s = .next t ∧
        if s.puller.current.any (fun p => p.strip == strip.toNat) = true ∧ s.pullState = .ordered then
          quietly abort id t
        else Frame [.puller, .ports] s t ∧ t.ports = abort.ports ∧
          t.puller = { s.puller with stray := min 65535 (s.puller.stray + 1) }) ∧
      (s.inTurn .u (.controlPullCancel tag) = true →
         ∃ t, exec (.controlPullCancel tag) s = .next t ∧
        if s.puller.current.isSome then quietly (s.takeRx .u (.controlPullCancel tag))
          (fun p => p.enqueue .u false (.controlReply 3 tag .accepted)) t
        else Frame [.ports] s t ∧ t.ports = ((s.takeRx .u (.controlPullCancel tag)).reply 3 tag
          (.refused .inconsistent)).ports) ∧
      (∃ t, exec .pullStationTimerExpiry s = .next t ∧
        if s.pullState = .ordered then
          ended t ∧ AlarmsAs (s.raise .pullTimeout .pullStation) t ∧
          GateJudged id ((reported s).raise .pullTimeout .pullStation) t
        else t = s))

/-- R122 to R127, R131: a PULL-RESULT is forwarded; one that matches writes the pull record of its task with
its verdict, charges a head, moves the statistics, the strip's counts and the run, unpins the pair, and queues
its PULL-REPORT behind the forwarded frame (log 23) and the note of a PULL-FAIL; after the last result the
pull is COMPLETE, the condition of PULL-TIMEOUT ends, and the index gate judges a held request again (R100,
R128); that the orders queued then stay as they are is the model's reading, since R128 does not name them (log
26). Any other is stray. -/
def Obligations.PullResultsAreJudged : Prop :=
  ∀ (e : Envelope) (strip : W16) (unit wire : Byte) (force : W16) (mode : Byte) (s : State),
    let c : Instr := .pullResult e strip unit wire force mode
    let tasks := s.puller.current.elim [] fun p => p.tasks
    let limit := s.puller.current.elim 0 fun p => p.limit
    let awaited (y : Task) : Bool := y.unit == unit.toNat && y.wire == wire.toNat && y.result.isNone
    let place := tasks.findIdx? awaited
    let lift := mode = 0 ∨ mode = 4
    let f := min force.toNat 1000
    let n := s.puller.nextPull
    let sent := (s.takeRx .pt c).send .u (.forwarded ⟨e.dst, e.src, 0x31, [strip.extractLsb' 8 8,
      strip.extractLsb' 0 8, unit, wire, force.extractLsb' 8 8, force.extractLsb' 0 8, mode] ++ e.extra⟩)
    let matched := s.puller.current.any (fun p => p.strip == strip.toNat) = true ∧
      s.pullState = .ordered ∧ mode.toNat ≤ 4 ∧ place.isSome = true
    s.inTurn .pt c = true → ∃ t, exec c s = .next t ∧
      (¬matched → Frame [.puller, .ports] s t ∧ t.ports = sent.ports ∧
        t.puller = { s.puller with stray := min 65535 (s.puller.stray + 1) }) ∧
      (matched → ∀ k ∈ place, ∀ y ∈ tasks[k]?, ∀ m ∈ pullModeOf mode,
        let l := s.tables.limit y.loop
        let fails := f < (if lift then l.fLift else l.fMin)
        let h := if mode = 0 ∨ mode = 1 then y.ballHead else y.stitchHead
        let verdict : Verdict := if fails then .fail else .pass
        let run := if fails then min 255 (s.puller.run h + 1) else 0
        let was := s.puller.stats h
        let counts := if fails then was.fails < 65535 else was.passes < 65535
        let last := (tasks.set k { y with result := some n }).all fun z => z.result.isSome
        let record : PullRecord := ⟨n, s.mgmt.time, strip.toNat, y.unit, y.wire, y.loop, some f, some m,
          verdict, h, y.ballRecord, y.stitchRecord⟩
        let counted : Track := { s.track with pull := s.track.pull.map fun x => { x with
          passes := if fails then x.passes else min 255 (x.passes + 1)
          fails := if fails then min 255 (x.fails + 1) else x.fails } }
        let judged : State := { sent with track := counted }
        let alarmed := if fails ∧ limit ≤ run then judged.raise .pullFail (.head h) else judged
        let reported := alarmed.send .u (.pullReport n verdict (some f) (some m))
        let complete : State := { reported with track := { reported.track with
          pull := reported.track.pull.map fun x => { x with pullState := .complete } } }
        let told := if s.puller.current.any (fun p => p.timedOut) = true then complete
          else complete.conditionGone .pullTimeout .pullStation
        t.puller.log = (if s.puller.log.length < 256 then s.puller.log else s.puller.log.drop 1) ++
          [record] ∧
        t.puller.nextPull = nextInCycle n ∧ t.puller.last = some ⟨verdict, some f, some m⟩ ∧
        t.puller.run h = run ∧ t.puller.run (otherHead h) = s.puller.run (otherHead h) ∧
        t.puller.stats (otherHead h) = s.puller.stats (otherHead h) ∧
        t.puller.stats h = (if counts then { was with
            passes := if fails then was.passes else was.passes + 1
            fails := if fails then was.fails + 1 else was.fails
            sum := was.sum + f
            minimum := some (was.minimum.elim f fun z => min z f) }
          else was) ∧
        t.puller.stray = s.puller.stray ∧
        t.store = { s.store with records := s.store.records.map fun r =>
          if r.number = y.ballRecord ∨ r.number = y.stitchRecord then
            { r with pinned := false, pullRef := some n } else r } ∧
        (if last then t.puller.current = none ∧ t.puller.timer = none ∧ t.pullState = .complete ∧
          AlarmsAs told t ∧ GateJudged id told t
         else t.puller.current = s.puller.current.map (fun p =>
            { p with tasks := tasks.set k { y with result := some n } }) ∧
          t.puller.timer = s.puller.timer ∧ t.pullState = .ordered ∧
          AlarmsAs alarmed t ∧ t.track = reported.track ∧ t.ports = reported.ports) ∧
        t.puller.timeout = s.puller.timeout ∧ t.puller.ordersQueued = s.puller.ordersQueued ∧
        t.track.pull.map (fun x => (x.id, x.units)) = s.track.pull.map (fun x => (x.id, x.units)) ∧
        t.tables = s.tables ∧ t.mgmt = s.mgmt ∧ t.engineA = s.engineA ∧ t.engineB = s.engineB ∧
        t.pending = s.pending)

/-! ## The operator terminal (chapter 8) -/

/-- R149, R152, R154: a screen frame is queued when port OT has room for it: a SCREEN-CLEAR first, else
the lowest eight changed fields with their values, which leave the set. The refresh timer marks every
field of the page. -/
def Obligations.ScreensAreSent : Prop :=
  ∀ (s : State),
    let u := s.term
    let p := s.ports.ot
    (∃ t, exec .screenFrameQueued s = .next t ∧
      if p.state ≠ .down ∧ u.screenQueued < 2 ∧ p.tx.length < 8 ∧
          (u.clearPending = true ∨ u.changed ≠ []) then
        Frame [.ports, .term] s t ∧ PortsBut [.ot] s t ∧
        (if u.clearPending then
          t.term = { u with clearPending := false, screenQueued := u.screenQueued + 1 } ∧
          t.ports = (s.send .ot (.screenClear u.page)).ports
         else
          t.term = { u with changed := u.changed.drop 8, screenQueued := u.screenQueued + 1 } ∧
          t.ports = (s.send .ot (.screenUpdate u.page
            ((u.changed.take 8).map fun k => (k, fieldValue s u.page k)))).ports)
      else t = s) ∧
    (∃ t, exec .refreshTimerExpiry s = .next t ∧
      t = { s with term := { u with
        changed := List.range (pageSize u.page), refreshTimer := u.refreshPeriod } })

/-- R155, R151, R157: PAGE and the scroll keys, at every level: the page with all its fields and clear
pending, or the scroll position, which marks the fields of the ALARMS page where it moves; each has its KEY-NOTE, DENIED only for a page above 5.

R146, R157, R158: KEY ACK acknowledges the first unacknowledged entry of the list, at level
1 the first that is not PULL-FAIL; it is DENIED below level 1, and when only PULL-FAIL entries
wait; with nothing to acknowledge it is DONE. -/
def Obligations.PageScrollAndAckKeys : Prop :=
  (∀ (page : Byte) (s : State),
      let note (c : Instr) (code x : Byte) (o : KeyOutcome) (term : Terminal) (t : State) : Prop :=
        Frame [.ports, .term] s t ∧
        t.term = { term with denied := o == .denied, changed := t.term.changed } ∧
        t.ports = ((s.takeRx .ot c).send .u (.keyNote code x 0 o)).ports
      (s.inTurn .ot (.keyPage page) = true →
         ∃ t, exec (.keyPage page) s = .next t ∧
        if page.toNat ≤ 5 then
          note (.keyPage page) 0 page .done { s.term with page := page.toNat, clearPending := true } t ∧
          t.term.changed = List.range (pageSize page.toNat)
        else note (.keyPage page) 0 page .denied s.term t) ∧
      (s.inTurn .ot .keyScrollUp = true →
         ∃ t, exec .keyScrollUp s = .next t ∧
        note .keyScrollUp 1 0 .done { s.term with scroll := s.term.scroll - 1 } t ∧
        (s.term.page = 1 → 0 < s.term.scroll → ∀ k < 9, k ∈ t.term.changed)) ∧
      (s.inTurn .ot .keyScrollDown = true →
         ∃ t, exec .keyScrollDown s = .next t ∧
        let down := s.term.scroll + 8 < s.alarms.entries.length
        note .keyScrollDown 2 0 .done
          { s.term with scroll := if down then s.term.scroll + 1 else s.term.scroll } t ∧
        (s.term.page = 1 → down → ∀ k < 9, k ∈ t.term.changed))) ∧
  (∀ (s : State),
      let waits (y : AlarmEntry) : Bool := y.state != .activeAcked
      let first := s.alarms.entries.find? fun y => waits y && (2 ≤ s.term.level || y.cls != .pullFail)
      s.inTurn .ot .keyAck = true → ∃ t, exec .keyAck s = .next t ∧
        if s.term.level < 1 ∨ (first = none ∧ s.alarms.entries.any waits = true) then
          Frame [.ports, .term] s t ∧
          t.term = { s.term with denied := true, changed := t.term.changed } ∧
          t.ports = ((s.takeRx .ot .keyAck).send .u (.keyNote 3 0 0 .denied)).ports
        else
          let u := first.elim s fun y => s.acknowledge y
          Frame [.headA, .headB, .alarms, .term, .ports] s t ∧
          t.alarms = u.alarms ∧ t.headA = u.headA ∧ t.headB = u.headB ∧
          t.term = { u.term with denied := false, changed := t.term.changed } ∧
          t.ports = ((first.elim (s.takeRx .ot .keyAck) fun y =>
            (s.takeRx .ot .keyAck).acknowledge y).send .u (.keyNote 3 0 0 .done)).ports)

/-- R157 to R159: the head keys act as their blocks say at level 1, RELEASE-PULL at level 2; below it, or
with operands that name no head or mode, and for REJECT-UNIT in flight, they are DENIED and change
nothing outside the terminal server; a key of another code is DENIED. Each has its KEY-NOTE.

R160, R44 to R47, R127: the head operations as CONTROL requests: carried out and ACCEPTED; RANGE
where the head or the mode is none; REJECT-UNIT is BUSY in flight. -/
def Obligations.HeadKeysAndControls : Prop :=
  (∀ (x mode code : Byte) (s : State),
      let denied (c : Instr) (k x y : Byte) (t : State) : Prop :=
        Frame [.ports, .term] s t ∧
        t.term = { s.term with denied := true, changed := t.term.changed } ∧
        t.ports = ((s.takeRx .ot c).send .u (.keyNote k x y .denied)).ports
      let acts (c : Instr) (k x y : Byte) (op : State → State) (t : State) : Prop :=
        let u := op (s.takeRx .ot c)
        t.term = { u.term with denied := false, changed := t.term.changed } ∧
        t.ports = (u.send .u (.keyNote k x y .done)).ports ∧ t.headA = u.headA ∧ t.headB = u.headB ∧
        t.alarms = u.alarms ∧ t.track = u.track ∧ t.store = u.store ∧ t.puller = u.puller ∧
        Frame [.headA, .headB, .track, .store, .puller, .alarms, .term, .ports] s t
      let h := (headOf x).getD .a
      (s.inTurn .ot (.keyPause x mode) = true → ∃ t, exec (.keyPause x mode) s = .next t ∧
        if s.term.level < 1 ∨ headOf x = none ∨ 2 < mode.toNat then denied (.keyPause x mode) 4 x mode t
        else acts (.keyPause x mode) 4 x mode
          (fun u => u.pauseHead h ((pauseModeOf mode).getD .now)) t) ∧
      (s.inTurn .ot (.keyResume x) = true → ∃ t, exec (.keyResume x) s = .next t ∧
        if s.term.level < 1 ∨ headOf x = none then denied (.keyResume x) 5 x 0 t
        else acts (.keyResume x) 5 x 0 (fun u => u.resumeHead h) t) ∧
      (s.inTurn .ot (.keyRetry x) = true → ∃ t, exec (.keyRetry x) s = .next t ∧
        if s.term.level < 1 ∨ headOf x = none then denied (.keyRetry x) 6 x 0 t
        else acts (.keyRetry x) 6 x 0 (fun u => u.retryHead h) t) ∧
      (s.inTurn .ot (.keyRejectUnit x) = true → ∃ t, exec (.keyRejectUnit x) s = .next t ∧
        if s.term.level < 1 ∨ headOf x = none ∨ (s.head h).state.inFlight = true then
          denied (.keyRejectUnit x) 7 x 0 t
        else acts (.keyRejectUnit x) 7 x 0 (fun u => u.rejectHeadUnit h) t) ∧
      (s.inTurn .ot (.keyReleasePull x) = true → ∃ t, exec (.keyReleasePull x) s = .next t ∧
        if s.term.level < 2 ∨ headOf x = none then denied (.keyReleasePull x) 8 x 0 t
        else acts (.keyReleasePull x) 8 x 0 (fun u => u.releasePull h) t) ∧
      (s.inTurn .ot (.keyUnknown code) = true →
         ∃ t, exec (.keyUnknown code) s = .next t ∧ denied (.keyUnknown code) code 0 0 t)) ∧
  (∀ (tag x mode : Byte) (s : State),
      let h := (headOf x).getD .a
      let refused (c : Instr) (r : Reason) (t : State) : Prop :=
        Frame [.ports] s t ∧ t.ports = ((s.takeRx .u c).reply 3 tag (.refused r)).ports
      let acts (c : Instr) (op : State → State) (t : State) : Prop :=
        Like ((op (s.takeRx .u c)).reply 3 tag .accepted) t
      (s.inTurn .u (.controlPause tag x mode) = true →
         ∃ t, exec (.controlPause tag x mode) s = .next t ∧
        if headOf x = none ∨ 2 < mode.toNat then refused (.controlPause tag x mode) .range t
        else acts (.controlPause tag x mode) (fun u => u.pauseHead h ((pauseModeOf mode).getD .now)) t) ∧
      (s.inTurn .u (.controlResume tag x) = true → ∃ t, exec (.controlResume tag x) s = .next t ∧
        if headOf x = none then refused (.controlResume tag x) .range t
        else acts (.controlResume tag x) (fun u => u.resumeHead h) t) ∧
      (s.inTurn .u (.controlRetry tag x) = true → ∃ t, exec (.controlRetry tag x) s = .next t ∧
        if headOf x = none then refused (.controlRetry tag x) .range t
        else acts (.controlRetry tag x) (fun u => u.retryHead h) t) ∧
      (s.inTurn .u (.controlRejectUnit tag x) = true →
         ∃ t, exec (.controlRejectUnit tag x) s = .next t ∧
        if headOf x = none then refused (.controlRejectUnit tag x) .range t
        else if (s.head h).state.inFlight then refused (.controlRejectUnit tag x) .busy t
        else acts (.controlRejectUnit tag x) (fun u => u.rejectHeadUnit h) t) ∧
      (s.inTurn .u (.controlReleasePull tag x) = true →
         ∃ t, exec (.controlReleasePull tag x) s = .next t ∧
        if headOf x = none then refused (.controlReleasePull tag x) .range t
        else acts (.controlReleasePull tag x) (fun u => u.releasePull h) t))

/-- R44 to R47, R127: what pause, resume, retry, reject-unit and release-pull do to a head.

R47, R29, R78, R100: a rejected unit is REJECT, its pins are released, and its claim ends: OPERATOR is added
for a pause AFTER-UNIT, and a held request is judged again; then the condition of the head's nonstick alarm
is gone as by RETRY, and the head's state follows. Without a claim RETRY alone is done. -/
def Obligations.OperatorChoices : Prop :=
  ∀ (h : Head) (s : State),
    let c := s.head h
    let flying := c.state.inFlight
    let held : HeadCtx := { c with
      holds := { c.holds with operator := true }
      state := if flying then c.state else if c.holds.link then .offline else .hold }
    let cut := c.state = .armed ∨ c.state = .inBond
    (Frame [headBlock h, .ports] s (s.pauseHead h .now) ∧
      (s.pauseHead h .now).head h = (if cut then { held with
        pause := some .now, state := .aborting, abortTimer := true } else { held with
        pause := some .now }) ∧
      (s.pauseHead h .now).ports = if cut then (s.send h.port .abort).ports else s.ports) ∧
    (Frame [headBlock h] s (s.pauseHead h .afterBond) ∧
      (s.pauseHead h .afterBond).head h = { held with pause := some .afterBond }) ∧
    (Frame [headBlock h] s (s.pauseHead h .afterUnit) ∧
      (s.pauseHead h .afterUnit).head h =
        { (if c.claim = none then held else c) with pause := some .afterUnit }) ∧
    (Frame [headBlock h] s (s.resumeHead h) ∧
      (s.resumeHead h).head h = { c with
        holds := { c.holds with operator := false }
        pause := none
        state := if flying then c.state else if c.holds.link then .offline
          else if c.holds.alarm ∨ c.holds.safeStop then .hold else .idle }) ∧
    (s.retryHead h = if c.last.any (fun y => y.cls = .nonstick ∧ y.kind = .ball) = true then
        s.conditionGone .nonstickBall (.head h)
      else if c.last.any (fun y => y.cls = .nonstick ∧ y.kind = .stitch) = true then
        s.conditionGone .nonstickStitch (.head h)
      else s) ∧
    (let t := s.rejectHeadUnit h
     (c.claim = none → t = s.retryHead h) ∧
     (∀ u ∈ c.claim,
        let ended : HeadCtx := { (if c.pause = some .afterUnit then held else c) with claim := none }
        let ofUnit (r : BondRecord) : Bool := s.track.bond.any fun x => r.strip == x.id && r.unit == u
        let records := s.store.records.map fun r => if ofUnit r then { r with pinned := false } else r
        let v : State := { s.setHead h ended with
          track := { s.track with bond := s.track.bond.map fun x => { x with
            units := x.units.modify u fun r => { r with state := .reject } } }
          store := { s.store with records := records } }
        AlarmsAs (v.retryHead h) t ∧ t.store = v.store ∧
        GateJudged (fun p => ({ s with ports := p } : State).retryHead h |>.ports) v t ∧
        Frame [.headA, .headB, .store, .track, .alarms, .term, .ports] s t) ∧
     (t.head h).claim = none ∧ t.track.bond = (match c.claim with
       | none => s.track.bond
       | some u => s.track.bond.map fun x => { x with
          units := x.units.modify u fun r => { r with state := .reject } }) ∧
     t.alarms = (s.retryHead h).alarms ∧ t.puller = s.puller ∧ t.tables = s.tables ∧
     t.engineA = s.engineA ∧ t.engineB = s.engineB ∧ t.mgmt = s.mgmt) ∧
    s.releasePull h = { s.conditionGone .pullFail (.head h) with
      puller := if h = .a then { s.puller with runA := 0 } else { s.puller with runB := 0 } }

/-! ## Management requests: tables and records (chapters 1, 4, 6, 7, 9, 10) -/

/-- R4 to R7: a program write: its refusals in order, the clamps with CLAMPED, the consistency rule, and
the stored program; ERASE empties the entry. Only the entry changes. -/
def Obligations.ProgramWrites : Prop :=
  ∀ (tag index : Byte) (w : WriteOp ProgramBody) (s : State),
    let c : Instr := .tableWriteProgram tag index w
    let n := index.toNat
    let used := s.mgmt.run && s.track.strips.any fun x =>
      ((s.tables.wiresOf x).slots.take (s.tables.wiresOf x).length).any fun y =>
        !y.skip && (y.ball == n || y.stitch == n)
    let clamp (lo hi : Nat) (v : Nat) : Nat := if v < lo then lo else if hi < v then hi else v
    let segs (count : Byte) (l : List SlotPair) : List Segment :=
      (l.take (min count.toNat 4)).map fun y => ⟨min 2000 y.level.toNat, y.duration.toNat⟩
    let stored (b : ProgramBody) : Program :=
      { kind := if b.kind = 0 then .ball else .stitch
        force := segs b.forceCount b.force
        us := segs b.usCount b.us
        window := clamp 1 16383 b.window.toNat
        eMin := min 8388607 b.eMin.toNat
        eMax := min 8388607 b.eMax.toNat
        dNonstick := b.dNonstick.toNat
        dMin := b.dMin.toNat
        dMax := b.dMax.toNat
        iPeakMax := min 32768 b.iPeakMax.toNat
        efo := if b.efoPresent then some ⟨min 2000 b.tMin.toNat, min 2000 b.tMax.toNat,
          clamp 1 50 b.efoTimeout.toNat⟩ else none
        rebond := min 3 b.rebond.toNat
        weakRun := clamp 1 15 b.weakRun.toNat
        strict := b.strict }
    let consistent (p : Program) : Bool :=
      decide (1 ≤ p.force.length) && decide (1 ≤ p.us.length) && decide (p.eMin ≤ p.eMax) &&
        decide (p.dNonstick ≤ p.dMin) && decide (p.dMin ≤ p.dMax) &&
        (if p.kind = .ball then p.efo.any fun y => y.tMin ≤ y.tMax else p.efo.isNone)
    let writes (r : Reply) (e : Option Program) (t : State) : Prop :=
      Frame [.tables, .ports] s t ∧ t.ports = ((s.takeRx .u c).reply 0 tag r).ports ∧
      t.tables = { s.tables with programs := s.tables.programs.set n e }
    let refused (r : Reason) (t : State) : Prop :=
      Frame [.ports] s t ∧ t.ports = ((s.takeRx .u c).reply 0 tag (.refused r)).ports
    s.inTurn .u c = true → ∃ t, exec c s = .next t ∧
      if 32 ≤ n then refused .range t
      else if used = true then refused .inUse t
      else (w = .erase → writes .accepted none t) ∧
        ∀ b, w = .put b →
          if 1 < b.kind.toNat ∨ consistent (stored b) = false then refused .inconsistent t
          else writes (if stored b = rawProgram b (stored b).kind ∧ b.forceCount.toNat ≤ 4 ∧
            b.usCount.toNat ≤ 4 then .accepted else .clamped) (some (stored b)) t

/-- R9, R10, R12, R14, R15, R17: writes of device types, map lengths and map runs: refusals in order,
clamps with CLAMPED, and the stored entry; nothing else changes. A MAP-ENTRIES ERASE is refused
INCONSISTENT, and IN-USE first on a map in use (the order is the model's choice, log 37). -/
def Obligations.DeviceAndMapWrites : Prop :=
  ∀ (tag index : Byte) (d : WriteOp DeviceBody) (l : WriteOp W16)
      (m : WriteOp (Byte × Byte × List SlotBody)) (s : State),
    let n := index.toNat
    let T := s.tables
    let onTrack := s.track.strips.any fun x => x.device == n
    let mapUsed := s.track.strips.any fun x => (T.device x.device).any fun y => y.map == n
    let answer (c : Instr) (r : Reply) (tables : Tables) (t : State) : Prop :=
      Frame [.tables, .ports] s t ∧ t.ports = ((s.takeRx .u c).reply 0 tag r).ports ∧
      t.tables = tables
    let device (e : Option DeviceType) : Tables := { T with devices := T.devices.set n e }
    let map (e : WireMap) : Tables := { T with maps := T.maps.set n e }
    let cd : Instr := .tableWriteDeviceType tag index d
    let cl : Instr := .tableWriteMapLength tag index l
    let cm : Instr := .tableWriteMapEntries tag index m
    (s.inTurn .u cd = true → ∃ t, exec cd s = .next t ∧
      if 8 ≤ n then answer cd (.refused .range) T t
      else if onTrack = true then answer cd (.refused .inUse) T t
      else (d = .erase →
          if s.mgmt.run = true ∧ s.track.inputType = n then answer cd (.refused .inUse) T t
          else answer cd .accepted (device none) t) ∧
        ∀ b, d = .put b →
          if 7 < b.map.toNat then answer cd (.refused .inconsistent) T t
          else
            let columns := max 1 (min b.columns.toNat 8)
            let rows := max 1 (min b.rows.toNat 4)
            answer cd (if columns = b.columns.toNat ∧ rows = b.rows.toNat then .accepted else .clamped)
              (device (some ⟨columns, rows, b.map.toNat⟩)) t) ∧
    (s.inTurn .u cl = true → ∃ t, exec cl s = .next t ∧
      if 8 ≤ n then answer cl (.refused .range) T t
      else if mapUsed = true then answer cl (.refused .inUse) T t
      else (l = .erase → answer cl .accepted
          (map ⟨0, List.replicate 256 ⟨0, 0, 0, true⟩⟩) t) ∧
        ∀ v, l = .put v → answer cl (if v.toNat ≤ 256 then .accepted else .clamped)
          (map { T.map n with length := min v.toNat 256 }) t) ∧
    (s.inTurn .u cm = true → ∃ t, exec cm s = .next t ∧
      (8 ≤ n → answer cm (.refused .range) T t) ∧
      (n < 8 → m = .erase →
        answer cm (.refused (if mapUsed then .inUse else .inconsistent)) T t) ∧
      ∀ v, m = .put v → n < 8 →
        let first := v.1.toNat
        let count := v.2.1.toNat
        let run := v.2.2.take count
        if count = 0 ∨ 8 < count ∨ 256 < first + count then answer cm (.refused .range) T t
        else if mapUsed = true then answer cm (.refused .inUse) T t
        else if run.any (fun y => 31 < y.ball.toNat || 31 < y.stitch.toNat) = true then
          answer cm (.refused .inconsistent) T t
        else
          let old := (T.map n).slots
          let new := run.map fun y : SlotBody =>
            Slot.mk y.ball.toNat y.stitch.toNat (min 3 y.loop.toNat) y.skip
          answer cm (if run.all (fun y => y.loop.toNat ≤ 3) = true then .accepted else .clamped)
            (map { T.map n with
              slots := old.take first ++ new ++ old.drop (first + run.length) }) t)

/-- R135, TABLE 1: the twenty fault classes by their codes, each with its objects, its default entry and its
minimum action; a code above 19 names no class.

R116, R117, R136, R176, R1: writes of pull plans, pull limits, actions and nodes, and of a table
that does not exist: refusals in order, clamps, minimum actions, and the stored entry. -/
def Obligations.PlanActionAndNodeWrites : Prop :=
  (let heads : List AlarmObject := [.head .a, .head .b]
   let rows : List (AlarmClass × List AlarmObject × ActionEntry × Action) := [
      (.nonstickBall, heads, ⟨5, 6, .holdHead⟩, .note),
      (.nonstickStitch, heads, ⟨5, 5, .holdHead⟩, .note),
      (.weakRun, heads, ⟨4, 4, .holdHead⟩, .note),
      (.overBond, heads, ⟨3, 4, .note⟩, .note),
      (.efoFault, heads, ⟨5, 7, .holdHead⟩, .note),
      (.sampleLoss, heads, ⟨3, 2, .note⟩, .note),
      (.headFault, heads, ⟨6, 6, .holdHead⟩, .note),
      (.pullFail, heads, ⟨6, 3, .holdHead⟩, .note),
      (.rebondLimit, heads, ⟨4, 6, .note⟩, .note),
      (.magInEmpty, [.track], ⟨2, 5, .note⟩, .note),
      (.magOutFull, [.track], ⟨3, 6, .note⟩, .note),
      (.indexStall, [.track], ⟨4, 2, .note⟩, .note),
      (.jam, [.track], ⟨7, 5, .safeStop⟩, .safeStop),
      (.trackUnknown, [.track], ⟨4, 7, .holdBoth⟩, .note),
      (.pullTimeout, [.pullStation], ⟨3, 3, .note⟩, .note),
      (.linkLoss, [.port .u], ⟨7, 7, .safeStop⟩, .safeStop),
      (.linkError, [.port .u, .port .ix, .port .pt, .port .ot], ⟨2, 2, .note⟩, .note),
      (.supplyLow, [.part], ⟨6, 7, .note⟩, .note),
      (.tableInvalid, [.part], ⟨4, 5, .holdBoth⟩, .note),
      (.test, [.part], ⟨1, 0, .note⟩, .note)]
   (∀ x : Byte, classOf x = (rows[x.toNat]?).map fun y => y.1) ∧
   ∀ y ∈ rows, y.1.objects = y.2.1 ∧ y.1.default = y.2.2.1 ∧ y.1.minimum = y.2.2.2) ∧
  (∀ (tag index code : Byte) (p : PlanBody) (l : LimitsBody) (a : ActionBody) (b : NodeBody)
      (erase : Bool) (s : State),
    let n := index.toNat
    let nodes : List NodeEntry := [⟨0x20, 0xFF⟩, ⟨0x30, 0xFF⟩, ⟨0x40, 0xF0⟩, ⟨0x50, 0xFF⟩, ⟨0x60, 0xFF⟩]
    let T := s.tables
    let op {α : Type} (x : α) : WriteOp α := if erase then .erase else .put x
    let answer (c : Instr) (r : Reply) (tables : Tables) (t : State) : Prop :=
      Frame [.tables, .ports] s t ∧ t.ports = ((s.takeRx .u c).reply 0 tag r).ports ∧
      t.tables = tables
    let cp : Instr := .tableWritePullPlan tag index (op p)
    let cl : Instr := .tableWritePullLimits tag index (op l)
    let ca : Instr := .tableWriteAction tag index (op a)
    let cn : Instr := .tableWriteNode tag index (op b)
    let cu : Instr := .tableWriteUnknownTable tag code
    (s.inTurn .u cp = true → ∃ t, exec cp s = .next t ∧
      if 8 ≤ n then answer cp (.refused .range) T t
      else if s.track.strips.any (fun x => x.device == n) = true then answer cp (.refused .inUse) T t
      else if erase then answer cp .accepted { T with plans := T.plans.set n ⟨0, [], [], 3⟩ } t
      else
        let limit := max 1 (min p.limit.toNat 15)
        answer cp (if p.unitCount.toNat ≤ 4 ∧ p.wireCount.toNat ≤ 8 ∧ limit = p.limit.toNat then
            .accepted else .clamped)
          { T with plans := T.plans.set n ⟨p.interval.toNat,
            (p.units.take (min p.unitCount.toNat 4)).map BitVec.toNat,
            (p.wires.take (min p.wireCount.toNat 8)).map BitVec.toNat, limit⟩ } t) ∧
    (s.inTurn .u cl = true → ∃ t, exec cl s = .next t ∧
      let fMin := min 1000 l.fMin.toNat
      let fLift := min 1000 l.fLift.toNat
      if 4 ≤ n then answer cl (.refused .range) T t
      else if erase then answer cl .accepted { T with limits := T.limits.set n ⟨30, 40⟩ } t
      else if fLift < fMin then answer cl (.refused .inconsistent) T t
      else answer cl (if fMin = l.fMin.toNat ∧ fLift = l.fLift.toNat then .accepted else .clamped)
        { T with limits := T.limits.set n ⟨fMin, fLift⟩ } t) ∧
    (s.inTurn .u ca = true → ∃ t, exec ca s = .next t ∧
      (20 ≤ n → answer ca (.refused .range) T t) ∧
      ∀ k ∈ classOf index,
        let put (e : ActionEntry) : Tables := { T with actions := T.actions.set n e }
        if erase then answer ca .accepted (put k.default) t
        else (3 < a.action.toNat → answer ca (.refused .inconsistent) T t) ∧
          ∀ y ∈ actionOf a.action,
            let level := max 1 (min a.level.toNat 7)
            let rank := min 7 a.rank.toNat
            let most := if y.strength < k.minimum.strength then k.minimum else y
            let stored := if most = .holdHead ∧ k.objects ≠ [.head .a, .head .b] then
              Action.holdBoth else most
            answer ca (if level = a.level.toNat ∧ rank = a.rank.toNat ∧ stored = y then .accepted
              else .clamped) (put ⟨level, rank, stored⟩) t) ∧
    (s.inTurn .u cn = true → ∃ t, exec cn s = .next t ∧
      if n = 0 ∨ 5 < n then answer cn (.refused .range) T t
      else
        let q := s.port ((portOf index).getD .u)
        if q.state ≠ .down ∧ q.state ≠ .quiet then answer cn (.refused .inUse) T t
        else if erase then answer cn .accepted
          { T with nodes := T.nodes.set (n - 1) (nodes.getD (n - 1) ⟨0, 0⟩) } t
        else if b.address = 0xFF then answer cn (.refused .inconsistent) T t
        else answer cn .accepted { T with nodes := T.nodes.set (n - 1) ⟨b.address, b.mask⟩ } t) ∧
    (s.inTurn .u cu = true → ∃ t, exec cu s = .next t ∧ answer cu (.refused .unknownTable) T t))

/-- R3, R19, R116, R117, R136, R147, R176, R177, R133, R179: a TABLE-READ answers with the entry, or is
refused RANGE or UNKNOWN-TABLE; it changes nothing but the queue of port U. -/
def Obligations.TableReadsAnswer : Prop :=
  ∀ (tag index first count code : Byte) (s : State),
    let n := index.toNat
    let T := s.tables
    let m := T.map n
    let reads (c : Instr) (k ix : Byte) (ok : Bool) (x : ReadContents) : Prop :=
      s.inTurn .u c = true → ∃ t, exec c s = .next t ∧ Frame [.ports] s t ∧
        t.ports = (if ok then (s.takeRx .u c).readReply tag k ix x
          else (s.takeRx .u c).reply 1 tag (.refused .range)).ports
    let r := s.port ((portOf index).getD .u)
    let runIn := decide (n < 8 ∧ 1 ≤ count.toNat ∧ count.toNat ≤ 8 ∧ first.toNat + count.toNat ≤ 256)
    let head (h : Head) : PullHeadStatus := ⟨s.puller.stats h, (s.puller.stats h).mean, s.puller.run h⟩
    reads (.tableReadProgram tag index) 0 index (n < 32) (.program (T.program n)) ∧
    reads (.tableReadDeviceType tag index) 1 index (n < 8)
      (.device (T.device n) ((T.device n).elim 0 fun d => d.columns * d.rows)) ∧
    reads (.tableReadMapLength tag index) 2 index (n < 8)
      (.mapLength m.length ((m.slots.take m.length).filter fun y => !y.skip).length (T.mapValid m)) ∧
    reads (.tableReadMapEntries tag index first count) 3 index runIn
      (.mapEntries first.toNat ((m.slots.drop first.toNat).take count.toNat)) ∧
    reads (.tableReadSummary tag) 8 0 true (.summary ⟨(T.programs.filter Option.isSome).length,
      (T.devices.filter Option.isSome).length, (T.maps.filter T.mapValid).length,
      ((List.range 8).filter T.usable).length⟩) ∧
    reads (.tableReadPullPlan tag index) 4 index (n < 8) (.pullPlan (T.plan n)) ∧
    reads (.tableReadPullLimits tag index) 5 index (n < 4) (.pullLimits (T.limit n)) ∧
    reads (.tableReadPullStatus tag) 9 0 true (.pullStatus (s.puller.current.map fun p =>
        ⟨p.strip, s.pullState, p.tasks.length, (p.tasks.filter fun y => y.result.isSome).length,
          s.puller.ordersQueued⟩)
      s.puller.log.length s.puller.nextPull (head .a) (head .b) s.puller.stray s.puller.timeout) ∧
    reads (.tableReadAction tag index) 6 index (n < 20)
      (.action (T.actions.getD n ((classOf index).getD .test).default)
        (if n = 12 ∨ n = 15 then .safeStop else .note)) ∧
    reads (.tableReadAlarmList tag index) 10 index (n < 32)
      (.alarmList s.alarms.entries.length s.alarms.safeStop ((s.alarms.entries.drop n).take 4)) ∧
    reads (.tableReadNode tag index) 7 index (0 < n && n < 6)
      (.node (T.node ((portOf index).getD .u))) ∧
    reads (.tableReadPortStatus tag index) 11 index (n < 6)
      (.portStatus r.state r.enabled r.rate
        (((s.takeRx .u (.tableReadPortStatus tag index)).port
          ((portOf index).getD .u)).rx.filter fun y => y.body.isSome).length
        (r.tx.filter fun y => y.urgent).length (r.tx.filter fun y => !y.urgent).length
        ((s.takeRx .u (.tableReadPortStatus tag index)).port ((portOf index).getD .u)).hoSent
        r.hoReceived r.count) ∧
    reads (.tableReadPartStatus tag) 12 0 true (.partStatus s.mgmt.run s.mgmt.time s.mgmt.cause
      s.mgmt.supervision s.mgmt.supTimer s.mgmt.warnHigh s.mgmt.supplyLow s.mgmt.own s.ports.u.rate) ∧
    (s.inTurn .u (.tableReadUnknownTable tag code) = true →
       ∃ t, exec (.tableReadUnknownTable tag code) s = .next t ∧ Frame [.ports] s t ∧
      t.ports = ((s.takeRx .u (.tableReadUnknownTable tag code)).reply 1 tag
        (.refused .unknownTable)).ports)

/-- R81: a RECORD-FETCH that names a store and a count of 1 to 16 becomes the fetch in progress; it is
refused RANGE, or BUSY while another fetch is in progress, or UNKNOWN-TABLE.

R82 to R84, R70, R133: while at most three NORMAL frames stand on port U, the next RECORD-REPLY is
queued: up to two records, each RECORD, GONE or NOT-YET, or up to eight entries of a frozen trace; the
fetch goes on behind it or ends, and the last entries of a trace release it. -/
def Obligations.FetchesAndReplies : Prop :=
  (∀ (tag head store : Byte) (first : W32) (count : Byte) (s : State),
      let starts (c : Instr) (ok : Prop) (f : Fetch) (t : State) : Prop :=
        let inRange := ok ∧ 1 ≤ count.toNat ∧ count.toNat ≤ 16
        Frame [.store, .ports] s t ∧
        (¬inRange → t.store = s.store ∧
          t.ports = ((s.takeRx .u c).reply 2 tag (.refused .range)).ports) ∧
        (inRange → s.store.fetch ≠ none → t.store = s.store ∧
          t.ports = ((s.takeRx .u c).reply 2 tag (.refused .busy)).ports) ∧
        (inRange → s.store.fetch = none → t.store = { s.store with fetch := some f } ∧
          t.ports = (s.takeRx .u c).ports)
      (s.inTurn .u (.recordFetchBond tag first count) = true →
         ∃ t, exec (.recordFetchBond tag first count) s = .next t ∧
        starts (.recordFetchBond tag first count) (first ≠ 0) (.bond tag first.toNat count.toNat) t) ∧
      (s.inTurn .u (.recordFetchPull tag first count) = true →
         ∃ t, exec (.recordFetchPull tag first count) s = .next t ∧
        starts (.recordFetchPull tag first count) (first ≠ 0) (.pull tag first.toNat count.toNat) t) ∧
      (s.inTurn .u (.recordFetchTrace tag head first count) = true →
         ∃ t, exec (.recordFetchTrace tag head first count) s = .next t ∧
        starts (.recordFetchTrace tag head first count) (head.toNat ≤ 1)
          (.trace tag (if head = 0 then .a else .b) first.toNat 0 count.toNat) t) ∧
      (s.inTurn .u (.recordFetchUnknownStore tag store) = true →
         ∃ t, exec (.recordFetchUnknownStore tag store) s = .next t ∧ Frame [.ports] s t ∧
        t.ports = ((s.takeRx .u (.recordFetchUnknownStore tag store)).reply 2 tag
          (.refused .unknownTable)).ports)) ∧
  (∀ (s : State),
      let u := s.ports.u
      let ready := u.state ≠ .down ∧ u.normals ≤ 3 ∧ u.tx.length < 8
      let after (k : Nat) : Nat := if k = 4294967295 then 1 else k + 1
      let numbers (k left : Nat) : List Nat := if left = 0 then [] else if left = 1 then [k] else [k, after k]
      let past (next k : Nat) : Bool :=
        1 ≤ distanceBack next k && distanceBack next k ≤ 2147483647
      let bondItem (k : Nat) : BondItem :=
        match s.store.records.find? fun r => r.number == k with
        | some r => .record r
        | none =>
          if s.headA.bond.any (fun y => y.record == k) || s.headB.bond.any (fun y => y.record == k) then
            .notYet k
          else if past s.store.nextRecord k then .gone k else .notYet k
      let pullItem (k : Nat) : PullItem :=
        match s.puller.log.find? fun r => r.number == k with
        | some r => .record r
        | none => if past s.puller.nextPull k then .gone k else .notYet k
      let sends (m : Msg) (f : Option Fetch) (t : State) : Prop :=
        t.ports = (s.send .u m).ports ∧ t.store = { s.store with fetch := f }
      ∃ t, exec .recordReplyQueued s = .next t ∧
        (s.store.fetch = none ∨ ¬ready → t = s) ∧
        (ready → ∀ f ∈ s.store.fetch,
          (∀ tag k left, f = .bond tag k left → Frame [.store, .ports] s t ∧
            sends (.bondReply tag ((numbers k left).map bondItem))
              (if left ≤ 2 then none else some (.bond tag (after (after k)) (left - 2))) t) ∧
          (∀ tag k left, f = .pull tag k left → Frame [.store, .ports] s t ∧
            sends (.pullReply tag ((numbers k left).map pullItem))
              (if left ≤ 2 then none else some (.pull tag (after (after k)) (left - 2))) t) ∧
          (∀ tag h n place left, f = .trace tag h n place left →
            Frame [engineBlock h, .store, .ports] s t ∧
            let z := s.engine h
            (z.frozen = none → t.engine h = z ∧ sends (.traceReply tag (.notYet n)) none t) ∧
            ∀ y ∈ z.frozen,
              if n ≠ 0 ∧ n ≠ y.record then
                t.engine h = z ∧ sends (.traceReply tag (.gone y.record)) none t
              else
                let m : Msg := .traceReply tag (.entries y place ((y.entries.drop place).take 8))
                if y.entries.length ≤ place + 8 then
                  sends m none t ∧ (z.ringState = .frozen → t.engine h = { z with
                    frozen := none
                    ring := []
                    ringState := if z.state = .disarmed then .following else .released })
                else t.engine h = z ∧ sends m
                  (if left ≤ 1 then none else some (.trace tag h y.record (place + 8) (left - 1))) t)))

/-! ## Management requests: settings and operations -/

/-- R95, R115, R154, R177, R185, R179: the plain settings: each is stored, clamped
where it has a range, and answered ACCEPTED or CLAMPED; a device type that cannot be used is refused.

R156, R178, R179: TERMINAL-LEVEL sets the level or is refused RANGE; a request whose kind or
operation is unknown is refused RANGE; KEEPALIVE changes nothing and has no reply. -/
def Obligations.SettingsLevelsAndPlainRequests : Prop :=
  (∀ (tag x y : Byte) (w : W16) (s : State),
      let answer (c : Instr) (r : Reply) (t : State) : Prop :=
        t.ports = ((s.takeRx .u c).reply 3 tag r).ports
      let n := x.toNat
      (s.inTurn .u (.controlSupervision tag x) = true →
         ∃ t, exec (.controlSupervision tag x) s = .next t ∧ Frame [.mgmt, .ports] s t ∧
        t.mgmt = { s.mgmt with supervision := n, supTimer := none } ∧
        answer (.controlSupervision tag x) .accepted t) ∧
      (s.inTurn .u (.controlInputType tag x) = true →
         ∃ t, exec (.controlInputType tag x) s = .next t ∧ Frame [.track, .ports] s t ∧
        if 7 < n then t.track = s.track ∧ answer (.controlInputType tag x) (.refused .range) t
        else if s.mgmt.run = true ∧ s.tables.usable n = false then
          t.track = s.track ∧ answer (.controlInputType tag x) (.refused .invalid) t
        else t.track = { s.track with
            inputType := n
            stripCounter := if s.track.inputType = n then s.track.stripCounter else 0 } ∧
          answer (.controlInputType tag x) .accepted t) ∧
      (s.inTurn .u (.controlIndexTimers tag x y) = true →
         ∃ t, exec (.controlIndexTimers tag x y) s = .next t ∧ Frame [.track, .ports] s t ∧
        t.track = { s.track with holdTimeout := max 1 n, doneTimeout := max 1 y.toNat } ∧
        answer (.controlIndexTimers tag x y) (if n = 0 ∨ y.toNat = 0 then .clamped else .accepted) t) ∧
      (s.inTurn .u (.controlPullTimer tag x) = true →
         ∃ t, exec (.controlPullTimer tag x) s = .next t ∧ Frame [.puller, .ports] s t ∧
        t.puller = { s.puller with timeout := max 1 n } ∧
        answer (.controlPullTimer tag x) (if n = 0 then .clamped else .accepted) t) ∧
      (s.inTurn .u (.controlScreenRefresh tag x) = true →
         ∃ t, exec (.controlScreenRefresh tag x) s = .next t ∧ Frame [.term, .ports] s t ∧
        Like { s with term := { s.term with refreshPeriod := max 1 (min n 25) }, ports := t.ports } t ∧
        answer (.controlScreenRefresh tag x) (if n = 0 ∨ 25 < n then .clamped else .accepted) t) ∧
      (s.inTurn .u (.controlLinkThreshold tag w) = true →
         ∃ t, exec (.controlLinkThreshold tag w) s = .next t ∧ Frame [.mgmt, .ports] s t ∧
        t.mgmt = { s.mgmt with linkThreshold := max 1 w.toNat } ∧
        answer (.controlLinkThreshold tag w) (if w = 0 then .clamped else .accepted) t)) ∧
  (∀ (tag level kind op : Byte) (s : State),
      let cl : Instr := .terminalLevel tag level
      let cr : Instr := .managementRequestRefused kind tag op
      (s.inTurn .u cl = true → ∃ t, exec cl s = .next t ∧ Frame [.term, .ports] s t ∧
        if 2 < level.toNat then t.ports = ((s.takeRx .u cl).reply 8 tag (.refused .range)).ports ∧
          t.term = { s.term with changed := t.term.changed }
        else t.ports = ((s.takeRx .u cl).reply 8 tag .accepted).ports ∧
          t.term = { s.term with level := level.toNat, changed := t.term.changed } ∧
          (s.term.page = 0 → 8 ∈ t.term.changed)) ∧
      (s.inTurn .u cr = true → ∃ t, exec cr s = .next t ∧ Frame [.ports] s t ∧
        t.ports = ((s.takeRx .u cr).reply kind tag (.refused .range)).ports) ∧
      (s.inTurn .u (.keepalive tag) = true →
         ∃ t, exec (.keepalive tag) s = .next t ∧ Frame [.ports] s t ∧
        t.ports = (s.takeRx .u (.keepalive tag)).ports))

/-- R180, R181, R186: RUN needs a usable table set, else it raises TABLE-INVALID; it ends that condition;
CONFIG is refused BUSY while work stands; the warning level is selected and the supply judged anew, by
the level of the last supply event (log 39).

R93: MAG-STOP sets or clears a stop on an UNREACHED slot of a loaded magazine; a stop set on the next
slot makes the magazine EXHAUSTED and raises MAG-IN-EMPTY. Slot 0 and slots above the count are
refused RANGE (log 22), the ordered slot BUSY, and a slot that was reached INCONSISTENT. -/
def Obligations.RunConfigSupplyLevelAndStops : Prop :=
  (∀ (tag code : Byte) (s : State),
      let answered (r : Reply) (u t : State) : Prop :=
        Like (u.reply 3 tag r) t ∧
        t.alarms = u.alarms ∧ t.headA = u.headA ∧ t.headB = u.headB ∧ t.track = u.track ∧
        t.mgmt = u.mgmt ∧ t.ports = (u.reply 3 tag r).ports ∧
        Frame [.headA, .headB, .track, .alarms, .term, .ports, .mgmt] s t
      let usable := (List.range 8).any s.tables.usable && s.tables.usable s.track.inputType
      let busy := s.headA.claim.isSome || s.headB.claim.isSome || s.track.held.isSome ||
        s.track.inFlight.isSome || s.pullState == .ordered
      let sr := s.takeRx .u (.controlRun tag)
      let sc := s.takeRx .u (.controlConfig tag)
      let ss := s.takeRx .u (.controlSupplyLevel tag code)
      (s.inTurn .u (.controlRun tag) = true → ∃ t, exec (.controlRun tag) s = .next t ∧
        if s.mgmt.run = true ∨ usable = true then
          answered .accepted
            ({ sr with mgmt := { sr.mgmt with run := true } }.conditionGone .tableInvalid .part) t
        else answered (.refused .invalid) (sr.raise .tableInvalid .part) t) ∧
      (s.inTurn .u (.controlConfig tag) = true → ∃ t, exec (.controlConfig tag) s = .next t ∧
        if s.mgmt.run = true ∧ busy = true then answered (.refused .busy) sc t
        else answered .accepted { sc with mgmt := { sc.mgmt with run := false } } t) ∧
      (s.inTurn .u (.controlSupplyLevel tag code) = true →
         ∃ t, exec (.controlSupplyLevel tag code) s = .next t ∧
        if 1 < code.toNat then answered (.refused .range) ss t
        else
          let level := if code = 0 then 3150 else 3050
          let u : State := { ss with mgmt := { ss.mgmt with warnHigh := code == 0 } }
          let low (v : Bool) : State := { u with mgmt := { u.mgmt with supplyLow := v } }
          answered .accepted
            (if s.mgmt.supplyMv < level ∧ s.mgmt.supplyLow = false then (low true).raise .supplyLow .part
             else if level + 40 < s.mgmt.supplyMv ∧ s.mgmt.supplyLow = true then
               (low false).conditionGone .supplyLow .part
             else u) t)) ∧
  (∀ (tag slot : Byte) (set : Bool) (s : State),
      let c : Instr := .controlMagStop tag slot set
      let k := slot.toNat
      let m := s.track.magIn
      let here := m.slots.getD (k - 1) .unreached
      let same (r : Reply) (t : State) : Prop :=
        Frame [.ports] s t ∧ t.ports = ((s.takeRx .u c).reply 3 tag r).ports
      let put (x : InSlot) (st : MagInState) : Track :=
        { s.track with magIn := { m with slots := m.slots.set (k - 1) x, state := st } }
      s.inTurn .u c = true → ∃ t, exec c s = .next t ∧
        if m.state = .absent ∨ k = 0 ∨ m.count < k then same (.refused .range) t
        else if s.track.inFlight.any (fun q => q.inSlot == some k) = true then same (.refused .busy) t
        else if here = .taken ∨ here = .empty then same (.refused .inconsistent) t
        else if (here = .stop ∧ set = true) ∨ (here = .unreached ∧ set = false) then same .accepted t
        else if here = .stop then
          if m.cursor < k then Frame [.track, .ports] s t ∧ t.track = put .unreached m.state ∧
            t.ports = ((s.takeRx .u c).reply 3 tag .accepted).ports
          else same (.refused .inconsistent) t
        else if k = m.cursor ∧ m.state = .ready then
          Like (({ s.takeRx .u c with track := put .stop .exhausted }.raise .magInEmpty .track).reply 3
            tag .accepted) t ∧
          t.track.magIn = (put .stop .exhausted).magIn ∧ t.track.strips = s.track.strips ∧
          t.ports = (((s.takeRx .u c).raise .magInEmpty .track).reply 3 tag .accepted).ports ∧
          t.alarms = (s.raise .magInEmpty .track).alarms ∧
          Frame [.headA, .headB, .track, .alarms, .term, .ports] s t
        else Frame [.track, .ports] s t ∧ t.track = put .stop m.state ∧
          t.ports = ((s.takeRx .u c).reply 3 tag .accepted).ports)

/-- R68, R70, R80, R126, R177: the trace capture and release, and the clearing of results, pull
statistics and port counters, each for what its field names, else refused RANGE. CLEAR-COUNTERS ends the
conditions of LINK-ERROR of the ports that it names (R140), with a note for each entry that this changes, and is then
answered ACCEPTED; what it queues on port U, its reply among it, may count there again as TX-DROP alone. -/
def Obligations.CapturesAndClears : Prop :=
  ∀ (tag x : Byte) (on : Bool) (s : State),
    let answer (c : Instr) (t : State) (r : Reply) : Prop :=
      t.ports = ((s.takeRx .u c).reply 3 tag r).ports
    let h := (headOf x).getD .a
    let e := s.engine h
    let named (y : Head) : Bool := x == 2 || headOf x == some y
    let cleared (y : Head) : HeadCtx := if named y then
      { s.head y with results := ⟨0, 0, 0, 0, 0, 0⟩, stray := 0 } else s.head y
    let stats (y : Head) : PullStats := if named y then ⟨0, 0, 0, 0, none⟩ else s.puller.stats y
    let cc : Instr := .controlClearCounters tag x
    (s.inTurn .u (.controlTraceCapture tag x on) = true →
       ∃ t, exec (.controlTraceCapture tag x on) s = .next t ∧
      if headOf x = none then Frame [.ports] s t ∧
        answer (.controlTraceCapture tag x on) t (.refused .range)
      else Frame [engineBlock h, .ports] s t ∧ t.engine h = { e with capture := on } ∧
        answer (.controlTraceCapture tag x on) t .accepted) ∧
    (s.inTurn .u (.controlTraceRelease tag x) = true →
       ∃ t, exec (.controlTraceRelease tag x) s = .next t ∧
      if headOf x = none then Frame [.ports] s t ∧
        answer (.controlTraceRelease tag x) t (.refused .range)
      else Frame [engineBlock h, .ports] s t ∧ answer (.controlTraceRelease tag x) t .accepted ∧
        t.engine h = if e.ringState = .frozen then { e with
            frozen := none
            ring := []
            ringState := if e.state = .disarmed then .following else .released }
          else e) ∧
    (s.inTurn .u (.controlClearResults tag x) = true →
       ∃ t, exec (.controlClearResults tag x) s = .next t ∧ Frame [.headA, .headB, .ports] s t ∧
      t.headA = cleared .a ∧ t.headB = cleared .b ∧
      answer (.controlClearResults tag x) t (if 2 < x.toNat then .refused .range else .accepted)) ∧
    (s.inTurn .u (.controlClearPullStats tag x) = true →
       ∃ t, exec (.controlClearPullStats tag x) s = .next t ∧ Frame [.puller, .ports] s t ∧
      t.puller = { s.puller with
        statsA := stats .a, statsB := stats .b, stray := if x = 2 then 0 else s.puller.stray } ∧
      answer (.controlClearPullStats tag x) t (if 2 < x.toNat then .refused .range else .accepted)) ∧
    (s.inTurn .u cc = true → ∃ t, exec cc s = .next t ∧
      if 6 < x.toNat then Frame [.ports] s t ∧ answer cc t (.refused .range)
      else
        (∀ p ∈ allPorts, (x = 6 ∨ portOf x = some p) → p ≠ .u → (t.port p).count = Counters.zero) ∧
        (∀ p ∈ allPorts, x ≠ 6 → portOf x ≠ some p → p ≠ .u → t.port p = s.port p) ∧
        (let named := x = 6 ∨ portOf x = some .u
         let u := (s.takeRx .u cc).ports.u
         let start : PortRec := { u with count := if named then Counters.zero else u.count }
         { t.ports.u.count with txDrop := start.count.txDrop } = start.count ∧
         (AlarmInv s → u.state ≠ .down → u.tx.length ≤ 3 → ∃ y ∈ t.ports.u.tx,
            y.msg = .controlReply 3 tag .accepted) ∧
         ((∀ p ∈ allPorts, (x = 6 ∨ portOf x = some p) →
              (Alarms.find s.alarms.entries .linkError (.port p)).all
                (fun y => y.state = .clearedUnacked) = true) →
            t.ports.u = start.enqueue .u u.rate false (.controlReply 3 tag .accepted))) ∧
        (AlarmInv s →
          let ends (y : AlarmEntry) : Bool := y.cls == .linkError &&
            allPorts.any fun p => (x == 6 || portOf x == some p) && y.obj == .port p
          let note (p : Ports) (y : AlarmEntry) : Ports :=
            if s.mgmt.started then p.enqueue .u true (.alarmNote y.cls y.obj y.level
              (if y.state = .activeAcked then .removed else .cleared))
            else p
          let zeroed := allPorts.foldl (fun (q : Ports) p => if x = 6 ∨ portOf x = some p then
            q.update p fun r => { r with count := Counters.zero } else q) (s.takeRx .u cc).ports
          ConditionsOver ends s t ∧
          t.ports = ((s.alarms.entries.filter fun y => ends y && y.state != .clearedUnacked).foldl note
            zeroed).enqueue .u false (.controlReply 3 tag .accepted)) ∧
        Frame [.headA, .headB, .alarms, .term, .ports] s t)

/-- R163, R167, R168: PORT-ENABLE lets a ready port out of DOWN; PORT-DISABLE stands a DOWN or QUIET port
down, cancels for a far-end wake and is BUSY for a port in use, unless forced; PORT-RATE is stored
on a DOWN or QUIET port. A code that names no port is refused RANGE (log 36).

R168, R169, R42: a port that PORT-DISABLE stands down is emptied and counts what it held, the frame being
sent as POISONED (a link control frame that waits with no other frame on the line is taken for it, log 19);
its head is OFFLINE with LINK and a bond in flight closed ABORTED; a request held for port IX ends with
INDEX-REFUSED PORT-DOWN (R102); port OT has no screen frame queued. The request is answered ACCEPTED. -/
def Obligations.PortControls : Prop :=
  ∀ (tag port rate : Byte) (force : Bool) (s : State),
    let x := (portOf port).getD .u
    let r := s.port x
    let ce : Instr := .controlPortEnable tag port
    let cd : Instr := .controlPortDisable tag port force
    let cr : Instr := .controlPortRate tag port rate
    let same (c : Instr) (y : Reply) (t : State) : Prop :=
      Frame [.ports] s t ∧ t.ports = ((s.takeRx .u c).reply 3 tag y).ports
    (s.inTurn .u ce = true → ∃ t, exec ce s = .next t ∧
      if portOf port = none then same ce (.refused .range) t
      else
        let e (p : PortRec) : PortRec := { p with enabled := true }
        Like (((s.takeRx .u ce).updatePort x e).tryLeaveDown x |>.reply 3 tag .accepted) t ∧
        (x ≠ .u → (t.port x).enabled = true) ∧
        (x ≠ .u → r.state = .down → r.lineReady = true →
          (t.port x).state = .quiet ∨ x = .pt ∧ (t.port x).state = .waking .localEnd) ∧
        (x ≠ .u → r.state ≠ .down ∨ r.lineReady = false → t.port x = { r with enabled := true })) ∧
    (s.inTurn .u cd = true → ∃ t, exec cd s = .next t ∧
      if portOf port = none ∨ x = .u then same cd (.refused .range) t
      else if force = false ∧ r.state = .waking .farEnd then same cd .cancelled t
      else if force = false ∧ r.state ≠ .down ∧ r.state ≠ .quiet then same cd (.refused .busy) t
      else
        (s.ports.u.state ≠ .down → s.ports.u.tx.length ≤ 3 → ∃ y ∈ t.ports.u.tx,
          y.msg = .controlReply 3 tag .accepted) ∧
        if r.state = .down then
          Frame [.ports] s t ∧ PortsBut [.u, x] s t ∧ t.port x = { r with enabled := false }
        else
          let sent := if r.tx.any (fun e => e.begun) || !r.control.isEmpty then 1 else 0
          t.port x = { r with
            state := .down, enabled := false, rx := [], receiving := none, tx := [], control := []
            hoSent := false, hoReceived := false, sleepTimer := false, retryTimer := false
            count := { r.count with
              poisoned := min 65535 (r.count.poisoned + sent)
              txDrop := min 65535 (r.count.txDrop + r.waitingTx)
              rxOverrun := min 65535 (r.count.rxOverrun + r.wholeRx) } } ∧
          (∀ h ∈ [Head.a, Head.b], x = h.port → HeadInv (s.head h) → HeadLost h s t) ∧
          (x = .pt → Frame [.ports] s t ∧ PortsBut [.u, .pt] s t) ∧
          (x = .ix → Frame [.ports, .track] s t ∧ PortsBut [.u, .ix] s t ∧
            t.track = (if s.track.held.isSome then { s.track with held := none, holdTimer := none }
              else s.track) ∧
            let p := (s.takeRx .u cd).ports
            t.ports.u = ((s.track.held.elim p fun q => p.enqueue .u false (.indexRefused q.kind
              .portDown)).enqueue .u false (.controlReply 3 tag .accepted)).u) ∧
          (x = .ot → Frame [.ports, .term] s t ∧ t.term.screenQueued = 0)) ∧
    (s.inTurn .u cr = true → ∃ t, exec cr s = .next t ∧
      if portOf port = none ∨ x = .u ∨ 3 < rate.toNat then same cr (.refused .range) t
      else if r.state ≠ .down ∧ r.state ≠ .quiet then same cr (.refused .busy) t
      else Frame [.ports] s t ∧ t.port x = { r with rate := (rateOf rate).getD .r6 } ∧
        t.ports.u = (s.takeRx .u cr).ports.u.enqueue .u s.ports.u.rate false
          (.controlReply 3 tag .accepted) ∧ PortsBut [.u, x] s t)

/-- R146, R138, R179: ALARM-ACK acknowledges the entry of the pair it names, when it is listed, and is
answered ACCEPTED; a pair that is none is refused RANGE. FORCE-TEST raises TEST and is answered ACCEPTED.

R146, R141 to R145, R179: ALARM-ACK ALL acknowledges every entry that waits, in list order, with a note for
each, and is then answered ACCEPTED. No entry waits after it: a CLEARED one is removed, and of the ACTIVE ones
those of a latched class, PULL-TIMEOUT, and a HEAD-FAULT whose head's port is LIVE; the others become
ACTIVE-ACKED. Where an entry was removed the hold reasons of both heads and the safe-stop state follow the
entries that are left; where none was, the heads stay as they are. -/
def Obligations.AlarmRequests : Prop :=
  ∀ (tag cls obj : Byte) (s : State),
    AlarmInv s →
    let ca : Instr := .alarmAck tag cls obj
    let cl : Instr := .alarmAckAll tag
    let cf : Instr := .forceTest tag
    let pairOk := (classOf cls).any fun k => (objectOf obj).any fun o => k.objects.contains o
    let k := (classOf cls).getD .test
    let o := (objectOf obj).getD .part
    let u := s.takeRx .u ca
    let latched : List AlarmClass :=
      [.weakRun, .overBond, .sampleLoss, .rebondLimit, .indexStall, .test, .pullTimeout]
    let ends (y : AlarmEntry) : Prop := y.cls ∈ latched ∨ y.cls = .headFault ∧
      ∃ h ∈ [Head.a, Head.b], y.obj = .head h ∧ (s.port h.port).state = .live
    let entries := s.alarms.entries
    let waiting := entries.filter fun y => y.state ≠ .activeAcked
    let kept := entries.filter fun y => y.state = .activeAcked ∨ y.state = .activeUnacked ∧ ¬ends y
    let told (p : Ports) (y : AlarmEntry) : Ports :=
      if s.mgmt.started then p.enqueue .u true (.alarmNote y.cls y.obj y.level
        (if y.state = .clearedUnacked ∨ ends y then .removed else .acked))
      else p
    (∀ x : Byte, objectOf x = ([.head .a, .head .b, .track, .pullStation, .port .u, .port .ix, .port .pt,
      .port .ot, .part] : List AlarmObject)[x.toNat]?) ∧
    (s.inTurn .u ca = true → ∃ t, exec ca s = .next t ∧
      if pairOk = false then
        Frame [.ports] s t ∧ t.ports = (u.reply 5 tag (.refused .range)).ports
      else
        let v := (Alarms.find entries k o).elim u fun y => u.acknowledge y
        Like (v.reply 5 tag .accepted) t ∧
        t.alarms = v.alarms ∧ t.headA = v.headA ∧ t.headB = v.headB ∧
        t.ports = (v.reply 5 tag .accepted).ports ∧
        (Alarms.find t.alarms.entries k o).all (fun y => y.state = .activeAcked) = true ∧
        Frame [.headA, .headB, .alarms, .term, .ports] s t) ∧
    (s.inTurn .u cl = true → ∃ t, exec cl s = .next t ∧
      t.alarms = { s.alarms with
        entries := kept.map fun y => { y with state := .activeAcked }
        safeStop := kept.any fun y => y.action == .safeStop } ∧
      t.headA = (if kept.length < entries.length then HeldByList s.headA .a kept else s.headA) ∧
      t.headB = (if kept.length < entries.length then HeldByList s.headB .b kept else s.headB) ∧
      t.ports = (waiting.foldl told (s.takeRx .u cl).ports).enqueue .u false
        (.controlReply 5 tag .accepted) ∧
      (if waiting = [] then t.term = { s.term with changed := t.term.changed } else ListTold s t) ∧
      Frame [.headA, .headB, .alarms, .term, .ports] s t) ∧
    (s.inTurn .u cf = true → ∃ t, exec cf s = .next t ∧
      Like (((s.takeRx .u cf).raise .test .part).reply 6 tag .accepted) t ∧
      t.alarms = (s.raise .test .part).alarms ∧ t.headA = (s.raise .test .part).headA ∧
      t.headB = (s.raise .test .part).headB ∧ t.track = (s.raise .test .part).track ∧
      t.ports = (((s.takeRx .u cf).raise .test .part).reply 6 tag .accepted).ports ∧
      Frame [.headA, .headB, .track, .alarms, .term, .ports] s t)
end

