-- ==== Sys2Proof/Laws/State.lean ====
section
/-! SUPPORT. What the plain updates of the state leave: one lemma per field that an update leaves
alone, and the read of what it wrote. With these no proof unfolds a record update. -/

namespace Sys2Proof.Machine

variable (s : State) (x y : Port) (h : Head) (m : Msg)

/-! ## One port -/

@[simp] theorem Ports.get_set_self (ps : Ports) (p : PortRec) : (ps.set x p).get x = p := by
  cases x <;> rfl

@[simp] theorem Ports.get_set_ne (ps : Ports) (p : PortRec) (hne : y ≠ x) :
    (ps.set x p).get y = ps.get y := by
  cases x <;> cases y <;> first | rfl | exact absurd rfl hne

@[simp] theorem Ports.set_get_self (ps : Ports) : ps.set x (ps.get x) = ps := by cases x <;> rfl

@[simp] theorem Ports.set_set (ps : Ports) (p q : PortRec) : (ps.set x p).set x q = ps.set x q := by
  cases x <;> rfl

@[simp] theorem Ports.get_update_self (ps : Ports) (f : PortRec → PortRec) :
    (ps.update x f).get x = f (ps.get x) := Ports.get_set_self x ps _

@[simp] theorem Ports.get_update_ne (ps : Ports) (f : PortRec → PortRec) (hne : y ≠ x) :
    (ps.update x f).get y = ps.get y := Ports.get_set_ne x y ps _ hne

@[simp] theorem State.port_updatePort_self (f : PortRec → PortRec) :
    (s.updatePort x f).port x = f (s.port x) := Ports.get_update_self x s.ports f

@[simp] theorem State.port_updatePort_ne (f : PortRec → PortRec) (hne : y ≠ x) :
    (s.updatePort x f).port y = s.port y := Ports.get_update_ne x y s.ports f hne

@[simp] theorem Ports.get_u (ps : Ports) : ps.get .u = ps.u := rfl
@[simp] theorem Ports.get_ha (ps : Ports) : ps.get .ha = ps.ha := rfl
@[simp] theorem Ports.get_hb (ps : Ports) : ps.get .hb = ps.hb := rfl
@[simp] theorem Ports.get_ix (ps : Ports) : ps.get .ix = ps.ix := rfl
@[simp] theorem Ports.get_pt (ps : Ports) : ps.get .pt = ps.pt := rfl
@[simp] theorem Ports.get_ot (ps : Ports) : ps.get .ot = ps.ot := rfl

/-! ## One head and one engine -/

@[simp] theorem State.head_setHead_self (c : HeadCtx) : (s.setHead h c).head h = c := by cases h <;> rfl

@[simp] theorem State.head_setHead_other (c : HeadCtx) :
    (s.setHead h c).head (otherHead h) = s.head (otherHead h) := by cases h <;> rfl

@[simp] theorem State.head_updateHead_self (f : HeadCtx → HeadCtx) :
    (s.updateHead h f).head h = f (s.head h) := State.head_setHead_self s h _

@[simp] theorem State.head_updateHead_other (f : HeadCtx → HeadCtx) :
    (s.updateHead h f).head (otherHead h) = s.head (otherHead h) := State.head_setHead_other s h _

@[simp] theorem State.engine_setEngine_self (e : Engine) : (s.setEngine h e).engine h = e := by
  cases h <;> rfl

@[simp] theorem State.engine_setEngine_other (e : Engine) :
    (s.setEngine h e).engine (otherHead h) = s.engine (otherHead h) := by cases h <;> rfl

@[simp] theorem State.engine_updateEngine_self (f : Engine → Engine) :
    (s.updateEngine h f).engine h = f (s.engine h) := State.engine_setEngine_self s h _

@[simp] theorem State.engine_updateEngine_other (f : Engine → Engine) :
    (s.updateEngine h f).engine (otherHead h) = s.engine (otherHead h) :=
  State.engine_setEngine_other s h _

@[simp] theorem State.engine_setHead (c : HeadCtx) (k : Head) : (s.setHead h c).engine k = s.engine k := by
  cases h <;> cases k <;> rfl

@[simp] theorem State.head_setEngine (e : Engine) (k : Head) : (s.setEngine h e).head k = s.head k := by
  cases h <;> cases k <;> rfl

@[simp] theorem otherHead_otherHead : otherHead (otherHead h) = h := by cases h <;> rfl

@[simp] theorem otherHead_ne : otherHead h ≠ h := by cases h <;> simp [otherHead]

@[simp] theorem Puller.run_setRun_self (p : Puller) (n : Nat) : (p.setRun h n).run h = n := by
  cases h <;> rfl

@[simp] theorem Puller.run_setRun_other (p : Puller) (n : Nat) :
    (p.setRun h n).run (otherHead h) = p.run (otherHead h) := by cases h <;> rfl

@[simp] theorem Puller.stats_setStats_self (p : Puller) (v : PullStats) :
    (p.setStats h v).stats h = v := by cases h <;> rfl

@[simp] theorem Puller.stats_setStats_other (p : Puller) (v : PullStats) :
    (p.setStats h v).stats (otherHead h) = p.stats (otherHead h) := by cases h <;> rfl

/-! ## What each update leaves alone -/

@[simp] theorem State.updatePort_tables (f : PortRec → PortRec) : (s.updatePort x f).tables = s.tables := rfl
@[simp] theorem State.updatePort_headA (f : PortRec → PortRec) : (s.updatePort x f).headA = s.headA := rfl
@[simp] theorem State.updatePort_headB (f : PortRec → PortRec) : (s.updatePort x f).headB = s.headB := rfl
@[simp] theorem State.updatePort_engineA (f : PortRec → PortRec) : (s.updatePort x f).engineA = s.engineA := rfl
@[simp] theorem State.updatePort_engineB (f : PortRec → PortRec) : (s.updatePort x f).engineB = s.engineB := rfl
@[simp] theorem State.updatePort_store (f : PortRec → PortRec) : (s.updatePort x f).store = s.store := rfl
@[simp] theorem State.updatePort_track (f : PortRec → PortRec) : (s.updatePort x f).track = s.track := rfl
@[simp] theorem State.updatePort_puller (f : PortRec → PortRec) : (s.updatePort x f).puller = s.puller := rfl
@[simp] theorem State.updatePort_alarms (f : PortRec → PortRec) : (s.updatePort x f).alarms = s.alarms := rfl
@[simp] theorem State.updatePort_term (f : PortRec → PortRec) : (s.updatePort x f).term = s.term := rfl
@[simp] theorem State.updatePort_mgmt (f : PortRec → PortRec) : (s.updatePort x f).mgmt = s.mgmt := rfl
@[simp] theorem State.updatePort_pending (f : PortRec → PortRec) : (s.updatePort x f).pending = s.pending := rfl

@[simp] theorem State.send_tables : (s.send x m).tables = s.tables := rfl
@[simp] theorem State.send_headA : (s.send x m).headA = s.headA := rfl
@[simp] theorem State.send_headB : (s.send x m).headB = s.headB := rfl
@[simp] theorem State.send_engineA : (s.send x m).engineA = s.engineA := rfl
@[simp] theorem State.send_engineB : (s.send x m).engineB = s.engineB := rfl
@[simp] theorem State.send_store : (s.send x m).store = s.store := rfl
@[simp] theorem State.send_track : (s.send x m).track = s.track := rfl
@[simp] theorem State.send_puller : (s.send x m).puller = s.puller := rfl
@[simp] theorem State.send_alarms : (s.send x m).alarms = s.alarms := rfl
@[simp] theorem State.send_term : (s.send x m).term = s.term := rfl
@[simp] theorem State.send_mgmt : (s.send x m).mgmt = s.mgmt := rfl
@[simp] theorem State.send_pending : (s.send x m).pending = s.pending := rfl

@[simp] theorem State.reply_tables (k t : Byte) (r : Reply) : (s.reply k t r).tables = s.tables := rfl
@[simp] theorem State.reply_headA (k t : Byte) (r : Reply) : (s.reply k t r).headA = s.headA := rfl
@[simp] theorem State.reply_headB (k t : Byte) (r : Reply) : (s.reply k t r).headB = s.headB := rfl
@[simp] theorem State.reply_engineA (k t : Byte) (r : Reply) : (s.reply k t r).engineA = s.engineA := rfl
@[simp] theorem State.reply_engineB (k t : Byte) (r : Reply) : (s.reply k t r).engineB = s.engineB := rfl
@[simp] theorem State.reply_store (k t : Byte) (r : Reply) : (s.reply k t r).store = s.store := rfl
@[simp] theorem State.reply_track (k t : Byte) (r : Reply) : (s.reply k t r).track = s.track := rfl
@[simp] theorem State.reply_puller (k t : Byte) (r : Reply) : (s.reply k t r).puller = s.puller := rfl
@[simp] theorem State.reply_alarms (k t : Byte) (r : Reply) : (s.reply k t r).alarms = s.alarms := rfl
@[simp] theorem State.reply_term (k t : Byte) (r : Reply) : (s.reply k t r).term = s.term := rfl
@[simp] theorem State.reply_mgmt (k t : Byte) (r : Reply) : (s.reply k t r).mgmt = s.mgmt := rfl
@[simp] theorem State.reply_pending (k t : Byte) (r : Reply) : (s.reply k t r).pending = s.pending := rfl

@[simp] theorem State.readReply_tables (t k i : Byte) (r : ReadContents) : (s.readReply t k i r).tables = s.tables := rfl
@[simp] theorem State.readReply_headA (t k i : Byte) (r : ReadContents) : (s.readReply t k i r).headA = s.headA := rfl
@[simp] theorem State.readReply_headB (t k i : Byte) (r : ReadContents) : (s.readReply t k i r).headB = s.headB := rfl
@[simp] theorem State.readReply_engineA (t k i : Byte) (r : ReadContents) : (s.readReply t k i r).engineA = s.engineA := rfl
@[simp] theorem State.readReply_engineB (t k i : Byte) (r : ReadContents) : (s.readReply t k i r).engineB = s.engineB := rfl
@[simp] theorem State.readReply_store (t k i : Byte) (r : ReadContents) : (s.readReply t k i r).store = s.store := rfl
@[simp] theorem State.readReply_track (t k i : Byte) (r : ReadContents) : (s.readReply t k i r).track = s.track := rfl
@[simp] theorem State.readReply_puller (t k i : Byte) (r : ReadContents) : (s.readReply t k i r).puller = s.puller := rfl
@[simp] theorem State.readReply_alarms (t k i : Byte) (r : ReadContents) : (s.readReply t k i r).alarms = s.alarms := rfl
@[simp] theorem State.readReply_term (t k i : Byte) (r : ReadContents) : (s.readReply t k i r).term = s.term := rfl
@[simp] theorem State.readReply_mgmt (t k i : Byte) (r : ReadContents) : (s.readReply t k i r).mgmt = s.mgmt := rfl
@[simp] theorem State.readReply_pending (t k i : Byte) (r : ReadContents) : (s.readReply t k i r).pending = s.pending := rfl

@[simp] theorem State.takeRx_tables (c : Instr) : (s.takeRx x c).tables = s.tables := rfl
@[simp] theorem State.takeRx_headA (c : Instr) : (s.takeRx x c).headA = s.headA := rfl
@[simp] theorem State.takeRx_headB (c : Instr) : (s.takeRx x c).headB = s.headB := rfl
@[simp] theorem State.takeRx_engineA (c : Instr) : (s.takeRx x c).engineA = s.engineA := rfl
@[simp] theorem State.takeRx_engineB (c : Instr) : (s.takeRx x c).engineB = s.engineB := rfl
@[simp] theorem State.takeRx_store (c : Instr) : (s.takeRx x c).store = s.store := rfl
@[simp] theorem State.takeRx_track (c : Instr) : (s.takeRx x c).track = s.track := rfl
@[simp] theorem State.takeRx_puller (c : Instr) : (s.takeRx x c).puller = s.puller := rfl
@[simp] theorem State.takeRx_alarms (c : Instr) : (s.takeRx x c).alarms = s.alarms := rfl
@[simp] theorem State.takeRx_term (c : Instr) : (s.takeRx x c).term = s.term := rfl
@[simp] theorem State.takeRx_mgmt (c : Instr) : (s.takeRx x c).mgmt = s.mgmt := rfl
@[simp] theorem State.takeRx_pending (c : Instr) : (s.takeRx x c).pending = s.pending := rfl

@[simp] theorem State.setEntries_tables (l : List AlarmEntry) : (s.setEntries l).tables = s.tables := rfl
@[simp] theorem State.setEntries_headA (l : List AlarmEntry) : (s.setEntries l).headA = s.headA := rfl
@[simp] theorem State.setEntries_headB (l : List AlarmEntry) : (s.setEntries l).headB = s.headB := rfl
@[simp] theorem State.setEntries_engineA (l : List AlarmEntry) : (s.setEntries l).engineA = s.engineA := rfl
@[simp] theorem State.setEntries_engineB (l : List AlarmEntry) : (s.setEntries l).engineB = s.engineB := rfl
@[simp] theorem State.setEntries_store (l : List AlarmEntry) : (s.setEntries l).store = s.store := rfl
@[simp] theorem State.setEntries_track (l : List AlarmEntry) : (s.setEntries l).track = s.track := rfl
@[simp] theorem State.setEntries_puller (l : List AlarmEntry) : (s.setEntries l).puller = s.puller := rfl
@[simp] theorem State.setEntries_term (l : List AlarmEntry) : (s.setEntries l).term = s.term := rfl
@[simp] theorem State.setEntries_ports (l : List AlarmEntry) : (s.setEntries l).ports = s.ports := rfl
@[simp] theorem State.setEntries_mgmt (l : List AlarmEntry) : (s.setEntries l).mgmt = s.mgmt := rfl
@[simp] theorem State.setEntries_pending (l : List AlarmEntry) : (s.setEntries l).pending = s.pending := rfl

@[simp] theorem State.listChanged_tables : (s.listChanged).tables = s.tables := rfl
@[simp] theorem State.listChanged_headA : (s.listChanged).headA = s.headA := rfl
@[simp] theorem State.listChanged_headB : (s.listChanged).headB = s.headB := rfl
@[simp] theorem State.listChanged_engineA : (s.listChanged).engineA = s.engineA := rfl
@[simp] theorem State.listChanged_engineB : (s.listChanged).engineB = s.engineB := rfl
@[simp] theorem State.listChanged_store : (s.listChanged).store = s.store := rfl
@[simp] theorem State.listChanged_track : (s.listChanged).track = s.track := rfl
@[simp] theorem State.listChanged_puller : (s.listChanged).puller = s.puller := rfl
@[simp] theorem State.listChanged_alarms : (s.listChanged).alarms = s.alarms := rfl
@[simp] theorem State.listChanged_ports : (s.listChanged).ports = s.ports := rfl
@[simp] theorem State.listChanged_mgmt : (s.listChanged).mgmt = s.mgmt := rfl
@[simp] theorem State.listChanged_pending : (s.listChanged).pending = s.pending := rfl

@[simp] theorem State.judgeHolds_tables : (s.judgeHolds).tables = s.tables := rfl
@[simp] theorem State.judgeHolds_engineA : (s.judgeHolds).engineA = s.engineA := rfl
@[simp] theorem State.judgeHolds_engineB : (s.judgeHolds).engineB = s.engineB := rfl
@[simp] theorem State.judgeHolds_store : (s.judgeHolds).store = s.store := rfl
@[simp] theorem State.judgeHolds_track : (s.judgeHolds).track = s.track := rfl
@[simp] theorem State.judgeHolds_puller : (s.judgeHolds).puller = s.puller := rfl
@[simp] theorem State.judgeHolds_alarms : (s.judgeHolds).alarms = s.alarms := rfl
@[simp] theorem State.judgeHolds_term : (s.judgeHolds).term = s.term := rfl
@[simp] theorem State.judgeHolds_ports : (s.judgeHolds).ports = s.ports := rfl
@[simp] theorem State.judgeHolds_mgmt : (s.judgeHolds).mgmt = s.mgmt := rfl
@[simp] theorem State.judgeHolds_pending : (s.judgeHolds).pending = s.pending := rfl

@[simp] theorem State.releasePins_tables (f : BondRecord → Bool) : (s.releasePins f).tables = s.tables := rfl
@[simp] theorem State.releasePins_headA (f : BondRecord → Bool) : (s.releasePins f).headA = s.headA := rfl
@[simp] theorem State.releasePins_headB (f : BondRecord → Bool) : (s.releasePins f).headB = s.headB := rfl
@[simp] theorem State.releasePins_engineA (f : BondRecord → Bool) : (s.releasePins f).engineA = s.engineA := rfl
@[simp] theorem State.releasePins_engineB (f : BondRecord → Bool) : (s.releasePins f).engineB = s.engineB := rfl
@[simp] theorem State.releasePins_track (f : BondRecord → Bool) : (s.releasePins f).track = s.track := rfl
@[simp] theorem State.releasePins_puller (f : BondRecord → Bool) : (s.releasePins f).puller = s.puller := rfl
@[simp] theorem State.releasePins_alarms (f : BondRecord → Bool) : (s.releasePins f).alarms = s.alarms := rfl
@[simp] theorem State.releasePins_term (f : BondRecord → Bool) : (s.releasePins f).term = s.term := rfl
@[simp] theorem State.releasePins_ports (f : BondRecord → Bool) : (s.releasePins f).ports = s.ports := rfl
@[simp] theorem State.releasePins_mgmt (f : BondRecord → Bool) : (s.releasePins f).mgmt = s.mgmt := rfl
@[simp] theorem State.releasePins_pending (f : BondRecord → Bool) : (s.releasePins f).pending = s.pending := rfl

@[simp] theorem State.holdIndex_tables (k : IndexKind) (r : GateReasons) : (s.holdIndex k r).tables = s.tables := rfl
@[simp] theorem State.holdIndex_headA (k : IndexKind) (r : GateReasons) : (s.holdIndex k r).headA = s.headA := rfl
@[simp] theorem State.holdIndex_headB (k : IndexKind) (r : GateReasons) : (s.holdIndex k r).headB = s.headB := rfl
@[simp] theorem State.holdIndex_engineA (k : IndexKind) (r : GateReasons) : (s.holdIndex k r).engineA = s.engineA := rfl
@[simp] theorem State.holdIndex_engineB (k : IndexKind) (r : GateReasons) : (s.holdIndex k r).engineB = s.engineB := rfl
@[simp] theorem State.holdIndex_store (k : IndexKind) (r : GateReasons) : (s.holdIndex k r).store = s.store := rfl
@[simp] theorem State.holdIndex_puller (k : IndexKind) (r : GateReasons) : (s.holdIndex k r).puller = s.puller := rfl
@[simp] theorem State.holdIndex_alarms (k : IndexKind) (r : GateReasons) : (s.holdIndex k r).alarms = s.alarms := rfl
@[simp] theorem State.holdIndex_term (k : IndexKind) (r : GateReasons) : (s.holdIndex k r).term = s.term := rfl
@[simp] theorem State.holdIndex_ports (k : IndexKind) (r : GateReasons) : (s.holdIndex k r).ports = s.ports := rfl
@[simp] theorem State.holdIndex_mgmt (k : IndexKind) (r : GateReasons) : (s.holdIndex k r).mgmt = s.mgmt := rfl
@[simp] theorem State.holdIndex_pending (k : IndexKind) (r : GateReasons) : (s.holdIndex k r).pending = s.pending := rfl

@[simp] theorem State.updateUnit_tables (u : Nat) (f : UnitRecord → UnitRecord) : (s.updateUnit u f).tables = s.tables := rfl
@[simp] theorem State.updateUnit_headA (u : Nat) (f : UnitRecord → UnitRecord) : (s.updateUnit u f).headA = s.headA := rfl
@[simp] theorem State.updateUnit_headB (u : Nat) (f : UnitRecord → UnitRecord) : (s.updateUnit u f).headB = s.headB := rfl
@[simp] theorem State.updateUnit_engineA (u : Nat) (f : UnitRecord → UnitRecord) : (s.updateUnit u f).engineA = s.engineA := rfl
@[simp] theorem State.updateUnit_engineB (u : Nat) (f : UnitRecord → UnitRecord) : (s.updateUnit u f).engineB = s.engineB := rfl
@[simp] theorem State.updateUnit_store (u : Nat) (f : UnitRecord → UnitRecord) : (s.updateUnit u f).store = s.store := rfl
@[simp] theorem State.updateUnit_puller (u : Nat) (f : UnitRecord → UnitRecord) : (s.updateUnit u f).puller = s.puller := rfl
@[simp] theorem State.updateUnit_alarms (u : Nat) (f : UnitRecord → UnitRecord) : (s.updateUnit u f).alarms = s.alarms := rfl
@[simp] theorem State.updateUnit_term (u : Nat) (f : UnitRecord → UnitRecord) : (s.updateUnit u f).term = s.term := rfl
@[simp] theorem State.updateUnit_ports (u : Nat) (f : UnitRecord → UnitRecord) : (s.updateUnit u f).ports = s.ports := rfl
@[simp] theorem State.updateUnit_mgmt (u : Nat) (f : UnitRecord → UnitRecord) : (s.updateUnit u f).mgmt = s.mgmt := rfl
@[simp] theorem State.updateUnit_pending (u : Nat) (f : UnitRecord → UnitRecord) : (s.updateUnit u f).pending = s.pending := rfl

@[simp] theorem State.updatePullStrip_tables (f : Strip → Strip) : (s.updatePullStrip f).tables = s.tables := rfl
@[simp] theorem State.updatePullStrip_headA (f : Strip → Strip) : (s.updatePullStrip f).headA = s.headA := rfl
@[simp] theorem State.updatePullStrip_headB (f : Strip → Strip) : (s.updatePullStrip f).headB = s.headB := rfl
@[simp] theorem State.updatePullStrip_engineA (f : Strip → Strip) : (s.updatePullStrip f).engineA = s.engineA := rfl
@[simp] theorem State.updatePullStrip_engineB (f : Strip → Strip) : (s.updatePullStrip f).engineB = s.engineB := rfl
@[simp] theorem State.updatePullStrip_store (f : Strip → Strip) : (s.updatePullStrip f).store = s.store := rfl
@[simp] theorem State.updatePullStrip_puller (f : Strip → Strip) : (s.updatePullStrip f).puller = s.puller := rfl
@[simp] theorem State.updatePullStrip_alarms (f : Strip → Strip) : (s.updatePullStrip f).alarms = s.alarms := rfl
@[simp] theorem State.updatePullStrip_term (f : Strip → Strip) : (s.updatePullStrip f).term = s.term := rfl
@[simp] theorem State.updatePullStrip_ports (f : Strip → Strip) : (s.updatePullStrip f).ports = s.ports := rfl
@[simp] theorem State.updatePullStrip_mgmt (f : Strip → Strip) : (s.updatePullStrip f).mgmt = s.mgmt := rfl
@[simp] theorem State.updatePullStrip_pending (f : Strip → Strip) : (s.updatePullStrip f).pending = s.pending := rfl

@[simp] theorem State.setHead_tables (c : HeadCtx) : (s.setHead h c).tables = s.tables := by cases h <;> rfl
@[simp] theorem State.setHead_engineA (c : HeadCtx) : (s.setHead h c).engineA = s.engineA := by cases h <;> rfl
@[simp] theorem State.setHead_engineB (c : HeadCtx) : (s.setHead h c).engineB = s.engineB := by cases h <;> rfl
@[simp] theorem State.setHead_store (c : HeadCtx) : (s.setHead h c).store = s.store := by cases h <;> rfl
@[simp] theorem State.setHead_track (c : HeadCtx) : (s.setHead h c).track = s.track := by cases h <;> rfl
@[simp] theorem State.setHead_puller (c : HeadCtx) : (s.setHead h c).puller = s.puller := by cases h <;> rfl
@[simp] theorem State.setHead_alarms (c : HeadCtx) : (s.setHead h c).alarms = s.alarms := by cases h <;> rfl
@[simp] theorem State.setHead_term (c : HeadCtx) : (s.setHead h c).term = s.term := by cases h <;> rfl
@[simp] theorem State.setHead_ports (c : HeadCtx) : (s.setHead h c).ports = s.ports := by cases h <;> rfl
@[simp] theorem State.setHead_mgmt (c : HeadCtx) : (s.setHead h c).mgmt = s.mgmt := by cases h <;> rfl
@[simp] theorem State.setHead_pending (c : HeadCtx) : (s.setHead h c).pending = s.pending := by cases h <;> rfl

@[simp] theorem State.updateHead_tables (f : HeadCtx → HeadCtx) : (s.updateHead h f).tables = s.tables := by cases h <;> rfl
@[simp] theorem State.updateHead_engineA (f : HeadCtx → HeadCtx) : (s.updateHead h f).engineA = s.engineA := by cases h <;> rfl
@[simp] theorem State.updateHead_engineB (f : HeadCtx → HeadCtx) : (s.updateHead h f).engineB = s.engineB := by cases h <;> rfl
@[simp] theorem State.updateHead_store (f : HeadCtx → HeadCtx) : (s.updateHead h f).store = s.store := by cases h <;> rfl
@[simp] theorem State.updateHead_track (f : HeadCtx → HeadCtx) : (s.updateHead h f).track = s.track := by cases h <;> rfl
@[simp] theorem State.updateHead_puller (f : HeadCtx → HeadCtx) : (s.updateHead h f).puller = s.puller := by cases h <;> rfl
@[simp] theorem State.updateHead_alarms (f : HeadCtx → HeadCtx) : (s.updateHead h f).alarms = s.alarms := by cases h <;> rfl
@[simp] theorem State.updateHead_term (f : HeadCtx → HeadCtx) : (s.updateHead h f).term = s.term := by cases h <;> rfl
@[simp] theorem State.updateHead_ports (f : HeadCtx → HeadCtx) : (s.updateHead h f).ports = s.ports := by cases h <;> rfl
@[simp] theorem State.updateHead_mgmt (f : HeadCtx → HeadCtx) : (s.updateHead h f).mgmt = s.mgmt := by cases h <;> rfl
@[simp] theorem State.updateHead_pending (f : HeadCtx → HeadCtx) : (s.updateHead h f).pending = s.pending := by cases h <;> rfl

@[simp] theorem State.setEngine_tables (e : Engine) : (s.setEngine h e).tables = s.tables := by cases h <;> rfl
@[simp] theorem State.setEngine_headA (e : Engine) : (s.setEngine h e).headA = s.headA := by cases h <;> rfl
@[simp] theorem State.setEngine_headB (e : Engine) : (s.setEngine h e).headB = s.headB := by cases h <;> rfl
@[simp] theorem State.setEngine_store (e : Engine) : (s.setEngine h e).store = s.store := by cases h <;> rfl
@[simp] theorem State.setEngine_track (e : Engine) : (s.setEngine h e).track = s.track := by cases h <;> rfl
@[simp] theorem State.setEngine_puller (e : Engine) : (s.setEngine h e).puller = s.puller := by cases h <;> rfl
@[simp] theorem State.setEngine_alarms (e : Engine) : (s.setEngine h e).alarms = s.alarms := by cases h <;> rfl
@[simp] theorem State.setEngine_term (e : Engine) : (s.setEngine h e).term = s.term := by cases h <;> rfl
@[simp] theorem State.setEngine_ports (e : Engine) : (s.setEngine h e).ports = s.ports := by cases h <;> rfl
@[simp] theorem State.setEngine_mgmt (e : Engine) : (s.setEngine h e).mgmt = s.mgmt := by cases h <;> rfl
@[simp] theorem State.setEngine_pending (e : Engine) : (s.setEngine h e).pending = s.pending := by cases h <;> rfl

@[simp] theorem State.updateEngine_tables (f : Engine → Engine) : (s.updateEngine h f).tables = s.tables := by cases h <;> rfl
@[simp] theorem State.updateEngine_headA (f : Engine → Engine) : (s.updateEngine h f).headA = s.headA := by cases h <;> rfl
@[simp] theorem State.updateEngine_headB (f : Engine → Engine) : (s.updateEngine h f).headB = s.headB := by cases h <;> rfl
@[simp] theorem State.updateEngine_store (f : Engine → Engine) : (s.updateEngine h f).store = s.store := by cases h <;> rfl
@[simp] theorem State.updateEngine_track (f : Engine → Engine) : (s.updateEngine h f).track = s.track := by cases h <;> rfl
@[simp] theorem State.updateEngine_puller (f : Engine → Engine) : (s.updateEngine h f).puller = s.puller := by cases h <;> rfl
@[simp] theorem State.updateEngine_alarms (f : Engine → Engine) : (s.updateEngine h f).alarms = s.alarms := by cases h <;> rfl
@[simp] theorem State.updateEngine_term (f : Engine → Engine) : (s.updateEngine h f).term = s.term := by cases h <;> rfl
@[simp] theorem State.updateEngine_ports (f : Engine → Engine) : (s.updateEngine h f).ports = s.ports := by cases h <;> rfl
@[simp] theorem State.updateEngine_mgmt (f : Engine → Engine) : (s.updateEngine h f).mgmt = s.mgmt := by cases h <;> rfl
@[simp] theorem State.updateEngine_pending (f : Engine → Engine) : (s.updateEngine h f).pending = s.pending := by cases h <;> rfl

/-! ## What each update writes -/

@[simp] theorem State.updatePort_ports (f : PortRec → PortRec) :
    (s.updatePort x f).ports = s.ports.update x f := rfl
@[simp] theorem State.send_ports : (s.send x m).ports = s.ports.enqueue x false m := rfl
@[simp] theorem State.reply_ports (k t : Byte) (r : Reply) :
    (s.reply k t r).ports = s.ports.enqueue .u false (.controlReply k t r) := rfl
@[simp] theorem State.readReply_ports (t k i : Byte) (r : ReadContents) :
    (s.readReply t k i r).ports = s.ports.enqueue .u false (.readReply t k i r) := rfl
@[simp] theorem State.setEntries_entries (l : List AlarmEntry) : (s.setEntries l).alarms.entries = l := rfl
@[simp] theorem State.setEntries_lastSeq (l : List AlarmEntry) :
    (s.setEntries l).alarms.lastSeq = s.alarms.lastSeq := rfl
@[simp] theorem State.setEntries_safeStop (l : List AlarmEntry) :
    (s.setEntries l).alarms.safeStop = s.alarms.safeStop := rfl
@[simp] theorem State.judgeHolds_headA :
    s.judgeHolds.headA = s.headA.judge .a s.alarms.entries := rfl
@[simp] theorem State.judgeHolds_headB :
    s.judgeHolds.headB = s.headB.judge .b s.alarms.entries := rfl

end Sys2Proof.Machine
end

