-- ==== Sys2Proof/Laws/Frames.lean ====
section
/-! SUPPORT. Frames compose, and each shared operation keeps its frame: which blocks it can change.
One lemma per operation; a proof cites it in place of unfolding the operation. What the close of a bond other
than by LIFT leaves stands here too. -/

namespace Sys2Proof.Machine

/-! ## Frames compose -/

theorem Frame.refl (l : List Block) (s : State) : Frame l s s := by simp [Frame]

theorem Frame.mono {l m : List Block} {s t : State} (hl : ∀ b, b ∈ l → b ∈ m) (h : Frame l s t) :
    Frame m s t := by
  obtain ⟨h0, h1, h2, h3, h4, h5, h6, h7, h8, h9, h10, h11, h12⟩ := h
  exact ⟨h0, fun n => h1 (n ∘ hl _), fun n => h2 (n ∘ hl _), fun n => h3 (n ∘ hl _),
    fun n => h4 (n ∘ hl _), fun n => h5 (n ∘ hl _), fun n => h6 (n ∘ hl _), fun n => h7 (n ∘ hl _),
    fun n => h8 (n ∘ hl _), fun n => h9 (n ∘ hl _), fun n => h10 (n ∘ hl _), fun n => h11 (n ∘ hl _),
    fun n => h12 (n ∘ hl _)⟩

theorem Frame.trans {l : List Block} {s t u : State} (h : Frame l s t) (k : Frame l t u) :
    Frame l s u := by
  obtain ⟨h0, h1, h2, h3, h4, h5, h6, h7, h8, h9, h10, h11, h12⟩ := h
  obtain ⟨k0, k1, k2, k3, k4, k5, k6, k7, k8, k9, k10, k11, k12⟩ := k
  refine ⟨k0.trans h0, fun n => (k1 n).trans (h1 n), fun n => (k2 n).trans (h2 n),
    fun n => (k3 n).trans (h3 n), fun n => (k4 n).trans (h4 n), fun n => (k5 n).trans (h5 n),
    fun n => (k6 n).trans (h6 n), fun n => (k7 n).trans (h7 n), fun n => (k8 n).trans (h8 n),
    fun n => (k9 n).trans (h9 n), fun n => ?_, fun n => (k11 n).trans (h11 n),
    fun n => (k12 n).trans (h12 n)⟩
  rw [k10 n, h10 n]

/-- Two operations in a row keep the union of their frames. -/
theorem Frame.comp {l m n : List Block} {s t u : State} (h : Frame l s t) (k : Frame m t u)
    (hl : ∀ b, b ∈ l → b ∈ n) (hm : ∀ b, b ∈ m → b ∈ n) : Frame n s u :=
  (h.mono hl).trans (k.mono hm)

/-- A frame over a list of operations. -/
theorem Frame.foldl {α : Type} {l : List Block} (f : State → α → State)
    (hf : ∀ s a, Frame l s (f s a)) (xs : List α) (s : State) : Frame l s (xs.foldl f s) := by
  induction xs generalizing s with
  | nil => exact Frame.refl l s
  | cons a xs ih => exact (hf s a).trans (ih (f s a))

/-! ## Ports, heads, engines -/

theorem State.updatePort_frame (s : State) (x : Port) (f : PortRec → PortRec) :
    Frame [.ports] s (s.updatePort x f) := by simp [Frame, State.updatePort]

theorem State.send_frame (s : State) (x : Port) (m : Msg) : Frame [.ports] s (s.send x m) := by
  simp [Frame, State.send]

theorem State.reply_frame (s : State) (k t : Byte) (r : Reply) : Frame [.ports] s (s.reply k t r) :=
  s.send_frame _ _

theorem State.readReply_frame (s : State) (t k i : Byte) (r : ReadContents) :
    Frame [.ports] s (s.readReply t k i r) := s.send_frame _ _

theorem State.takeRx_frame (s : State) (x : Port) (c : Instr) : Frame [.ports] s (s.takeRx x c) :=
  s.updatePort_frame _ _

theorem State.forward_frame (s : State) (c : Instr) : Frame [.ports] s (s.forward c) := by
  unfold State.forward
  split
  · exact Frame.refl _ _
  · exact s.send_frame _ _

theorem State.setHead_frame (s : State) (h : Head) (c : HeadCtx) :
    Frame [headBlock h] s (s.setHead h c) := by
  cases h <;> simp [Frame, State.setHead, headBlock]

theorem State.updateHead_frame (s : State) (h : Head) (f : HeadCtx → HeadCtx) :
    Frame [headBlock h] s (s.updateHead h f) := s.setHead_frame _ _

theorem State.setEngine_frame (s : State) (h : Head) (e : Engine) :
    Frame [engineBlock h] s (s.setEngine h e) := by
  cases h <;> simp [Frame, State.setEngine, engineBlock]

theorem State.updateEngine_frame (s : State) (h : Head) (f : Engine → Engine) :
    Frame [engineBlock h] s (s.updateEngine h f) := s.setEngine_frame _ _

theorem headBlock_mem (h : Head) : headBlock h = .headA ∨ headBlock h = .headB := by
  cases h <;> simp [headBlock]

/-! ## The terminal server -/

/-- Marking adds to the changed-field set and touches nothing else. -/
theorem Terminal.markWhere_eq (t : Terminal) (f : Nat → Bool) :
    t.markWhere f = { t with changed := (t.markWhere f).changed } := rfl

/-- R150: marking what changed leaves everything but the changed-field set. -/
theorem State.markChanges_like (s old : State) : Like s (s.markChanges old) := by
  unfold State.markChanges
  split <;> rfl

/-- R150: the fields of the current page that are marked join the changed-field set. -/
theorem Terminal.mem_mark (t : Terminal) (fields : List Nat) (k : Nat) (hk : k < pageSize t.page)
    (hf : k ∈ fields) : k ∈ (t.mark t.page fields).changed := by
  simp [Terminal.mark, Terminal.markWhere, hk, hf]

/-- R151: what the terminal server does when it is told of a change to the list. -/
theorem Terminal.listChanged_eq (t : Terminal) (n : Nat) : t.listChanged n = { t with
    changed := (t.listChanged n).changed
    scroll := if n < t.scroll + 8 ∧ 0 < t.scroll then n - 8 else t.scroll } := by
  have twice (u : Terminal) (k m : List Nat) : (u.mark 1 k).mark 0 m =
      { u with changed := ((u.mark 1 k).mark 0 m).changed } := by
    unfold Terminal.mark
    split <;> split <;> rfl
  unfold Terminal.listChanged
  split
  · exact twice _ _ _
  · exact twice _ _ _

/-- R151: the alarm fields are marked when the server is told. -/
theorem Terminal.listChanged_marks (t : Terminal) (n : Nat) :
    (t.page = 1 → ∀ k < 9, k ∈ (t.listChanged n).changed) ∧
      (t.page = 0 → 5 ∈ (t.listChanged n).changed ∧ 6 ∈ (t.listChanged n).changed) := by
  unfold Terminal.listChanged
  extract_lets u
  have hu : u.page = t.page := by simp only [u]; split <;> rfl
  constructor
  · intro h k hk
    rw [h] at hu
    rw [Terminal.mark, if_neg (by simp [Terminal.mark, Terminal.markWhere, hu]), ← hu]
    exact u.mem_mark _ k (by simpa [hu, pageSize] using hk) (by simp; omega)
  · intro h
    rw [h] at hu
    have : u.mark 1 [0, 1, 2, 3, 4, 5, 6, 7, 8] = u := by simp [Terminal.mark, hu]
    rw [this, ← hu]
    exact ⟨u.mem_mark _ 5 (by simp [hu, pageSize]) (by simp),
      u.mem_mark _ 6 (by simp [hu, pageSize]) (by simp)⟩

theorem State.markChanges_frame (s old : State) (l : List Block) :
    Frame l s (s.markChanges old) := by
  unfold State.markChanges
  split
  · simp [Frame, Terminal.markWhere]
  · exact Frame.refl _ _

/-- What a step marks stands outside every frame (R150). -/
theorem Frame.markChanges {l : List Block} {s t : State} (h : Frame l s t) (old : State) :
    Frame l s (t.markChanges old) := h.trans (t.markChanges_frame old l)

/-- A step of a rule keeps the frame of its body: what it marks stands outside every frame. -/
theorem State.happens_frame {l : List Block} (s : State) (body : State → State)
    (hb : Frame l s (body s)) : Frame l s (s.happens body) := hb.markChanges s

/-! ## Alarms -/

theorem State.note_frame (s : State) (c : AlarmClass) (o : AlarmObject) (n : Nat) (w : NoteEvent) :
    Frame [.ports] s (s.note c o n w) := by
  unfold State.note
  split <;> simp [Frame]

theorem State.setEntries_frame (s : State) (l : List AlarmEntry) :
    Frame [.alarms] s (s.setEntries l) := by simp [Frame, State.setEntries]

theorem State.listChanged_frame (s : State) : Frame [.term] s s.listChanged := by
  simp [Frame, State.listChanged]

/-- R151: an operation that left the terminal server alone, and the telling of the list. -/
theorem State.listChanged_told {l : List Block} {s u : State} (h : Frame l s u) (ht : Block.term ∉ l) :
    ListTold s u.listChanged := by
  have h : u.term = _ := h.2.2.2.2.2.2.2.2.2.2.1 ht
  have hp : u.term.page = s.term.page := by rw [h]
  have hs : u.term.scroll = s.term.scroll := by rw [h]
  have m := u.term.listChanged_marks u.alarms.entries.length
  refine ⟨(u.term.listChanged_eq u.alarms.entries.length).trans ?_, hp ▸ m.1, hp ▸ m.2⟩
  change _ = { s.term with
    changed := (u.term.listChanged u.alarms.entries.length).changed
    scroll := if u.alarms.entries.length < s.term.scroll + 8 ∧ 0 < s.term.scroll then
      u.alarms.entries.length - 8 else s.term.scroll }
  generalize (u.term.listChanged u.alarms.entries.length).changed = c
  rw [hs, h]

/-- R22, R43, R143: what the judgement of a head's hold reasons does. -/
theorem HeadCtx.judge_eq (c : HeadCtx) (h : Head) (l : List AlarmEntry) :
    c.judge h l = HeldByList c h l := by
  unfold HeadCtx.judge HeadCtx.followHolds HeldByList alarmStands safeStopStands
  cases c.state <;> cases hl : c.holds.link <;>
    simp [HeadState.inFlight, Holds.state, Holds.any, hl, or_assoc]

theorem State.judgeHolds_frame (s : State) : Frame [.headA, .headB] s s.judgeHolds := by
  simp [Frame, State.judgeHolds]

theorem State.abortCause_frame (s : State) (h : Head) :
    Frame [headBlock h, .ports] s (s.abortCause h) := by
  unfold State.abortCause
  split
  · exact (s.send_frame _ _).comp (State.updateHead_frame _ _ _) (by simp) (by simp)
  · exact (s.send_frame _ _).comp (State.updateHead_frame _ _ _) (by simp) (by simp)
  · exact Frame.refl _ _

theorem State.refuseHeld_frame (s : State) (r : Reason) :
    Frame [.track, .ports] s (s.refuseHeld r) := by
  unfold State.refuseHeld
  split
  · exact Frame.refl _ _
  · simp [Frame, State.send]

theorem State.safeStopAction_frame (s : State) :
    Frame [.headA, .headB, .track, .alarms, .ports] s s.safeStopAction := by
  unfold State.safeStopAction
  have h0 : Frame [.alarms] s { s with alarms := { s.alarms with safeStop := true } } := by
    simp [Frame]
  have h1 := h0.comp (n := [.headA, .headB, .track, .alarms, .ports])
    (State.abortCause_frame _ .a) (by simp) (by simp [headBlock])
  have h2 := h1.comp (n := [.headA, .headB, .track, .alarms, .ports])
    (State.abortCause_frame _ .b) (by simp) (by simp [headBlock])
  have h3 := h2.comp (n := [.headA, .headB, .track, .alarms, .ports])
    (State.judgeHolds_frame _) (by simp) (by simp)
  have h4 := h3.comp (n := [.headA, .headB, .track, .alarms, .ports])
    (State.send_frame _ .ix .freeze) (by simp) (by simp)
  exact h4.comp (State.refuseHeld_frame _ .stopped) (by simp) (by simp)

/-- The blocks that raising an alarm can change. -/
abbrev raiseBlocks : List Block := [.headA, .headB, .track, .alarms, .term, .ports]

/-- The blocks that the end of an alarm's condition and an acknowledgement can change. -/
abbrev leaveBlocks : List Block := [.headA, .headB, .alarms, .term, .ports]

/-- The blocks that a listing can change before the terminal server is told. -/
abbrev listBlocks : List Block := [.headA, .headB, .track, .alarms, .ports]

/-- R138: all that a listing does before the terminal server is told. -/
theorem State.listAlarm_untold (s : State) (c : AlarmClass) (o : AlarmObject) :
    ∃ u, s.listAlarm c o = u.listChanged ∧ Frame listBlocks s u := by
  unfold State.listAlarm
  extract_lets x n e a s1 s2 s3
  have h1 : Frame listBlocks s s1 := by simp [Frame, s1]
  have h2 : Frame listBlocks s s2 :=
    (h1.comp (State.note_frame _ _ _ _ _) (n := listBlocks) (by simp) (by simp)).comp
      (State.judgeHolds_frame _) (by simp) (by simp)
  refine ⟨s3, rfl, ?_⟩
  simp only [s3]
  split
  · exact h2.comp (State.safeStopAction_frame _) (by simp) (by simp)
  · exact h2

theorem State.listAlarm_frame (s : State) (c : AlarmClass) (o : AlarmObject) :
    Frame raiseBlocks s (s.listAlarm c o) := by
  obtain ⟨u, e, h⟩ := s.listAlarm_untold c o
  exact e ▸ h.comp u.listChanged_frame (by simp) (by simp)

theorem State.mergeAlarm_untold (s : State) (c : AlarmClass) (o : AlarmObject) (e : AlarmEntry) :
    ∃ u, s.mergeAlarm c o e = u.listChanged ∧ Frame [.alarms, .ports] s u :=
  ⟨_, rfl, (State.setEntries_frame s _).comp (State.note_frame _ _ _ _ _) (by simp) (by simp)⟩

theorem State.mergeAlarm_frame (s : State) (c : AlarmClass) (o : AlarmObject) (e : AlarmEntry) :
    Frame [.alarms, .term, .ports] s (s.mergeAlarm c o e) := by
  obtain ⟨u, e, h⟩ := s.mergeAlarm_untold c o e
  exact e ▸ h.comp u.listChanged_frame (by simp) (by simp)

/-- R138, R139, R144: what a raise can change. -/
theorem State.raise_frame (s : State) (c : AlarmClass) (o : AlarmObject) :
    Frame raiseBlocks s (s.raise c o) := by
  unfold State.raise
  split
  · exact s.listAlarm_frame c o
  · exact (s.mergeAlarm_frame c o _).mono (by simp)

/-- R138, R139, R151: a raise tells the terminal server. -/
theorem State.raise_told (s : State) (c : AlarmClass) (o : AlarmObject) : ListTold s (s.raise c o) := by
  unfold State.raise
  split
  · obtain ⟨u, e, h⟩ := s.listAlarm_untold c o
    exact e ▸ State.listChanged_told h (by simp)
  · obtain ⟨u, e, h⟩ := s.mergeAlarm_untold c o _
    exact e ▸ State.listChanged_told h (by simp)

theorem State.removeAlarm_untold (s : State) (e : AlarmEntry) :
    ∃ u, s.removeAlarm e = u.listChanged ∧ Frame [.headA, .headB, .alarms, .ports] s u := by
  unfold State.removeAlarm
  extract_lets s1 s2 a s3
  have h2 : Frame [.headA, .headB, .alarms, .ports] s s2 :=
    ((State.setEntries_frame s _).comp (State.note_frame _ _ _ _ _)
      (n := [.headA, .headB, .alarms, .ports]) (by simp) (by simp)).comp
      (State.judgeHolds_frame _) (by simp) (by simp)
  refine ⟨s3, rfl, ?_⟩
  simp only [s3]
  split
  · exact h2.trans (by simp [Frame])
  · exact h2

theorem State.removeAlarm_frame (s : State) (e : AlarmEntry) :
    Frame leaveBlocks s (s.removeAlarm e) := by
  obtain ⟨u, e, h⟩ := s.removeAlarm_untold e
  exact e ▸ h.comp u.listChanged_frame (by simp) (by simp)

theorem State.moveAlarm_untold (s : State) (e : AlarmEntry) (st : AlarmState) (w : NoteEvent) :
    ∃ u, s.moveAlarm e st w = u.listChanged ∧ Frame [.alarms, .ports] s u :=
  ⟨_, rfl, (State.setEntries_frame s _).comp (State.note_frame _ _ _ _ _) (by simp) (by simp)⟩

theorem State.moveAlarm_frame (s : State) (e : AlarmEntry) (st : AlarmState) (w : NoteEvent) :
    Frame [.alarms, .term, .ports] s (s.moveAlarm e st w) := by
  obtain ⟨u, e, h⟩ := s.moveAlarm_untold e st w
  exact e ▸ h.comp u.listChanged_frame (by simp) (by simp)

/-- R142, R151: a removal tells the terminal server. -/
theorem State.removeAlarm_told (s : State) (e : AlarmEntry) : ListTold s (s.removeAlarm e) := by
  obtain ⟨u, eq, h⟩ := s.removeAlarm_untold e
  exact eq ▸ State.listChanged_told h (by simp)

/-- R140, R141, R151: so does an entry that moves. -/
theorem State.moveAlarm_told (s : State) (e : AlarmEntry) (st : AlarmState) (w : NoteEvent) :
    ListTold s (s.moveAlarm e st w) := by
  obtain ⟨u, eq, h⟩ := s.moveAlarm_untold e st w
  exact eq ▸ State.listChanged_told h (by simp)

/-- R140, R142: what the end of a condition can change. -/
theorem State.conditionGone_frame (s : State) (c : AlarmClass) (o : AlarmObject) :
    Frame leaveBlocks s (s.conditionGone c o) := by
  unfold State.conditionGone
  split
  · exact Frame.refl _ _
  · split
    · exact (s.moveAlarm_frame _ _ _).mono (by simp)
    · exact s.removeAlarm_frame _
    · exact Frame.refl _ _

theorem State.conditionsGone_frame (s : State) (f : AlarmEntry → Bool) :
    Frame leaveBlocks s (s.conditionsGone f) :=
  Frame.foldl (fun (t : State) (e : AlarmEntry) => t.conditionGone e.cls e.obj)
    (fun t e => t.conditionGone_frame e.cls e.obj) _ s

/-- R141, R142: what an acknowledgement can change. -/
theorem State.acknowledge_frame (s : State) (e : AlarmEntry) :
    Frame leaveBlocks s (s.acknowledge e) := by
  unfold State.acknowledge
  split
  · split
    · exact s.removeAlarm_frame _
    · exact (s.moveAlarm_frame _ _ _).mono (by simp)
  · exact Frame.refl _ _
  · exact s.removeAlarm_frame _

theorem State.acknowledgeAll_frame (s : State) : Frame leaveBlocks s s.acknowledgeAll :=
  Frame.foldl _ (fun t e => t.acknowledge_frame e) _ s

theorem State.headFaultCleared_frame (s : State) (h : Head) :
    Frame leaveBlocks s (s.headFaultCleared h) := by
  unfold State.headFaultCleared
  split
  · split
    · exact s.removeAlarm_frame _
    · exact Frame.refl _ _
  · exact Frame.refl _ _

/-! ## Track, store and index gate -/

theorem State.releasePins_frame (s : State) (f : BondRecord → Bool) :
    Frame [.store] s (s.releasePins f) := by simp [Frame, State.releasePins]

theorem State.forwardIndex_frame (s : State) (k : IndexKind) :
    Frame [.track, .ports] s (s.forwardIndex k) := by
  unfold State.forwardIndex
  extract_lets i o t u
  split
  · simp [Frame, t, u]
  · exact (s.send_frame _ _).mono (by simp)

theorem State.gateIndex_frame (s : State) (k : IndexKind) :
    Frame [.track, .ports] s (s.gateIndex k) := by
  unfold State.gateIndex
  extract_lets r
  split
  · exact s.forwardIndex_frame k
  · simp [Frame, State.holdIndex]

/-- R100, R103: what a release event can change. -/
theorem State.releaseGate_frame (s : State) : Frame [.track, .ports] s s.releaseGate := by
  unfold State.releaseGate
  split
  · exact Frame.refl _ _
  · extract_lets r
    split
    · refine Frame.trans ?_ (State.forwardIndex_frame _ _)
      simp [Frame]
    · simp [Frame]

theorem State.claimEnded_frame (s : State) (h : Head) :
    Frame [headBlock h, .track, .ports] s (s.claimEnded h) := by
  unfold State.claimEnded
  exact (State.updateHead_frame s h _).comp (State.releaseGate_frame _) (by simp) (by simp)

theorem State.rejectPending_frame (s : State) (f : Nat → Bool) :
    Frame [.track, .store] s (s.rejectPending f) := by
  unfold State.rejectPending
  split
  · exact Frame.refl _ _
  · refine Frame.trans ?_ ((State.releasePins_frame _ _).mono (by simp))
    simp [Frame]

theorem State.updateUnit_frame (s : State) (u : Nat) (f : UnitRecord → UnitRecord) :
    Frame [.track] s (s.updateUnit u f) := by simp [Frame, State.updateUnit]

/-! ## Pull testing -/

theorem State.updatePullStrip_frame (s : State) (f : Strip → Strip) :
    Frame [.track] s (s.updatePullStrip f) := by simp [Frame, State.updatePullStrip]

theorem State.pullWake_frame (s : State) : Frame [.ports] s s.pullWake := by
  unfold State.pullWake
  split
  · exact s.updatePort_frame _ _
  · exact Frame.refl _ _

/-- The blocks that a pull can change. -/
abbrev pullBlocks : List Block := [.headA, .headB, .store, .track, .puller, .alarms, .term, .ports]

theorem State.endPull_frame (s : State) : Frame pullBlocks s s.endPull := by
  unfold State.endPull
  extract_lets timedOut a s1 s2 s3
  have h1 : Frame pullBlocks s s1 := by simp [Frame, s1]
  have h2 : Frame pullBlocks s s2 := h1.comp (State.updatePullStrip_frame _ _) (by simp) (by simp)
  have h3 : Frame pullBlocks s s3 := by
    simp only [s3]
    split
    · exact h2
    · exact h2.comp (State.conditionGone_frame _ _ _) (by simp) (by simp)
  exact h3.comp (State.releaseGate_frame _) (by simp) (by simp)

theorem State.writePull_frame (s : State) (k : Nat) (v : Verdict) (f : Option Nat)
    (m : Option PullMode) : Frame pullBlocks s (s.writePull k v f m) := by
  unfold State.writePull
  split
  · exact Frame.refl _ _
  · split
    · exact Frame.refl _ _
    · extract_lets h n r run a p q s1 s2 s3
      have h1 : Frame pullBlocks s s1 := by simp [Frame, s1]
      have h2 : Frame pullBlocks s s2 := h1.comp (State.updatePullStrip_frame _ _) (by simp) (by simp)
      have h3 : Frame pullBlocks s s3 := by
        simp only [s3]
        split
        · exact h2.comp (State.raise_frame _ _ _) (by simp) (by simp)
        · exact h2
      exact h3.comp (State.send_frame _ _ _) (by simp) (by simp)

theorem State.giveNoResults_frame (s : State) : Frame pullBlocks s s.giveNoResults := by
  unfold State.giveNoResults
  split
  · exact Frame.refl _ _
  · refine Frame.foldl _ (fun t k => ?_) _ s
    split
    · exact t.writePull_frame _ _ _ _
    · exact Frame.refl _ _

theorem State.discardPull_frame (s : State) : Frame [.puller] s s.discardPull := by
  simp [Frame, State.discardPull]

theorem State.takePull_frame (s : State) (x : Strip) : Frame pullBlocks s (s.takePull x) := by
  unfold State.takePull
  extract_lets s1
  have h1 : Frame pullBlocks s s1 := (State.releasePins_frame s _).mono (by simp)
  exact h1.trans (by simp [Frame])

theorem State.openPull_frame (s : State) : Frame pullBlocks s s.openPull := by
  unfold State.openPull
  split
  · exact State.endPull_frame _
  · exact (State.updatePullStrip_frame s _).comp (State.pullWake_frame _) (by simp) (by simp)

theorem State.startPull_frame (s : State) : Frame pullBlocks s s.startPull := by
  unfold State.startPull
  split
  · exact Frame.refl _ _
  · split
    · exact (s.happens_frame _ (s.takePull_frame _)).trans (State.happens_frame _ _ (State.openPull_frame _))
    · exact Frame.refl _ _

/-! ## Jams and the close of a bond -/

/-- R109: what a jam can change. -/
theorem State.jam_frame (s : State) : Frame raiseBlocks s s.jam := by
  unfold State.jam
  extract_lets a s1
  have h1 : Frame raiseBlocks s s1 := by simp [Frame, s1]
  have h2 := h1.comp (State.refuseHeld_frame s1 .unknown) (n := raiseBlocks) (by simp) (by simp)
  exact (h2.trans (State.raise_frame _ _ _)).trans (State.raise_frame _ _ _)

/-- The blocks that the close of a bond can change, beside the engine of its head. -/
abbrev closeBlocks : List Block := [.headA, .headB, .store, .track, .alarms, .term, .ports]

theorem State.updateHead_close (s : State) (h : Head) (f : HeadCtx → HeadCtx) :
    Frame closeBlocks s (s.updateHead h f) :=
  (State.updateHead_frame s h f).mono (by cases h <;> simp [headBlock])

theorem State.raise_close (s : State) (c : AlarmClass) (o : AlarmObject) :
    Frame closeBlocks s (s.raise c o) := (s.raise_frame c o).mono (by simp)

theorem State.weakRunStep_frame (s : State) (h : Head) (f : Figures) (n : Nat) :
    Frame closeBlocks s (s.weakRunStep h f n) := by
  unfold State.weakRunStep
  extract_lets k s1
  split
  · exact (State.updateHead_close s h _).trans (State.raise_close _ _ _)
  · exact State.updateHead_close s h _

theorem State.completeStep_frame (s : State) (h : Head) (b : Bond) (c : BondClass) (x : Strip) :
    Frame closeBlocks s (s.completeStep h b c x) := by
  unfold State.completeStep
  extract_lets m s1 s2
  have h1 : Frame closeBlocks s s1 := (State.updateUnit_frame s _ _).mono (by simp)
  split
  · exact h1
  · have h2 : Frame closeBlocks s s2 := by
      simp only [s2]
      split
      · exact h1.trans (by simp [Frame])
      · exact h1
    split
    · exact h2.trans (State.updateHead_close _ _ _)
    · exact h2

theorem State.failStep_frame (s : State) (h : Head) (b : Bond) (x : Strip) :
    Frame closeBlocks s (s.failStep h b x) := by
  unfold State.failStep
  extract_lets n s1 s2 s3
  have h1 : Frame closeBlocks s s1 := (State.updateUnit_frame s _ _).mono (by simp)
  split
  · have h2 : Frame closeBlocks s s2 := h1.trans ((State.updateUnit_frame _ _ _).mono (by simp))
    have h3 : Frame closeBlocks s s3 := h2.trans (State.updateHead_close _ _ _)
    exact (h3.trans ((State.releasePins_frame _ _).mono (by simp))).trans (State.raise_close _ _ _)
  · exact h1

/-- R33 step 6: what the move of the unit record can change. -/
theorem State.moveUnit_frame (s : State) (h : Head) (b : Bond) (c : BondClass) :
    Frame closeBlocks s (s.moveUnit h b c) := by
  unfold State.moveUnit
  split
  · exact Frame.refl _ _
  · split
    · exact s.completeStep_frame _ _ _ _
    · exact s.completeStep_frame _ _ _ _
    · exact s.completeStep_frame _ _ _ _
    · exact s.failStep_frame _ _ _
    · exact s.failStep_frame _ _ _
    · exact Frame.refl _ _

/-- R33, R59: what the close of a bond can change. -/
theorem State.closeBond_frame (s : State) (h : Head) (lift late link : Bool) :
    Frame (engineBlock h :: closeBlocks) s (s.closeBond h lift late link) := by
  have up {t u : State} (k : Frame closeBlocks t u) : Frame (engineBlock h :: closeBlocks) t u :=
    k.mono fun _ => List.mem_cons_of_mem _
  unfold State.closeBond
  extract_lets c
  split
  · exact Frame.refl _ _
  · rename_i f limit s1 _ b hb
    extract_lets s2 r s3 s4 s5 s6 s7 s8 s9
    have h1 := up (t := s) (u := s1) ((State.setHead_frame s h _).mono (by cases h <;> simp [headBlock]))
    have h2 := h1.trans (t := s1) (u := s2) ((State.updateEngine_frame s1 h _).mono (by simp))
    have h3 := h2.trans (up (t := s2) (u := s3) (by simp [Frame, s3]))
    have h4 := h3.trans (up (t := s3) (u := s4) (State.updateHead_close s3 h _))
    have h5 := h4.trans (up (t := s4) (u := s5) (Frame.foldl _ (fun t a => State.raise_close t a _) _ _))
    have h6 := h5.trans (up (t := s5) (u := s6) (State.weakRunStep_frame s5 h f limit))
    have h7 := h6.trans (up (t := s6) (u := s7) ((State.send_frame _ _ _).mono (by simp)))
    have h8 := h7.trans (up (t := s7) (u := s8) (State.moveUnit_frame s7 h _ _))
    have h9 := h8.trans (up (t := s8) (u := s9) (State.updateHead_close s8 h _))
    split
    · exact h9.trans (up ((State.claimEnded_frame s9 h).mono (by cases h <;> simp [headBlock])))
    · exact h9

/-- R33, R59, R64: what a close other than by LIFT does: the class is ABORTED, so no alarm is raised, no unit
moves and the claim stands. -/
theorem State.closeBond_aborted (s : State) (h : Head) (b : Bond) (late link : Bool)
    (hb : (s.head h).bond = some b) :
    let f := (s.engine h).figures false
    let c := s.head h
    let r := bondRecordOf s.mgmt.time h b f late link
    s.closeBond h false late link =
      ((({ s with store := s.store.write r } : State).setEngine h
          { s.engine h with state := .disarmed }).setHead h { c with
        bond := none, abortTimer := false, state := c.holds.state
        last := some ⟨.aborted, b.kind, f.energy, f.deformation⟩
        results := c.results.countClass .aborted }).send .u
        (.bondReport b.record h b.unit b.wire b.kind .aborted f.energy f.deformation r.flags) := by
  have hf : ((s.engine h).figures false).cls = .aborted := rfl
  unfold State.closeBond
  dsimp only
  rw [hb]
  dsimp only
  generalize (s.engine h).figures false = f at hf
  have hq : qualityAlarms b.kind f = [] := by simp [qualityAlarms, hf]
  have hw : ∀ (t : State) (n : Nat), t.weakRunStep h f n = t := by
    intro t n
    cases h <;> simp [State.weakRunStep, moveWeakRun, hf, State.updateHead, State.setHead, State.head]
  have hm : ∀ t : State, t.moveUnit h b .aborted = t := by
    intro t; unfold State.moveUnit; split <;> rfl
  simp only [hq, hf, hw, hm, List.foldl_nil]
  cases h <;>
    simp [State.setHead, State.updateHead, State.head, Engine.close, BondClass.freezes, State.setEngine,
      State.updateEngine, State.engine, State.send] <;>
    (intro h1 h2; simp [h2] at h1)

/-- R42: what the loss of a head's port can change. -/
theorem State.headPortLost_frame (s : State) (h : Head) :
    Frame (engineBlock h :: closeBlocks) s (s.headPortLost h) := by
  have up {t u : State} (k : Frame closeBlocks t u) : Frame (engineBlock h :: closeBlocks) t u :=
    k.mono fun _ => List.mem_cons_of_mem _
  unfold State.headPortLost
  extract_lets s1
  have h1 := up (t := s) (u := s1) (State.updateHead_close s h _)
  split
  · exact h1.trans (State.closeBond_frame s1 h false false true)
  · exact h1.trans (up (State.updateHead_close s1 h HeadCtx.followHolds))

end Sys2Proof.Machine
end

