-- ==== Sys2Proof/Laws/Queues.lean ====
section
/-! SUPPORT. What queueing a frame leaves of a port, what taking a frame and marking leave of the
state, where a command that a frame carries acts, and the moves of a TRANSFER and of a TRACK-SET. -/

namespace Sys2Proof.Machine

/-! ## One port: what `kick`, `rest`, `enqueue` and `sendGo` leave -/

/-- R171, R172: `kick` marks one entry of the transmit queue as begun and stops the sleep timer, or
does nothing. -/
theorem PortRec.kick_eq (p : PortRec) (r : Rate) :
    p.kick r = p ∨ ∃ k e, nextPlace p.tx = some k ∧ p.tx[k]? = some e ∧ mayBegin r p e = true ∧
      p.state = .live ∧ p.hoReceived = false ∧ p.control = [] ∧
      p.tx.all (fun e => !e.begun) = true ∧
      p.kick r = { p with tx := p.tx.set k { e with begun := true }, sleepTimer := false } := by
  unfold PortRec.kick
  split
  · next hl =>
    split
    · exact .inl rfl
    · next k hk =>
      split
      · exact .inl rfl
      · next e he =>
        split
        · next hm => exact .inr ⟨k, e, hk, he, hm, hl.1, hl.2.1, hl.2.2.1, hl.2.2.2, rfl⟩
        · exact .inl rfl
  · exact .inl rfl

@[simp] theorem PortRec.kick_state (p : PortRec) (r : Rate) : (p.kick r).state = p.state := by
  obtain h | ⟨k, e, -, -, -, -, -, -, -, h⟩ := p.kick_eq r <;> rw [h]
@[simp] theorem PortRec.kick_rx (p : PortRec) (r : Rate) : (p.kick r).rx = p.rx := by
  obtain h | ⟨k, e, -, -, -, -, -, -, -, h⟩ := p.kick_eq r <;> rw [h]
@[simp] theorem PortRec.kick_count (p : PortRec) (r : Rate) : (p.kick r).count = p.count := by
  obtain h | ⟨k, e, -, -, -, -, -, -, -, h⟩ := p.kick_eq r <;> rw [h]
@[simp] theorem PortRec.kick_control (p : PortRec) (r : Rate) : (p.kick r).control = p.control := by
  obtain h | ⟨k, e, -, -, -, -, -, -, -, h⟩ := p.kick_eq r <;> rw [h]
@[simp] theorem PortRec.kick_receiving (p : PortRec) (r : Rate) :
    (p.kick r).receiving = p.receiving := by
  obtain h | ⟨k, e, -, -, -, -, -, -, -, h⟩ := p.kick_eq r <;> rw [h]
@[simp] theorem PortRec.kick_length (p : PortRec) (r : Rate) : (p.kick r).tx.length = p.tx.length := by
  obtain h | ⟨k, e, -, -, -, -, -, -, -, h⟩ := p.kick_eq r <;> rw [h]
  simp

/-- Beginning a frame changes neither the frames of the queue nor their order. -/
theorem PortRec.kick_msgs (p : PortRec) (r : Rate) :
    (p.kick r).tx.map (fun e => (e.msg, e.urgent)) = p.tx.map fun e => (e.msg, e.urgent) := by
  obtain h | ⟨k, e, -, he, -, -, -, -, -, h⟩ := p.kick_eq r <;> rw [h]
  obtain ⟨hk, rfl⟩ := List.getElem?_eq_some_iff.mp he
  simp only [List.map_set]
  exact List.ext_getElem (by simp) fun i h1 h2 => by
    simp only [List.getElem_set, List.getElem_map]
    split
    · next hi => subst hi; rfl
    · rfl

@[simp] theorem PortRec.rest_tx (p : PortRec) : p.rest.tx = p.tx := by
  unfold PortRec.rest; split <;> rfl
@[simp] theorem PortRec.rest_rx (p : PortRec) : p.rest.rx = p.rx := by
  unfold PortRec.rest; split <;> rfl
@[simp] theorem PortRec.rest_state (p : PortRec) : p.rest.state = p.state := by
  unfold PortRec.rest; split <;> rfl
@[simp] theorem PortRec.rest_count (p : PortRec) : p.rest.count = p.count := by
  unfold PortRec.rest; split <;> rfl
@[simp] theorem PortRec.rest_control (p : PortRec) : p.rest.control = p.control := by
  unfold PortRec.rest; split <;> rfl

@[simp] theorem PortRec.enqueue_rx (p : PortRec) (x : Port) (r : Rate) (u : Bool) (m : Msg) :
    (p.enqueue x r u m).rx = p.rx := by
  unfold PortRec.enqueue
  dsimp only
  split
  · rfl
  · split <;> simp
@[simp] theorem PortRec.enqueue_control (p : PortRec) (x : Port) (r : Rate) (u : Bool) (m : Msg) :
    (p.enqueue x r u m).control = p.control := by
  unfold PortRec.enqueue
  dsimp only
  split
  · rfl
  · split <;> simp
@[simp] theorem PortRec.enqueue_receiving (p : PortRec) (x : Port) (r : Rate) (u : Bool) (m : Msg) :
    (p.enqueue x r u m).receiving = p.receiving := by
  unfold PortRec.enqueue
  dsimp only
  split
  · rfl
  · split <;> simp

/-- R172: a transmit queue grows by at most one frame. -/
theorem PortRec.enqueue_length (p : PortRec) (x : Port) (r : Rate) (u : Bool) (m : Msg) :
    (p.enqueue x r u m).tx.length ≤ p.tx.length + 1 := by
  unfold PortRec.enqueue
  dsimp only
  split
  · exact Nat.le_succ _
  · split <;> simp

/-- A frame queued on one port leaves the other ports. -/
theorem Ports.enqueue_ne (ps : Ports) (x y : Port) (u : Bool) (m : Msg) (h : y ≠ x) :
    (ps.enqueue x u m).get y = ps.get y := Ports.get_update_ne x y ps _ h

theorem State.send_port_ne (s : State) (x y : Port) (m : Msg) (h : y ≠ x) :
    (s.send x m).port y = s.port y := s.ports.enqueue_ne x y false m h

@[simp] theorem PortRec.sendGo_state (p : PortRec) : p.sendGo.state = p.state := by
  unfold PortRec.sendGo; split <;> rfl
@[simp] theorem PortRec.sendGo_rx (p : PortRec) : p.sendGo.rx = p.rx := by
  unfold PortRec.sendGo; split <;> rfl
@[simp] theorem PortRec.sendGo_tx (p : PortRec) : p.sendGo.tx = p.tx := by
  unfold PortRec.sendGo; split <;> rfl
@[simp] theorem PortRec.sendGo_count (p : PortRec) : p.sendGo.count = p.count := by
  unfold PortRec.sendGo; split <;> rfl

@[simp] theorem PortRec.freeOldest_state (p : PortRec) : p.freeOldest.state = p.state := by
  simp [PortRec.freeOldest]
@[simp] theorem PortRec.freeOldest_rx (p : PortRec) :
    p.freeOldest.rx = dropFirst (fun e => e.body.isSome) p.rx := by simp [PortRec.freeOldest]
@[simp] theorem PortRec.freeOldest_tx (p : PortRec) : p.freeOldest.tx = p.tx := by
  simp [PortRec.freeOldest]
@[simp] theorem PortRec.freeOldest_count (p : PortRec) : p.freeOldest.count = p.count := by
  simp [PortRec.freeOldest]

/-- R170: taking a frame leaves the transmit queue, the state and the counters of its port. -/
theorem State.takeRx_port (s : State) (x : Port) (c : Instr) :
    ((s.takeRx x c).port x).tx = (s.port x).tx ∧ ((s.takeRx x c).port x).state = (s.port x).state ∧
      ((s.takeRx x c).port x).count = (s.port x).count := by
  simp only [State.takeRx, State.port_updatePort_self]
  split <;> simp

/-- A command whose frame does not stand in the receive queue frees nothing. -/
theorem State.takeRx_none (s : State) (x : Port) (c : Instr) (h : (s.port x).oldest = none) :
    s.takeRx x c = s := by
  have hp : (s.port x).oldest.any (spells x c) = false := by rw [h]; rfl
  simp only [State.takeRx, State.updatePort, Ports.update]
  rw [show (s.ports.get x).oldest.any (spells x c) = false from hp]
  simp

theorem dropFirst_length_le {α : Type} (f : α → Bool) (l : List α) :
    (dropFirst f l).length ≤ l.length := by
  induction l with
  | nil => exact Nat.le_refl 0
  | cons a l ih =>
    unfold dropFirst
    split
    · exact Nat.le_succ _
    · simpa using ih

/-! ## Marking, taking, happening -/

@[simp] theorem State.markChanges_tables (s old : State) : (s.markChanges old).tables = s.tables := by
  unfold State.markChanges; split <;> rfl
@[simp] theorem State.markChanges_headA (s old : State) : (s.markChanges old).headA = s.headA := by
  unfold State.markChanges; split <;> rfl
@[simp] theorem State.markChanges_headB (s old : State) : (s.markChanges old).headB = s.headB := by
  unfold State.markChanges; split <;> rfl
@[simp] theorem State.markChanges_engineA (s old : State) : (s.markChanges old).engineA = s.engineA := by
  unfold State.markChanges; split <;> rfl
@[simp] theorem State.markChanges_engineB (s old : State) : (s.markChanges old).engineB = s.engineB := by
  unfold State.markChanges; split <;> rfl
@[simp] theorem State.markChanges_store (s old : State) : (s.markChanges old).store = s.store := by
  unfold State.markChanges; split <;> rfl
@[simp] theorem State.markChanges_track (s old : State) : (s.markChanges old).track = s.track := by
  unfold State.markChanges; split <;> rfl
@[simp] theorem State.markChanges_puller (s old : State) : (s.markChanges old).puller = s.puller := by
  unfold State.markChanges; split <;> rfl
@[simp] theorem State.markChanges_alarms (s old : State) : (s.markChanges old).alarms = s.alarms := by
  unfold State.markChanges; split <;> rfl
@[simp] theorem State.markChanges_ports (s old : State) : (s.markChanges old).ports = s.ports := by
  unfold State.markChanges; split <;> rfl
@[simp] theorem State.markChanges_mgmt (s old : State) : (s.markChanges old).mgmt = s.mgmt := by
  unfold State.markChanges; split <;> rfl
@[simp] theorem State.markChanges_pending (s old : State) : (s.markChanges old).pending = s.pending := by
  unfold State.markChanges; split <;> rfl
@[simp] theorem State.markChanges_page (s old : State) :
    (s.markChanges old).term.page = s.term.page := by
  unfold State.markChanges; split <;> rfl
@[simp] theorem State.markChanges_scroll (s old : State) :
    (s.markChanges old).term.scroll = s.term.scroll := by
  unfold State.markChanges; split <;> rfl
@[simp] theorem State.markChanges_clearPending (s old : State) :
    (s.markChanges old).term.clearPending = s.term.clearPending := by
  unfold State.markChanges; split <;> rfl
@[simp] theorem State.markChanges_screenQueued (s old : State) :
    (s.markChanges old).term.screenQueued = s.term.screenQueued := by
  unfold State.markChanges; split <;> rfl
@[simp] theorem State.markChanges_level (s old : State) :
    (s.markChanges old).term.level = s.term.level := by
  unfold State.markChanges; split <;> rfl
@[simp] theorem State.markChanges_denied (s old : State) :
    (s.markChanges old).term.denied = s.term.denied := by
  unfold State.markChanges; split <;> rfl
@[simp] theorem State.markChanges_refreshPeriod (s old : State) :
    (s.markChanges old).term.refreshPeriod = s.term.refreshPeriod := by
  unfold State.markChanges; split <;> rfl
@[simp] theorem State.markChanges_refreshTimer (s old : State) :
    (s.markChanges old).term.refreshTimer = s.term.refreshTimer := by
  unfold State.markChanges; split <;> rfl

/-! ## Short frames and turns (R170, R178, R189) -/

/-- R182, log 3: a held part takes no short frame. -/
theorem State.settle_held (s : State) (x : Port) (h : s.inReset = true) : s.settle x = s := by
  rw [State.settle, if_pos h]

theorem State.settleUpTo_none (s : State) (x : Port) (n : Nat) (h : s.shortOldest x = none) :
    State.settleUpTo x n s = s := by
  cases n with
  | zero => rfl
  | succ n => simp only [State.settleUpTo, h]

/-- A port whose oldest whole frame spells a command has no short frame due. -/
theorem State.settle_none (s : State) (x : Port) (h : s.shortOldest x = none) : s.settle x = s := by
  unfold State.settle
  split
  · rfl
  · exact s.settleUpTo_none x _ h

/-- The pins matter to the operand of RESET alone, not to whether a frame spells a command. -/
theorem commandOfFrame_isSome (pins : Straps) (x : Port) (f : Sys2Proof.Frame) :
    (commandOfFrame pins x f).isSome = (commandOfFrame strapsAssumed x f).isSome := by
  have hm (l : List Byte) :
      (readManagement pins l).isSome = (readManagement strapsAssumed l).isSome := by
    unfold readManagement
    dsimp only
    split
    · rfl
    · split <;> rfl
  have hu : (readUpstreamFrame pins f).isSome = (readUpstreamFrame strapsAssumed f).isSome := by
    unfold readUpstreamFrame
    dsimp only
    split
    · rfl
    · split
      · rfl
      · split
        · rfl
        · split
          · exact hm _
          · rfl
  unfold commandOfFrame
  split
  · rfl
  · split
    · rfl
    · cases x with
      | u => exact hu
      | _ => rfl

/-- A command in its turn has no short frame before it. -/
theorem State.shortOldest_of_inTurn (s : State) (x : Port) (c : Instr) (h : s.inTurn x c = true) :
    s.shortOldest x = none := by
  simp only [State.inTurn, Bool.and_eq_true] at h
  have h2 := h.2
  simp only [State.shortOldest]
  cases ho : (s.port x).oldest with
  | none => rfl
  | some f =>
    rw [ho] at h2
    have h3 : commandOfFrame (commandPins c) x f = some c := by simpa [spells] using h2
    have h4 := commandOfFrame_isSome (commandPins c) x f
    rw [h3] at h4
    simp only [Option.filter_some]
    cases hc : commandOfFrame strapsAssumed x f with
    | none => rw [hc] at h4; exact absurd h4 (by simp)
    | some d => simp

theorem State.settle_of_inTurn (s : State) (x : Port) (c : Instr) (h : s.inTurn x c = true) :
    s.settle x = s := s.settle_none x (s.shortOldest_of_inTurn x c h)

theorem State.inReset_of_inTurn (s : State) (x : Port) (c : Instr) (h : s.inTurn x c = true) :
    s.inReset = false := by
  simp only [State.inTurn, Bool.and_eq_true, Bool.not_eq_true'] at h
  exact h.1

/-- With no frame waiting on its port, every command of a part that is not held is in its turn. -/
theorem State.inTurn_of_empty (s : State) (x : Port) (c : Instr) (h : s.inReset = false)
    (ho : (s.port x).oldest = none) : s.inTurn x c = true := by
  simp [State.inTurn, h, ho]

/-- What a command does in its turn. -/
theorem State.turn_inTurn (s : State) (x : Port) (c : Instr) (act : State → State)
    (h : s.inTurn x c = true) : s.turn x c act = act s := by
  simp only [State.turn, s.settle_of_inTurn x c h, h, if_true]

/-- R182, log 3: a held part takes no frame. -/
theorem State.turn_held (s : State) (x : Port) (c : Instr) (act : State → State)
    (h : s.inReset = true) : s.turn x c act = s := by
  simp [State.turn, s.settle_held x h, State.inTurn, h]

/-- Out of its turn a command leaves what the short frames that were due leave (log 2). -/
theorem State.turn_out (s : State) (x : Port) (c : Instr) (act : State → State)
    (h : (s.settle x).inTurn x c = false) : s.turn x c act = s.settle x := by
  simp [State.turn, h]

/-- What a command that a frame carries leaves, in its turn. -/
theorem State.taken_inTurn (s : State) (x : Port) (c : Instr) (body : State → State)
    (h : s.inTurn x c = true) : s.taken x c body = (body (s.takeRx x c)).markChanges s :=
  s.turn_inTurn x c _ h

/-- A command in its turn keeps the frame of its block's part, with the ports for the entry it frees. -/
theorem State.taken_frame {l : List Block} (s : State) (x : Port) (c : Instr) (body : State → State)
    (hc : s.inTurn x c = true) (hp : Block.ports ∈ l) (hb : ∀ t, Frame l t (body t)) :
    Frame l s (s.taken x c body) := by
  rw [s.taken_inTurn x c body hc]
  exact (((s.takeRx_frame x c).mono (by simpa using hp)).trans (hb _)).markChanges s

/-- The blocks that a short frame can change. -/
abbrev shortBlocks : List Block := [.headA, .headB, .puller, .term, .ports]

theorem State.denyKey_frame (s : State) (a b c : Byte) : Frame [.term, .ports] s (s.denyKey a b c) := by
  simp [Frame, State.denyKey, State.endKey, State.beginKey, State.send]

theorem State.shortFrame_frame (s : State) (x : Port) (f : Sys2Proof.Frame) :
    Frame shortBlocks s (s.shortFrame x f) := by
  have stray (h : Head) (n : Nat) : Frame shortBlocks s (s.stray h n) :=
    (State.updateHead_frame s h _).mono (by cases h <;> simp [headBlock])
  have send (t : State) (m : Msg) : Frame shortBlocks t (t.send .u m) :=
    (t.send_frame .u m).mono (by simp)
  unfold State.shortFrame
  dsimp only
  split
  · split
    · exact (s.reply_frame _ _ _).mono (by simp)
    · exact Frame.refl _ _
  · split
    · exact (stray .a 1).trans (send _ _)
    · exact stray .a 1
  · split
    · exact (stray .b 1).trans (send _ _)
    · exact stray .b 1
  · exact send s _
  · exact Frame.trans (by simp [Frame, State.strayPull]) (send _ _)
  · exact (s.denyKey_frame _ _ _).mono (by simp)

theorem State.takeShort_frame (s : State) (x : Port) (f : Sys2Proof.Frame) :
    Frame shortBlocks s (s.takeShort x f) :=
  (((s.updatePort_frame x _).mono (by simp)).trans (State.shortFrame_frame _ x f)).markChanges s

/-- R189: what the short frames of a port can change. -/
theorem State.settle_frame (s : State) (x : Port) : Frame shortBlocks s (s.settle x) := by
  have up (n : Nat) : ∀ t : State, Frame shortBlocks t (State.settleUpTo x n t) := by
    induction n with
    | zero => exact fun t => Frame.refl _ t
    | succ n ih =>
      intro t
      unfold State.settleUpTo
      split
      · exact Frame.refl _ t
      · exact (t.takeShort_frame x _).trans (ih _)
  unfold State.settle
  split
  · exact Frame.refl _ _
  · exact up _ s

theorem State.settleAll_frame (s : State) : Frame shortBlocks s s.settleAll :=
  Frame.foldl (fun (t : State) (x : Port) => t.settle x) (fun t x => t.settle_frame x) _ s

/-! ## One step of a rule -/

@[simp] theorem State.happens_tables (s : State) (body : State → State) :
    (s.happens body).tables = (body s).tables := by simp [State.happens]
@[simp] theorem State.happens_headA (s : State) (body : State → State) :
    (s.happens body).headA = (body s).headA := by simp [State.happens]
@[simp] theorem State.happens_headB (s : State) (body : State → State) :
    (s.happens body).headB = (body s).headB := by simp [State.happens]
@[simp] theorem State.happens_engineA (s : State) (body : State → State) :
    (s.happens body).engineA = (body s).engineA := by simp [State.happens]
@[simp] theorem State.happens_engineB (s : State) (body : State → State) :
    (s.happens body).engineB = (body s).engineB := by simp [State.happens]
@[simp] theorem State.happens_store (s : State) (body : State → State) :
    (s.happens body).store = (body s).store := by simp [State.happens]
@[simp] theorem State.happens_track (s : State) (body : State → State) :
    (s.happens body).track = (body s).track := by simp [State.happens]
@[simp] theorem State.happens_puller (s : State) (body : State → State) :
    (s.happens body).puller = (body s).puller := by simp [State.happens]
@[simp] theorem State.happens_alarms (s : State) (body : State → State) :
    (s.happens body).alarms = (body s).alarms := by simp [State.happens]
@[simp] theorem State.happens_ports (s : State) (body : State → State) :
    (s.happens body).ports = (body s).ports := by simp [State.happens]
@[simp] theorem State.happens_mgmt (s : State) (body : State → State) :
    (s.happens body).mgmt = (body s).mgmt := by simp [State.happens]
@[simp] theorem State.happens_pending (s : State) (body : State → State) :
    (s.happens body).pending = (body s).pending := by simp [State.happens]

/-! ## The moves of a TRANSFER -/

/-- R107 steps 2 to 4: the track after the moves, whatever they mark. -/
@[simp] theorem State.moveStrips_track (s : State) : s.moveStrips.track = { s.track with
    exit := s.track.pull
    pull := s.track.bond
    bond := s.track.entry.map fun x => { x with window := 0 }
    entry := none } := by
  cases h : s.track.pull <;>
    simp [State.moveStrips, State.pullToExit, State.bondToPull, State.entryToBond, State.releaseStrip,
      State.releasePins, h]

/-- R107 step 2, R78: of the records, the moves release the pins of the strip that arrives at EXIT. -/
theorem State.moveStrips_store (s : State) : s.moveStrips.store =
    s.track.pull.elim s.store fun x => (s.releaseStrip x.id).store := by
  cases h : s.track.pull <;>
    simp [State.moveStrips, State.pullToExit, State.bondToPull, State.entryToBond, State.releaseStrip,
      State.releasePins, h]

/-! ## The steps of a TRACK-SET -/

/-- All that `Track.setPosition` does. -/
theorem Track.setPosition_eq (t : Track) (k : Nat) (x : Option Strip) :
    t.setPosition k x = { t with
      entry := if k = 0 then x else t.entry
      bond := if k = 1 then x else t.bond
      pull := if k = 2 then x else t.pull
      exit := if 3 ≤ k then x else t.exit } := by
  match k with
  | 0 => rfl
  | 1 => rfl
  | 2 => rfl
  | n + 3 => simp [Track.setPosition]

/-- R112 step 3: what a drop can change. -/
theorem State.dropStrip_frame (s : State) (x : Strip) :
    Frame [.store, .track, .puller, .ports] s (s.dropStrip x) := by
  unfold State.dropStrip
  by_cases h : x.pulling <;>
    simp [Frame, h, State.send, State.releaseStrip, State.releasePins, State.discardPull]

/-- R112 step 4: what the move of an EXISTING strip can change. -/
theorem State.moveExisting_frame (s : State) (m : StripMove) :
    Frame [.store, .track, .puller] s (s.moveExisting m) := by
  unfold State.moveExisting
  split
  · exact Frame.refl _ _
  · by_cases h1 : m.strip.pulling <;> by_cases h2 : m.now = 3 <;>
      simp [Frame, h1, h2, State.releaseStrip, State.releasePins, State.discardPull]

/-- R112 steps 5 and 6: the introduction of a NEW strip and the window column concern the track alone. -/
theorem State.introduce_frame (s : State) (y : PosSpec × Nat) : Frame [.track] s (s.introduce y) := by
  unfold State.introduce
  split <;> simp [Frame]

theorem State.setWindow_frame (s : State) (w : Option Nat) : Frame [.track] s (s.setWindow w) := by
  simp [Frame, State.setWindow]

/-! ## Internal events and requests -/

/-- R179: a management request keeps the frame of its body, with the ports. -/
theorem State.request_frame {l : List Block} (s : State) (c : Instr) (k t : Byte)
    (body : State → State × Reply) (hc : s.inTurn .u c = true) (hp : Block.ports ∈ l)
    (hb : ∀ u, Frame l u (body u).1) : Frame l s (s.request c k t body) :=
  s.taken_frame .u c _ hc hp fun u =>
    (hb u).trans ((State.reply_frame _ k t _).mono (by simpa using hp))

end Sys2Proof.Machine
end

