-- ==== Sys2Proof/Laws/Link.lean ====
section
/-! SUPPORT. Which frame begins next, what the index gate does, and what each operation of the bond link
can change: the copies of a frame, the failure of one, a header and an end, a wake that fails, and STARTED. -/

namespace Sys2Proof.Machine

/-! ## Which frame begins -/

/-- R163: a higher rate has a shorter symbol time. -/
theorem Rate.symbolPs_le (a b : Rate) : a.symbolPs ≤ b.symbolPs ↔ b.index ≤ a.index := by
  cases a <;> cases b <;> decide

/-- R172: the oldest URGENT frame is next. -/
theorem nextPlace_urgent (l : List TxEntry) (k : Nat) (e : TxEntry) (he : l[k]? = some e)
    (hb : ∀ y ∈ l.take k, y.urgent = false) (hu : e.urgent = true) : nextPlace l = some k := by
  have : l.findIdx? (fun e => e.urgent) = some k := by
    rw [List.findIdx?_eq_some_iff_getElem]
    obtain ⟨hk, rfl⟩ := List.getElem?_eq_some_iff.mp he
    refine ⟨hk, hu, fun j hj => ?_⟩
    have := hb l[j] (List.mem_take_iff_getElem.mpr ⟨j, by omega, rfl⟩)
    simp [this]
  simp [nextPlace, this]

/-- R172: with no URGENT frame the oldest one is next. -/
theorem nextPlace_first (l : List TxEntry) (h : l ≠ []) (hu : ∀ y ∈ l, y.urgent = false) :
    nextPlace l = some 0 := by
  have : l.findIdx? (fun e => e.urgent) = none := by
    rw [List.findIdx?_eq_none_iff]; intro y hy; simp [hu y hy]
  simp [nextPlace, this, h]

/-- R171, R172, R174: `kick` begins the frame that is next. -/
theorem PortRec.kick_begins (p : PortRec) (r : Rate) : NextBegins r p (p.kick r) := by
  by_cases h : p.state = .live ∧ p.hoReceived = false ∧ p.control = [] ∧ ∀ e ∈ p.tx, e.begun = false
  · have h' : p.state = .live ∧ p.hoReceived = false ∧ p.control = [] ∧
        p.tx.all (fun e => !e.begun) = true := by simpa using h
    rw [NextBegins, if_pos h]
    refine ⟨fun h0 => by simp [PortRec.kick, h0, nextPlace], fun k hk e he hb hu => ?_⟩
    have hp : nextPlace p.tx = some k := by
      rcases hu with hu | ⟨rfl, hu⟩
      · exact nextPlace_urgent _ k e he hb hu
      · exact nextPlace_first _ (by intro h0; simp [h0] at hk) hu
    have hm : mayBegin r p e = true ↔ e.isArriving = false ∨ r.symbolPs ≤ p.rate.symbolPs := by
      rw [Rate.symbolPs_le]
      unfold mayBegin TxEntry.isArriving
      cases e.msg <;> simp
    have he' : p.tx[k]? = some e := he
    simp only [PortRec.kick, if_pos h', hp, he', hm]
    split <;> rfl
  · have h' : ¬(p.state = .live ∧ p.hoReceived = false ∧ p.control = [] ∧
        p.tx.all (fun e => !e.begun) = true) := by simpa using h
    rw [NextBegins, if_neg h, PortRec.kick, if_neg h']

/-- R166, R171, R172: all that `kick` changes of a port: where a frame begins, the sleep timer stops. -/
theorem PortRec.kick_changes (p : PortRec) (r : Rate) : p.kick r = { p with
    tx := (p.kick r).tx
    sleepTimer := p.sleepTimer && decide ((p.kick r).tx = p.tx) } := by
  obtain h | ⟨k, e, -, he, -, -, -, -, hb, h⟩ := p.kick_eq r
  · simp [h]
  · have hk : p.tx.set k { e with begun := true } ≠ p.tx := by
      intro h0
      obtain ⟨hl, rfl⟩ := List.getElem?_eq_some_iff.mp he
      have h1 := congrArg (fun l : List TxEntry => l[k]?) h0
      have hf : p.tx[k].begun = false := by
        simpa using List.all_eq_true.mp hb p.tx[k] (List.getElem_mem hl)
      simp only [List.getElem?_set_self hl, List.getElem?_eq_getElem hl, Option.some.injEq] at h1
      rw [← h1] at hf
      simp at hf
    rw [h]; simp [hk]

/-- R166: all that `rest` changes of a port. -/
theorem PortRec.rest_changes (p : PortRec) : p.rest = { p with
    sleepTimer := p.sleepTimer ||
      decide (p.state = .live ∧ p.tx = [] ∧ p.control = [] ∧ p.receiving = none) } := by
  unfold PortRec.rest
  split
  · next h => simp [h]
  · next h => simp only [h, decide_false, Bool.or_false]

/-- Which frame begins is a matter of the transmit queue alone. -/
theorem NextBegins.of_tx {r : Rate} {p q q' : PortRec} (h : NextBegins r p q) (ht : q'.tx = q.tx) :
    NextBegins r p q' := by
  unfold NextBegins at *
  rwa [ht]

/-- R174: what the failure of the inbound frame leaves of a port with its copies. -/
theorem PortRec.poisonCopies_spec (p : PortRec) (r : Rate) : CopiesPoisoned r p (p.poisonCopies r) := by
  unfold CopiesPoisoned PortRec.poisonCopies
  dsimp only
  split
  · rfl
  · have begins := (PortRec.kick_begins { p with
      tx := p.tx.filter fun e => !e.isArriving
      count := p.count.addPoisoned (p.tx.filter TxEntry.isArriving).length } r).of_tx (PortRec.rest_tx _)
    refine ⟨begins, ?_⟩
    rw [PortRec.rest_changes, PortRec.kick_changes]
    rfl

/-- R174: what the good end of the inbound frame leaves of a port with its copies. -/
theorem PortRec.completeCopies_spec (p : PortRec) (r : Rate) (l : List Byte) :
    let whole : PortRec := { p with tx := p.tx.map fun e => match e.msg with
      | .arriving h => { e with msg := .forwarded ⟨h.dst, h.src, h.kind, l⟩ }
      | _ => e }
    NextBegins r whole (p.completeCopies r l) ∧ p.completeCopies r l = { whole with
      tx := (p.completeCopies r l).tx
      sleepTimer := p.sleepTimer && decide ((p.completeCopies r l).tx = whole.tx) } :=
  ⟨PortRec.kick_begins _ r, PortRec.kick_changes _ r⟩

/-! ## The index gate -/

theorem any_zipIdx {α : Type} (l : List α) (f : α → Bool) (n : Nat) :
    ((l.zipIdx n).any fun y => f y.1) = l.any f := by
  induction l generalizing n with
  | nil => rfl
  | cons a l ih => simp [List.zipIdx_cons, ih]

/-- R97, R98: the blocking reasons, for both kinds at once. -/
theorem State.blockingReasons_eq (s : State) (k : IndexKind) :
    s.blockingReasons k = ⟨
      s.track.bond.any fun x => x.units.zipIdx.any fun y =>
        (k == .transfer || s.tables.inWindow x y.2) && y.1.state.isClaim,
      k == .transfer && s.track.pull.any fun x => x.pullState == .waiting || x.pullState == .ordered,
      k == .transfer && s.track.exit.isSome && s.track.magOut.state != .ready⟩ := by
  cases k with
  | step =>
    have : (IndexKind.step == IndexKind.transfer) = false := rfl
    simp only [State.blockingReasons, this, Bool.false_and, Bool.false_or]
    cases s.track.bond <;> rfl
  | transfer =>
    simp only [State.blockingReasons]
    cases s.track.bond <;> cases s.track.pull <;> simp [any_zipIdx _ fun r : UnitRecord => r.state.isClaim]

theorem GateReasons.empty_iff (r : GateReasons) : r.empty = true ↔ r = ⟨false, false, false⟩ := by
  cases r; simp [GateReasons.empty, and_assoc]

/-- R103, R172: port IX has room for an INDEX. -/
theorem PortRec.hasRoom_ix (p : PortRec) : p.hasRoom .ix false = decide (p.tx.length < 8) :=
  Bool.and_true _

/-- R100, R103: what the judging of a held request does. -/
theorem State.releaseGate_judges (s : State) : GateJudged id s s.releaseGate := by
  refine ⟨fun h => by simp [State.releaseGate, h], fun q hq => ?_⟩
  have hq : s.track.held = some q := hq
  simp only [← State.blockingReasons_eq]
  by_cases h : s.blockingReasons q.kind = ⟨false, false, false⟩
  · rw [if_neg (not_not.mpr h)]
    simp only [State.releaseGate, hq, if_pos ((GateReasons.empty_iff _).mpr h), State.forwardIndex]
    have hp (d : Track) : State.port { s with track := d } .ix = s.port .ix := rfl
    by_cases room : (s.port .ix).tx.length < 8 <;> cases q.kind <;>
      simp [hp, room, PortRec.hasRoom_ix, State.send, Track.orderedIn, Track.orderedOut]
  · rw [if_pos h]
    simp [State.releaseGate, hq, mt (GateReasons.empty_iff _).mp h]

/-! ## What arrives -/

/-- The blocks that a raised or an ended alarm can change. -/
abbrev alarmBlocks : List Block := [.headA, .headB, .track, .alarms, .term, .ports]

/-- A choice of two operations keeps the frame that both keep. -/
theorem Frame.ite {l : List Block} {c : Prop} [Decidable c] {s t u : State} (ht : Frame l s t)
    (hu : Frame l s u) : Frame l s (if c then t else u) := by
  split
  · exact ht
  · exact hu

theorem State.poisonCopies_frame (s : State) : Frame [.ports] s s.poisonCopies := by
  simp [Frame, State.poisonCopies]

theorem State.completeCopies_frame (s : State) (l : List Byte) :
    Frame [.ports] s (s.completeCopies l) := by
  simp [Frame, State.completeCopies]

/-- R162, R174: a frame that is abandoned leaves the ports changed alone. -/
theorem State.abandonFrame_frame (s : State) (x : Port) : Frame [.ports] s (s.abandonFrame x) := by
  unfold State.abandonFrame
  dsimp only
  split
  · exact (s.updatePort_frame x _).trans (State.poisonCopies_frame _)
  · exact s.updatePort_frame x _

/-- R177: a count may raise the line alarm of its port. -/
theorem State.countError_frame (s : State) (x : Port) (f : Counters → Counters) :
    Frame alarmBlocks s (s.countError x f) := by
  have h := (s.updatePort_frame x fun p => { p with count := f p.count }).mono
    (m := alarmBlocks) (by simp)
  unfold State.countError
  dsimp only
  split
  · exact h.trans ((State.raise_frame _ _ _).mono (by simp))
  · exact h

theorem State.failFrame_frame (s : State) (x : Port) (f : Counters → Counters) :
    Frame alarmBlocks s (s.failFrame x f) :=
  ((s.abandonFrame_frame x).mono (by simp)).trans (State.countError_frame _ x f)

/-- R162: a frame that a header cuts off fails, unless it had its count already. -/
theorem State.cutOff_frame (s : State) (x : Port) : Frame alarmBlocks s (s.cutOff x) := by
  unfold State.cutOff
  split
  · exact Frame.refl _ _
  · split
    · exact Frame.refl _ _
    · exact (s.failFrame_frame x _).trans ((State.updatePort_frame _ x _).mono (by simp))

/-- R162, R170, R173: what a header can change. -/
theorem State.receiveHeader_frame (s : State) (x : Port) (h : Header) :
    Frame alarmBlocks s (s.receiveHeader x h) := by
  have port (t : State) (f : PortRec → PortRec) : Frame alarmBlocks t (t.updatePort x f) :=
    (t.updatePort_frame x f).mono (by simp)
  have start := (s.cutOff_frame x).trans (port (s.cutOff x) fun p => { p with sleepTimer := false })
  unfold State.receiveHeader
  split
  · exact Frame.refl _ _
  · dsimp only
    split
    · exact (start.trans (port _ _)).trans (State.countError_frame _ x _)
    · split
      · exact start.trans (port _ _)
      · exact ((start.trans (port _ _)).trans (Frame.ite (port _ _) (Frame.refl _ _))).trans
          (Frame.foldl _ (fun t y => (t.send_frame y _).mono (by simp)) _ _)

/-- R185: a good frame on port U ends the condition of LINK-LOSS. -/
theorem State.supervise_frame (s : State) : Frame (.mgmt :: alarmBlocks) s s.supervise := by
  unfold State.supervise
  exact Frame.trans (by simp [Frame]) ((State.conditionGone_frame _ _ _).mono (by simp))

theorem State.storeFrame_frame (s : State) (x : Port) (f : Sys2Proof.Frame) :
    Frame [.ports] s (s.storeFrame x f) := s.updatePort_frame x _

theorem State.goodFrame_frame (s : State) (x : Port) (r : Receiving) (l : List Byte) :
    Frame (.mgmt :: alarmBlocks) s (s.goodFrame x r l) := by
  have port (t : State) (f : PortRec → PortRec) : Frame (.mgmt :: alarmBlocks) t (t.updatePort x f) :=
    (t.updatePort_frame x f).mono (by simp)
  have sup : Frame (.mgmt :: alarmBlocks) s
      (if x = .u ∧ isLinkControl r.hdr.kind = false then
        (s.updatePort x fun p => { p with receiving := none }).supervise
      else s.updatePort x fun p => { p with receiving := none }) :=
    Frame.ite ((port _ _).trans (State.supervise_frame _)) (port _ _)
  unfold State.goodFrame
  dsimp only
  cases r.fate with
  | stored => exact sup.trans ((State.storeFrame_frame _ x _).mono (by simp))
  | passing => exact (sup.trans (port _ _)).trans ((State.completeCopies_frame _ l).mono (by simp))
  | dropped => exact sup
  | overrun => exact sup
  | passedOver => exact sup

/-- R162: what the end of a frame can change. -/
theorem State.receiveEnd_frame (s : State) (x : Port) (tail : List Bool) :
    Frame (.mgmt :: alarmBlocks) s (s.receiveEnd x tail) := by
  have port (t : State) (f : PortRec → PortRec) : Frame (.mgmt :: alarmBlocks) t (t.updatePort x f) :=
    (t.updatePort_frame x f).mono (by simp)
  have fails (f : Counters → Counters) : Frame (.mgmt :: alarmBlocks) s (s.failFrame x f) :=
    (s.failFrame_frame x f).mono (by simp)
  unfold State.receiveEnd
  split
  · exact Frame.refl _ _
  · refine Frame.trans ?_ (port _ _)
    split
    · exact (s.countError_frame x _).mono (by simp)
    · split
      · exact port _ _
      · split
        · exact s.goodFrame_frame x _ _
        · exact fails _
        · exact fails _
        · exact fails _

theorem State.toldQuiet_frame (s : State) (x : Port) : Frame [.ports] s (s.toldQuiet x) := by
  unfold State.toldQuiet
  split
  · exact s.pullWake_frame
  · exact Frame.refl _ _

/-- R164, R165: a wake that fails changes ports alone. -/
theorem State.wakeFailed_frame (s : State) (x : Port) (o : WakeOrigin) :
    Frame [.ports] s (s.wakeFailed x o) :=
  ((s.abandonFrame_frame x).trans (State.updatePort_frame _ x _)).trans (State.toldQuiet_frame _ x)

/-- R188: STARTED is queued once after a reset. -/
theorem State.startedOnce_frame (s : State) : Frame [.ports, .mgmt] s s.startedOnce := by
  unfold State.startedOnce
  split <;> simp [Frame]

end Sys2Proof.Machine
end

