-- ==== Sys2Proof/Machine/Frames.lean ====
section
/-! DEFINITION. The frames that the part builds as bytes: the kind codes of 11 TABLE 2 and the
payload layouts that chapter 11 gives (TABLES 5 to 8, 12, 14, 16, 22 to 24). Kinds for which the
chapter gives no payload layout have none here (log 17). -/

namespace Sys2Proof.Machine

def b8 (n : Nat) : Byte := BitVec.ofNat 8 n
def be16 (n : Nat) : List Byte := bytes16 (BitVec.ofNat 16 n)
def be24 (z : Int) : List Byte := bytes24 (BitVec.ofInt 24 z)
def be32 (n : Nat) : List Byte := bytes32 (BitVec.ofNat 32 n)
def signedBe16 (z : Int) : List Byte := bytes16 (BitVec.ofInt 16 z)

/-- 11 TABLE 3. -/
def headCode : Head → Byte
  | .a => 0
  | .b => 1

def bondKindCode : BondKind → Byte
  | .ball => 0
  | .stitch => 1

def classCode : BondClass → Byte
  | .good => 0
  | .weak => 1
  | .overBond => 2
  | .nonstick => 3
  | .noData => 4
  | .aborted => 5

def pullModeCode : PullMode → Byte
  | .ballLift => 0
  | .ballNeck => 1
  | .midSpan => 2
  | .heel => 3
  | .stitchLift => 4

def verdictCode : Verdict → Byte
  | .pass => 0
  | .fail => 1
  | .noResult => 2

def indexKindCode : IndexKind → Byte
  | .step => 0
  | .transfer => 1

/-- 11 TABLE 23. -/
def reasonCode : Reason → Byte
  | .unknownTable => 1
  | .range => 2
  | .inUse => 3
  | .inconsistent => 4
  | .invalid => 5
  | .busy => 6
  | .notRunning => 7
  | .portDown => 8
  | .held => 9
  | .moving => 10
  | .noStrip => 11
  | .strip => 12
  | .unitRange => 13
  | .unitClosed => 14
  | .claimed => 15
  | .otherUnit => 16
  | .outOfOrder => 17
  | .phase => 18
  | .table => 19
  | .noBall => 20
  | .queueFull => 21
  | .unknown => 22
  | .stopped => 23
  | .empty => 24
  | .endOfStrip => 25
  | .unitsOpen => 26
  | .timedOut => 27

/-- 11 TABLE 22: the outcome and the reason byte, 0 when the outcome is not REFUSED. -/
def replyBytes : Reply → List Byte
  | .accepted => [0, 0]
  | .clamped => [1, 0]
  | .refused r => [2, reasonCode r]
  | .cancelled => [3, 0]

/-- 11 TABLE 5: four slots; the unused ones are sent as 0 (R190). -/
def segmentSlots (l : List Segment) : List Byte :=
  (List.range 4).flatMap fun j =>
    let x := l.getD j ⟨0, 0⟩
    be16 x.level ++ be16 x.duration

def optSlotByte : Option Nat → Byte
  | none => 0
  | some n => b8 n

def bitAt (k : Nat) (x : Bool) : Nat := if x then 2 ^ k else 0

/-- 11 TABLE 7: a fetched bond record, 36 bytes. -/
def bondRecordBytes (r : BondRecord) : List Byte :=
  [0] ++ be32 r.number ++ be32 r.time ++
  [b8 (bitAt 0 (r.head == .b) + bitAt 1 (r.kind == .stitch) + bitAt 2 r.pinned +
       bitAt 3 r.efo.isSome + bitAt 4 r.pullRef.isSome)] ++
  be16 r.strip ++ [b8 r.unit, b8 r.wire, b8 r.program, b8 r.attempt, classCode r.cls] ++
  be24 r.energy ++ be16 r.peak ++ be16 r.peakIndex ++ be16 r.deformation ++ be16 r.n ++
  [b8 r.missing, b8 r.flags.bits] ++ be16 (r.efo.getD 0) ++ be32 (r.pullRef.getD 0)

/-- 11 TABLE 8: a fetched pull record, 27 bytes. -/
def pullRecordBytes (r : PullRecord) : List Byte :=
  [0] ++ be32 r.number ++ be32 r.time ++ be16 r.strip ++
  [b8 r.unit, b8 r.wire, b8 r.loop, verdictCode r.verdict, headCode r.head,
   r.mode.elim 0xFF pullModeCode] ++
  be16 (r.force.getD 0) ++ be32 r.ballRecord ++ be32 r.stitchRecord

def bondItemBytes : BondItem → List Byte
  | .record r => bondRecordBytes r
  | .gone n => [1] ++ be32 n
  | .notYet n => [2] ++ be32 n

def pullItemBytes : PullItem → List Byte
  | .record r => pullRecordBytes r
  | .gone n => [1] ++ be32 n
  | .notYet n => [2] ++ be32 n

/-- 11 TABLE 24, from offset 3. -/
def traceAnswerBytes : TraceAnswer → List Byte
  | .entries t place shown =>
    [b8 shown.length, 0] ++ be32 t.record ++ [classCode t.cls, b8 t.entries.length, b8 place] ++
    shown.flatMap fun e =>
      be16 e.position ++ signedBe16 e.v ++ signedBe16 e.i ++ be16 e.z ++ [if e.beyond then 1 else 0]
  | .gone n => [0, 1] ++ be32 n
  | .notYet n => [0, 2] ++ be32 n

/-- 11 TABLE 2: the kind code of a frame in a transmit queue. -/
def msgKind : Msg → Byte
  | .bondOrder .. => 0x02
  | .abort => 0x04
  | .bondRefused .. => 0x05
  | .bondReport .. => 0x06
  | .index .. => 0x20
  | .indexRefused .. => 0x21
  | .freeze => 0x23
  | .stripReport .. => 0x34
  | .pullOrder .. => 0x30
  | .pullReport .. => 0x33
  | .screenClear .. => 0x40
  | .screenUpdate .. => 0x41
  | .keyNote .. => 0x43
  | .alarmNote .. => 0x50
  | .started .. => 0x51
  | .controlReply .. => 0x61
  | .readReply .. => 0x62
  | .bondReply .. => 0x63
  | .pullReply .. => 0x63
  | .traceReply .. => 0x63
  | .forwarded f => f.kind
  | .arriving h => h.kind

/-- The payload of a frame, for the kinds whose layout chapter 11 gives. -/
def msgPayload : Msg → Option (List Byte)
  | .bondOrder k force us window record => some <|
      [bondKindCode k, b8 force.length, b8 us.length] ++ segmentSlots force ++ segmentSlots us ++
      be16 window ++ be32 record
  | .abort => some []
  | .bondRefused h strip u w r => some ([h] ++ bytes16 strip ++ [u, w, reasonCode r])
  | .bondReport n h u w k c energy d flags => some <|
      be32 n ++ [headCode h, b8 u, b8 w, bondKindCode k, classCode c] ++ be24 energy ++ be16 d ++
      [b8 flags.bits]
  | .index k i o => some [indexKindCode k, optSlotByte i, optSlotByte o]
  | .indexRefused k r => some [indexKindCode k, reasonCode r]
  | .freeze => some []
  | .pullOrder strip tasks => some <|
      be16 strip ++ [b8 tasks.length] ++ tasks.flatMap fun t => [b8 t.1, b8 t.2.1, b8 t.2.2]
  | .keyNote c x y o => some [c, x, y, if o = .done then 0 else 1]
  | .controlReply k t r => some ([k, t] ++ replyBytes r)
  | .bondReply t items => some ([2, t, 0, b8 items.length] ++ items.flatMap bondItemBytes)
  | .pullReply t items => some ([2, t, 2, b8 items.length] ++ items.flatMap pullItemBytes)
  | .traceReply t a => some ([2, t, 1] ++ traceAnswerBytes a)
  | .forwarded f => some f.payload
  | .stripReport .. => none
  | .pullReport .. => none
  | .screenClear .. => none
  | .screenUpdate .. => none
  | .alarmNote .. => none
  | .started .. => none
  | .readReply .. => none
  | .arriving .. => none

/-- R170: a link control frame: source the own address, destination 0xFF, no payload. -/
def linkControlFrame (own : Byte) : LinkControl → Sys2Proof.Frame
  | .holdOff => ⟨0xFF, own, 0x7E, []⟩
  | .go => ⟨0xFF, own, 0x7F, []⟩

end Sys2Proof.Machine
end

