-- ==== Sys2Proof/Tests/Slice0.lean ====
section
/-! SUPPORT. Tests: ill-formed commands are refused by WellFormed, frames written out from chapter 11
decode, single steps give what the spec's tables and worked examples say, and for every obligation
with hypotheses a concrete state and operands meet them. -/

open Sys2Proof Sys2Proof.Machine

namespace Sys2Proof.Tests

-- One theorem after another: a thread for each would ask for more memory than the check allows.
set_option Elab.async false

/-! ## Ill-formed commands -/

def env : Envelope := ⟨0xE0, 0x20, []⟩
def longEnv : Envelope := ⟨0xE0, 0x20, List.replicate 96 0⟩

theorem test_wf_reset_level : Instr.wf (.powerOnReset strapsAssumed 2849) = false := by decide
theorem test_wf_reset_level_met : Instr.wf (.powerOnReset strapsAssumed 2850) = true := by decide
theorem test_wf_supply_reset : Instr.wf (.supplyReset strapsAssumed 2849) = false := by decide
theorem test_wf_below_reset : Instr.wf (.supplyBelowResetLevel 2850) = false := by decide
theorem test_wf_below_retention : Instr.wf (.supplyBelowRetentionLevel 1500) = false := by decide
theorem test_wf_training : Instr.wf (.wakeTrainingReceived .u [1, 2, 3]) = false := by decide
theorem test_wf_far_training : Instr.wf (.farEndWake .u (some [])) = false := by decide
theorem test_wf_forwarded_port : Instr.wf (.downstreamFrameForwarded .u ⟨0, 0, 0x55, []⟩) = false := by decide
theorem test_wf_forwarded_read : Instr.wf (.downstreamFrameForwarded .pt ⟨0, 0, 0x31, []⟩) = false := by
  decide
theorem test_wf_envelope : (Instr.wf (.touchdown .a longEnv 0 0) || Instr.wf (.lift .a longEnv) ||
    Instr.wf (.aborted .a longEnv) || Instr.wf (.headFault .a longEnv 0) ||
    Instr.wf (.efoStart .a longEnv 0) || Instr.wf (.efoEnd .a longEnv 0) ||
    Instr.wf (.indexDoneTransfer longEnv 0 0) || Instr.wf (.jam longEnv 0) ||
    Instr.wf (.magInLoaded longEnv 0) || Instr.wf (.magInRemoved longEnv) ||
    Instr.wf (.magOutLoaded longEnv 0) || Instr.wf (.magOutRemoved longEnv) ||
    Instr.wf (.pullResult longEnv 0 0 0 0 0) || Instr.wf (.pullAbort longEnv 0)) = false := by decide
theorem test_wf_stray : Instr.wf (.strayEvent .a env 5) = false := by decide
theorem test_wf_samples : Instr.wf (.sample .a 0 (List.replicate 16 ⟨0, 0, 0⟩)) = false := by decide
theorem test_wf_index_done : Instr.wf (.indexDoneStep env 1 0 0) = false := by decide
theorem test_wf_key : Instr.wf (.keyUnknown 8) = false := by decide
theorem test_wf_refused : Instr.wf (.managementRequestRefused 3 0 23) = false := by decide
theorem test_wf_plan : Instr.wf (.tableWritePullPlan 0 0 (.put ⟨0, 0, [], 0, [], 0⟩)) = false := by decide
theorem test_wf_run : Instr.wf (.tableWriteMapEntries 0 0 (.put (0, 1, []))) = false := by decide
theorem test_wf_program : Instr.wf (.tableWriteProgram 0 0 (.put (readProgramBody []))) = true := by decide
theorem test_wf_program_short : Instr.wf (.tableWriteProgram 0 0
    (.put { readProgramBody [] with us := [] })) = false := by decide
theorem test_wf_unknown_table : Instr.wf (.tableWriteUnknownTable 0 7) = false := by decide
theorem test_wf_unknown_read : Instr.wf (.tableReadUnknownTable 0 12) = false := by decide
theorem test_wf_unknown_store : Instr.wf (.recordFetchUnknownStore 0 2) = false := by decide
theorem test_wf_ack : Instr.wf (.alarmAck 0 0xFF 0) = false := by decide

/-! ## Small states -/

/-- The state after a command. -/
def after (c : Instr) (s : State) : State :=
  match exec c s with
  | .next t => t
  | .fault _ => s
  | .refused _ => s

def ballProgram : Program :=
  { kind := .ball, force := [⟨100, 10⟩], us := [⟨5, 6⟩], window := 3, eMin := 0, eMax := 1000000
    dNonstick := 10, dMin := 20, dMax := 200, iPeakMax := 6000, efo := some ⟨300, 420, 5⟩
    rebond := 1, weakRun := 2, strict := false }

def stitchProgram : Program := { ballProgram with kind := .stitch, efo := none }

/-- Program 4 for balls, 5 for stitches, one wire, and device type 2 of two columns and two rows. -/
def tables : Tables := { Tables.initial with
  programs := (Tables.initial.programs.set 4 (some ballProgram)).set 5 (some stitchProgram)
  devices := Tables.initial.devices.set 2 (some ⟨2, 2, 3⟩)
  maps := Tables.initial.maps.set 3 ⟨1, ⟨4, 5, 0, false⟩ :: List.replicate 255 Slot.cleared⟩ }

def unit0 : UnitRecord := ⟨.pending, some 0, .ballDue, 0, 0, 0, 0⟩
def strip : Strip := ⟨65, 2, 0, List.replicate 4 unit0, false, .none, 0, 0⟩
def openPort : PortRec := { PortRec.afterReset true true .r25 with state := .live }
def openPorts : Ports := ⟨openPort, openPort, openPort, openPort, openPort, openPort⟩
def idleHead : HeadCtx :=
  { HeadCtx.initial with state := .idle, efo := .passed, efoDuration := some 350
                         holds := ⟨false, false, false, false⟩ }

/-- A part in RUN with a KNOWN track, a strip at BOND, idle heads, live ports and no alarm. -/
def ready : State := { State.reset with
  tables := tables
  headA := idleHead
  headB := idleHead
  track := { Track.initial with
    known := true, bond := some strip, inputType := 2, taken := 1
    magIn := ⟨.ready, 40, List.replicate 40 .unreached, 2⟩
    magOut := ⟨.ready, 40, List.replicate 40 .free, 1⟩ }
  alarms := Alarms.initial
  ports := openPorts
  mgmt := { Mgmt.initial with run := true, started := true } }

/-- `ready` with the ball bond of unit 1 of head A accepted. -/
def armed : State := after (.bondStart 0 65 1 0 0) ready

/-- `armed` with its window open from z 1000. -/
def inBond : State := after (.touchdown .a env 1000 7) armed

def aborting : State := after (.bondAbort 0) inBond

/-- `ready` with no unit open and a TRANSFER in flight. -/
def moving : State := after (.indexTransfer true) ready

/-- `ready` with a STEP in flight. -/
def stepping : State := after (.indexStep true) ready

/-- `ready` with a claimed unit, so that an index request is held. -/
def holding : State := after (.indexStep true) armed

def task : Task := ⟨0, 0, 0, 1, .a, 2, .b, none⟩

/-- `ready` with a pull of one task ordered at PULL. -/
def pulling : State := { ready with
  track := { ready.track with
    pull := some { strip with id := 64, pullDue := true, pullState := .ordered }, taken := 2 }
  puller := { Puller.initial with
    current := some ⟨64, 2, [task], 3, false⟩, ordersQueued := 1, timer := some 60 } }

/-- `pulling` before its order is queued. -/
def awaiting : State := { pulling with
  track := { pulling.track with pull := some { strip with id := 64, pullDue := true, pullState := .waiting } }
  puller := { pulling.puller with ordersQueued := 0, timer := none } }

/-- `ready` with TEST listed, and the same acknowledged or cleared where its class allows it. -/
def alarmed (c : AlarmClass) (o : AlarmObject) : State := ready.raise c o

/-- One port of `ready` with another record. -/
def withPort (x : Port) (p : PortRec) : State := ready.updatePort x fun _ => p

def quietPort : PortRec := { openPort with state := .quiet }
def downPort : PortRec := PortRec.afterReset true false .r25
def receivingPort (h : Header) (f : RxFate) : PortRec :=
  { openPort with rx := [⟨h, none⟩], receiving := some ⟨h, f⟩ }

/-- `ready` with the frames of these commands in the receive queue of port `x`, the first the oldest. -/
def standing (x : Port) (l : List Instr) : State := withPort x { openPort with
  rx := (l.filterMap frameOf).map fun y =>
    ⟨⟨y.2.dst, y.2.src, y.2.kind, BitVec.ofNat 8 y.2.payload.length⟩, some y.2.payload⟩ }

/-- A whole frame whose payload is shorter than its kind needs. -/
def shortEntry (kind : Byte) : RxEntry := ⟨⟨0xE0, 0x20, kind, 0⟩, some []⟩

/-- `ready` with an UNKNOWN track. -/
def unknown : State := { ready with track := { ready.track with known := false } }

/-- Position entries of a TRACK-SET. -/
def emptyEntry : PosEntry := ⟨0, 0, 0, 0⟩
def newEntry : PosEntry := ⟨2, 7, 2, 1⟩
def listEntry (id : W16) : PosEntry := ⟨1, id, 0, 0⟩

def boundRecord (number unit : Nat) (k : BondKind) (h : Head) : BondRecord :=
  { bondRecordOf 0 h ⟨4, k, number, 65, unit, 0, 0, none⟩ (inBond.engineA.figures true) false false with
    cls := .good, pinned := true }

/-- `moving` with a pull-due strip at BOND whose unit 0 is DONE, with its pair pinned, and whose unit 1 is
not, over a plan that selects both. -/
def pullDue : State := { moving with
  tables := { moving.tables with plans := moving.tables.plans.set 2 ⟨1, [0, 1], [0], 1⟩ }
  track := { moving.track with bond := some { strip with
    pullDue := true, units := strip.units.set 0 { unit0 with state := .done } } }
  store := { moving.store with nextRecord := 5, records := [boundRecord 1 0 .ball .a,
    boundRecord 2 0 .stitch .b, boundRecord 3 1 .ball .a, boundRecord 4 1 .stitch .b] } }

/-! ## Reset -/

theorem test_reset_command : after (.powerOnReset strapsAssumed 3300) State.reset = State.reset := by
  decide +kernel
theorem test_reset_heads_offline : State.reset.headA.state = .offline := by decide
theorem test_no_word_spells_a_command : decodeTableWord 32 0 = none := by decide
theorem test_straps_set_the_own_address :
    (after (.powerOnReset ⟨5, true, false⟩ 3300) State.reset).mgmt.own = 0xE5 := by decide +kernel
/-- R187: the first strap high and the second low give 12.5 Mbit/s. -/
theorem test_straps_set_the_rate :
    (after (.powerOnReset ⟨5, true, false⟩ 3300) State.reset).ports.u.rate = .r12 := by decide +kernel
/-- R184: after 4,294,967,295 the part time is 0. -/
theorem test_part_time_wraps : (after .partTimeTick
    { State.reset with mgmt := { Mgmt.initial with time := 4294967295 } }).mgmt.time = 0 := by
  decide +kernel

/-! ## Frames written out from chapter 11 -/

theorem test_bond_start_frame : commandOfFrame strapsAssumed .u
    ⟨0xE0, 0x01, 0x01, [1, 0x01, 0x43, 7, 9, 1]⟩ = some (.bondStart 1 0x0143 7 9 1) := by decide
theorem test_index_frame : commandOfFrame strapsAssumed .u ⟨0xE0, 0x01, 0x20, [0, 1]⟩ =
    some (.indexStep true) := by decide
theorem test_key_frame : commandOfFrame strapsAssumed .ot ⟨0xE0, 0x60, 0x42, [0, 5, 0]⟩ =
    some (.keyPage 5) := by decide
theorem test_short_frame : commandOfFrame strapsAssumed .u ⟨0xE0, 0x01, 0x01, [1, 0x01]⟩ = none := by
  decide
theorem test_line_good : judgeTail ⟨0xE0, 0x01, 0x03, 1⟩ (goodTail ⟨0xE0, 0x01, 0x03, [0xFF]⟩) =
    .good [0xFF] := by decide +kernel
/-- The published check value of this CRC over "123456789" is 906E, sent least significant bit first. -/
theorem test_crc_check_value :
    crc16 [0x31, 0x32, 0x33, 0x34, 0x35, 0x36, 0x37, 0x38, 0x39] = 0x7609#16 := by decide +kernel
theorem test_line_crc : judgeTail ⟨0xE0, 0x01, 0x03, 1⟩ (goodTail ⟨0xE1, 0x01, 0x03, [0xFF]⟩) = .crc := by
  decide +kernel

/-- 11 TABLE 6: energy -2 is FF FF FE; LIMIT and ABORT-LATE are bits 0 and 3. -/
theorem test_bond_report_bytes : msgPayload (.bondReport 258 .b 7 9 .stitch .good (-2) 80
    ⟨true, false, false, true, false⟩) =
    some [0, 0, 1, 2, 1, 7, 9, 1, classCode .good, 0xFF, 0xFF, 0xFE, 0, 80, 9] := by decide +kernel
theorem test_bond_refused_bytes : msgPayload (.bondRefused 2 0x0143 1 0 .portDown) =
    some [2, 1, 0x43, 1, 0, 8] := by decide +kernel

/-! ## The worked cases of chapter 3 -/

/-- Case 1: the limits of program 4, the touchdown and the five samples of TABLE 1. -/
def case1 : Engine :=
  ((Engine.initial.arm ⟨.ball, 4000, 3000, 8388607, 40, 60, 200, 6000, false, 3⟩).openWindow 12010 17).takeFrame 17
    [⟨4000, 2500, 12000⟩, ⟨4100, 2600, 11990⟩, ⟨4200, -2750, 11960⟩, ⟨4150, 2650, 11940⟩,
     ⟨4050, 2550, 11930⟩]

theorem test_case1_accumulators : (case1.n, case1.energy, case1.peak, case1.peakIndex, case1.zMin,
    case1.expected) = (5, 30435000, 2750, 3, 11930, 22) := by decide +kernel
theorem test_case1_figures : ((case1.figures true).energy, (case1.figures true).deformation,
    (case1.figures true).cls) = (7430, 80, .good) := by decide +kernel
/-- Case 2: two samples are lost before the second frame. -/
theorem test_case2_gap : (case1.takeFrame 24 [⟨0, 0, 0⟩, ⟨0, 0, 0⟩, ⟨0, 0, 0⟩]).missing = 2 := by
  decide +kernel
/-- R60: halves go to the even integer, for negative sums too. -/
theorem test_halves_to_even : (roundEnergy (-10240), roundEnergy (-14336), roundEnergy 6144) =
    (-2, -4, 2) := by decide
theorem test_clamp_edge : (energyLimit (8388607 * 4096), energyLimit (8388608 * 4096)) =
    (false, true) := by decide


/-! ## Single steps -/

/-- R26: an accepted ball bond arms head A and takes record 1 and the EFO duration. -/
theorem test_bond_start : (armed.headA.state, armed.headA.claim, armed.headA.efo, armed.store.nextRecord) =
    (.armed, some 1, .none, 2) := by decide +kernel
/-- R24 step 2: a head field that names neither head. -/
theorem test_bond_start_refused : (after (.bondStart 2 65 1 0 0) ready).ports.u.tx.map (fun e => e.msg) =
    [.bondRefused 2 65 1 0 .portDown] := by decide +kernel
theorem test_touchdown : (inBond.headA.state, inBond.engineA.expected) = (.inBond, 7) := by decide +kernel
/-- R62: a LIFT with no sample closes NO-DATA; R35: the first rebond keeps the claim. -/
theorem test_lift_without_samples :
    ((after (.lift .a env) inBond).headA.claim,
      (after (.lift .a env) inBond).store.records.map fun r => r.cls) = (some 1, [.noData]) := by
  decide +kernel
/-- R62, R34: D = 30 lies in 20 to 200 and the ball is GOOD; the stitch is due next. -/
theorem test_good_ball :
    ((after (.lift .a env) (after (.sample .a 7 [⟨1000, 1000, 970⟩]) inBond)).track.bond.map fun x =>
      x.units.map fun r => r.phase) = some [.ballDue, .stitchDue, .ballDue, .ballDue] := by decide +kernel
/-- R105: the window column rises. -/
theorem test_index_done_step : (after (.indexDoneStep env 0 0 0) stepping).track.bond.map (fun x => x.window) =
    some 1 := by decide +kernel
/-- R108: the strip of load 0, slot 2 arrives at ENTRY. -/
theorem test_index_done_transfer : (after (.indexDoneTransfer env 2 0) moving).track.entry.map (fun x => x.id) =
    some 2 := by decide +kernel
/-- R123: 40 is at least F_lift, and the pull with its last result is COMPLETE. -/
theorem test_pull_result : (after (.pullResult env 64 0 0 40 0) pulling).puller.log.map (fun r => r.verdict) =
    [.pass] := by decide +kernel
theorem test_pull_fails : (after (.pullResult env 64 0 0 39 0) pulling).puller.log.map (fun r => r.verdict) =
    [.fail] := by decide +kernel
/-- R6: a ball program without an EFO part is refused INCONSISTENT and the entry stays. -/
theorem test_program_inconsistent : (after (.tableWriteProgram 9 0 (.put
    { readProgramBody [] with forceCount := 1, usCount := 1 })) ready).ports.u.tx.map (fun e => e.msg) =
    [.controlReply 0 9 (.refused .inconsistent)] := by decide +kernel
/-- R144: JAM is a SAFE-STOP class by default; both heads hold and FREEZE goes to the indexer. -/
theorem test_jam_freezes : (after (.jam env 0) ready).ports.ix.tx.map (fun e => e.msg) = [.freeze] := by
  decide +kernel
theorem test_key_denied : (after (.keyPause 0 0) ready).term.denied = true := by decide +kernel
/-- R154: a period of 0 becomes 1 and the reply is CLAMPED. -/
theorem test_refresh_clamped : (after (.controlScreenRefresh 3 0) ready).ports.u.tx.map (fun e => e.msg) =
    [.controlReply 3 3 .clamped] := by decide +kernel

/-! ## Witnesses: the hypotheses of each obligation are met -/

/-- A state with one command waiting. -/
def waits (c : Instr) (s : State) : State := { s with pending := [c] }

theorem witness_StepRunsTheFrontCommand : State.reset.pending = [] := by decide
/-- A command is in its turn on an empty queue, and where its own frame is the oldest. -/
theorem witness_turns : ready.inTurn .u (.keepalive 1) = true ∧
    (standing .u [.keepalive 1, .forceTest 2]).inTurn .u (.keepalive 1) = true ∧
    (standing .u [.keepalive 1, .forceTest 2]).inTurn .u (.forceTest 2) = false := by decide +kernel
theorem witness_HeldPart_frame : (after .resetPinLow ready).inReset = true ∧
    (frameOf (.keepalive 0)).isSome = true := by decide +kernel
theorem witness_HeldPart_heads : HeadsInv armed ∧ armed.headA.state = .armed := by decide +kernel
/-- R42, R74: the bond of head A closes with LINK; its BOND-REPORT counts in the TX-DROP of port U. -/
theorem witness_HeldPart_bond :
    let t := after .resetPinLow armed
    (t.headA.state, t.headA.bond.isSome, t.engineA.state, t.ports.u.count.txDrop) =
      (.offline, false, .disarmed, 1) ∧
    t.store.records.map (fun r => (r.number, r.cls, r.flags.link)) = [(1, .aborted, true)] := by decide +kernel
/-- R102: a held INDEX too, where both are lost. -/
theorem witness_HeldPart_index : HeadsInv holding ∧ holding.track.held.isSome = true ∧
    (after .resetPinLow holding).ports.u.count.txDrop = 2 ∧
    (after .resetPinLow holding).track.held = none := by decide +kernel
theorem witness_StepsKeepHeadsAndEngines : HeadsInv (waits (.lift .a env) inBond) ∧
    EnginesInv (waits (.lift .a env) inBond) ∧
    ∃ t, step (waits (.lift .a env) inBond) = .next t :=
  ⟨by decide +kernel, by decide +kernel, _, rfl⟩
theorem witness_StepsKeepAlarmsAndHolds : AlarmInv (waits (.jam env 0) ready) ∧
    ∃ t, step (waits (.jam env 0) ready) = .next t := ⟨by decide +kernel, _, rfl⟩
theorem witness_StepsConserveStrips : TrackInv (waits (.indexDoneTransfer env 2 0) moving) ∧
    ∃ t, step (waits (.indexDoneTransfer env 2 0) moving) = .next t := ⟨by decide +kernel, _, rfl⟩
theorem witness_StepsKeepClaims : ClaimInv (waits (.lift .a env) inBond) ∧
    ∃ t, step (waits (.lift .a env) inBond) = .next t := ⟨by decide +kernel, _, rfl⟩
theorem witness_StepsKeepPulls : PullInv (waits .pullStationTimerExpiry pulling) ∧
    ∃ t, step (waits .pullStationTimerExpiry pulling) = .next t := ⟨by decide +kernel, _, rfl⟩
theorem witness_StepsKeepPortQueues : PortsInv (waits (.frameSent .ha) armed) ∧
    ∃ t, step (waits (.frameSent .ha) armed) = .next t := ⟨by decide +kernel, _, rfl⟩
theorem witness_StepsKeepTerminal : TermInv (waits .screenFrameQueued ready) ∧
    ScreenInv (waits .screenFrameQueued ready) ∧
    ∃ t, step (waits .screenFrameQueued ready) = .next t := ⟨by decide +kernel, by decide +kernel, _, rfl⟩
theorem witness_FramesReadBack : Instr.wf (.bondAbort 1) = true ∧
    (frameOf (.bondAbort 1)).isSome = true := by decide
theorem witness_LineReadsBack : (Frame.mk 0 0 0 (List.replicate 96 0xFF)).payload.length ≤ 96 := by decide
theorem witness_ChangedValuesAreMarked : isReset (.controlConfig 0) = false ∧
    (after (.controlConfig 0) ready).term.page = ready.term.page ∧ 0 < pageSize ready.term.page ∧
    fieldValue ready 0 0 ≠ fieldValue (after (.controlConfig 0) ready) 0 0 := by decide +kernel
/-- R107: a strip is delivered and one is drawn; the number of strips is as before, and marked. -/
theorem witness_ChangedValuesAreMarked_transfer :
    let q : FlightRequest := ⟨.transfer, some 2, some 1, false, false⟩
    let s : State := { moving with track := { moving.track with
      exit := some { strip with id := 63 }, inFlight := some q, taken := 2 } }
    let t := after (.indexDoneTransfer env 2 1) s
    s.inTurn .ix (.indexDoneTransfer env 2 1) = true ∧
    transferMismatch s.track q (slotOf 2) (slotOf 1) = false ∧ s.term.page = 0 ∧
    s.track.exit.isSome = true ∧ t.track.strips.length = s.track.strips.length ∧
    t.term.changed = [4] := by decide +kernel
/-- R119: the strip that leaves PULL is COMPLETE, and so is the one that arrives, whose pull has no task. -/
theorem witness_ChangedValuesAreMarked_no_task :
    let s : State := { moving with
      term := { moving.term with page := 4 }
      track := { moving.track with
        bond := moving.track.bond.map fun x => { x with pullDue := true }
        pull := some { strip with id := 64, pullDue := true, pullState := .complete }, taken := 2 } }
    let t := after (.indexDoneTransfer env 2 0) s
    s.inTurn .ix (.indexDoneTransfer env 2 0) = true ∧ s.track.inFlight = moving.track.inFlight ∧
    s.track.bond.any (fun x => x.pullDue) = true ∧ s.track.bond.any (fun x => x.pullState = .complete) = false ∧
    s.pullState = .complete ∧ t.pullState = .complete ∧ t.term.changed = [0, 1, 2] := by decide +kernel
/-- R112: one strip is dropped and another introduced. -/
theorem witness_ChangedValuesAreMarked_track_set :
    let t := after (.trackSet 1 ⟨emptyEntry, ⟨2, 70, 2, 0⟩, emptyEntry, emptyEntry, 0xFF⟩) unknown
    unknown.term.page = 0 ∧ unknown.track.strips.map (fun x => x.id) = [65] ∧
    t.track.strips.map (fun x => x.id) = [70] ∧ t.term.changed.contains 4 = true := by decide +kernel
theorem witness_RaisingAnAlarm_note : Alarms.find ready.alarms.entries .test .part = none ∧
    (ready.actionEntry .test).action ≠ .safeStop := by decide +kernel
theorem witness_RaisingAnAlarm_listed :
    (Alarms.find (alarmed .test .part).alarms.entries .test .part).isSome = true := by decide +kernel
theorem witness_RaisingAnAlarm_safe_stop : Alarms.find ready.alarms.entries .jam .track = none ∧
    (ready.actionEntry .jam).action = .safeStop := by decide +kernel
/-- The three states of an entry, each in a list that meets the invariant. -/
theorem witness_EntriesMoveAndLeave :
    (let s := alarmed .jam .track
     AlarmInv s ∧ s.alarms.entries.map (fun e => e.state) = [.activeUnacked]) ∧
    (let s := (alarmed .jam .track).acknowledgeAll
     AlarmInv s ∧ s.alarms.entries.map (fun e => e.state) = [.activeAcked]) ∧
    (let s := (alarmed .jam .track).conditionGone .jam .track
     AlarmInv s ∧ s.alarms.entries.map (fun e => e.state) = [.clearedUnacked]) := by decide +kernel
/-- R141: an acknowledged HEAD-FAULT leaves where the head's port is LIVE, and waits where it is not. -/
theorem witness_EntriesMoveAndLeave_head_fault :
    let s (p : PortRec) : State := (alarmed .headFault (.head .a)).updatePort .ha fun _ => p
    AlarmInv (s openPort) ∧ (s openPort).acknowledgeAll.alarms.entries = [] ∧
    (s quietPort).acknowledgeAll.alarms.entries.map (fun e => e.state) = [.activeAcked] := by decide +kernel
theorem witness_ResetsClearThePart : ready.inTurn .u (.reset strapsAssumed) = true ∧
    (after (.reset strapsAssumed) ready).ports.u.state = .quiet := by decide +kernel
/-- R137, R144: RESET lists both entries by an action table that makes TRACK-UNKNOWN the lower one and both
SAFE-STOP: its place is behind, and the two FREEZE find port IX DOWN. -/
theorem witness_ResetsClearThePart_actions :
    let actions := (ready.tables.actions.set 13 ⟨2, 0, .safeStop⟩).set 17 ⟨3, 1, .safeStop⟩
    let s := { ready with
      tables := { ready.tables with actions := actions }, mgmt := { ready.mgmt with supplyMv := 3049 } }
    let t := after (.reset strapsAssumed) s
    s.inTurn .u (.reset strapsAssumed) = true ∧ t.alarms.safeStop = true ∧
    t.alarms.entries.map (fun e => (e.cls, e.level, e.seq)) = [(.supplyLow, 3, 2), (.trackUnknown, 2, 1)] ∧
    t.ports.ix.count = { Counters.zero with txDrop := 2 } := by decide +kernel
theorem witness_PartTimeTicks :
    ({ Mgmt.initial with time := 4294967295 } : Mgmt).time ≤ 4294967295 := by decide
theorem witness_LineReadyAndLost : (withPort .pt downPort).inReset = false ∧
    ((withPort .pt { downPort with enabled := true }).port .pt).state = .down ∧
    (pulling.port .pt).state ≠ .down := by decide +kernel
/-- R42: the port of a head with a bond in flight, and of one without. -/
theorem witness_LineReadyAndLost_heads : HeadInv (armed.head .a) ∧ (armed.head .a).bond.isSome = true ∧
    (armed.port .ha).state ≠ .down ∧ HeadInv (ready.head .a) ∧ (ready.head .a).bond = none ∧
    (after (.lineNotReady .ha) armed).headA.state = .offline ∧
    (after (.lineNotReady .ha) armed).store.records.map (fun r => (r.cls, r.flags.link)) =
      [(.aborted, true)] := by decide +kernel
/-- R102: the request held for port IX ends with its line, or with its PORT-DISABLE. -/
theorem witness_LineReadyAndLost_held :
    let refused (c : Instr) := (after c holding).track.held = none ∧
      ((after c holding).ports.u.tx.map fun e => e.msg).contains (.indexRefused .step .portDown) = true
    holding.track.held.isSome = true ∧ (holding.port .ix).state ≠ .down ∧ refused (.lineNotReady .ix) ∧
    refused (.controlPortDisable 0 3 true) := by decide +kernel
/-- The edges of 3 % of one symbol time at 25 Mbit/s, 40,000 ps. -/
theorem witness_WakesAndSleeps :
    (((after (.farEndWake .ha (some (List.replicate 7 41200))) (withPort .ha quietPort)).port .ha).state,
     ((after (.farEndWake .ha (some (List.replicate 7 41201))) (withPort .ha quietPort)).port .ha).state,
     ((after (.farEndWake .ha (some (List.replicate 7 38800))) (withPort .ha quietPort)).port .ha).state) =
    (.live, .quiet, .live) := by decide +kernel
/-- R188: the first LIVE of port U after a reset; the run state CONFIG goes with STARTED. -/
theorem witness_WakesAndSleeps_started :
    (after (.farEndWake .u (some (List.replicate 7 160000)))
      (after (.lineReady .u) State.reset)).ports.u.tx.map (fun e => (e.msg, e.urgent)) =
    [(.started ⟨true, true, false, false⟩ false ⟨0, 0, 0, 0⟩ 0xE0, true)] := by decide +kernel
/-- R165: a far-end wake that answers the port's own wake stops the retry timer. -/
theorem witness_WakesAndSleeps_answered :
    ((after (.farEndWake .ha none) (withPort .ha { quietPort with
      state := .waking .localEnd, retryTimer := true })).port .ha).retryTimer = false := by decide +kernel
/-- R170 to R172: 6 waiting frames make HOLD-OFF due, and nothing begins; with 5 the oldest frame does. -/
theorem witness_WakesAndSleeps_begins :
    let wake (n : Nat) := (after (.farEndWake .ha (some (List.replicate 7 40000))) (withPort .ha { quietPort with
      rx := List.replicate n (shortEntry 0x11), tx := [⟨.freeze, false, false⟩] })).port .ha
    ((wake 6).control, (wake 6).hoSent, (wake 6).tx.map fun e => e.begun) = ([.holdOff], true, [false]) ∧
    ((wake 5).control, (wake 5).hoSent, (wake 5).tx.map fun e => e.begun) = ([], false, [true]) := by
  decide +kernel
/-- R141: at LIVE an acknowledged HEAD-FAULT of the port's head leaves, and one not acknowledged stays. -/
theorem witness_WakesAndSleeps_head_fault :
    let s (st : AlarmState) : State := (withPort .ha quietPort).setEntries [⟨.headFault, .head .a, 5, 1, .holdHead, 1, 1, st⟩]
    let left (st : AlarmState) := (after (.farEndWake .ha (some (List.replicate 7 40000))) (s st)).alarms.entries
    left .activeAcked = [] ∧ left .activeUnacked = (s .activeUnacked).alarms.entries := by decide +kernel
/-- A length of 96 takes an entry and one of 97 none; a WAKING port hears frames; a header that cuts the
fourth entry off sends GO. -/
theorem witness_HeadersTakeEntries_lengths :
    let h (n : Byte) : Header := ⟨0xE0, 0x20, 0x11, n⟩
    let s : State := withPort .ha { openPort with state := .waking .farEnd }
    let r (n : Byte) : PortRec := (after (.frameHeaderReceived .ha (h n)) s).port .ha
    let full : PortRec := { receivingPort (h 1) .stored with
      hoSent := true, rx := List.replicate 3 ⟨h 1, some [0]⟩ ++ [⟨h 1, none⟩] }
    let cut : PortRec := (after (.frameHeaderReceived .ha (h 97)) (withPort .ha full)).port .ha
    ((r 96).rx.length, (r 97).rx.length, (r 97).count.overlong, cut.count.framing, cut.control) =
      (1, 0, 1, 1, [.go]) := by decide +kernel
/-- R173: a broadcast is copied to the LIVE and QUIET ports; an address of no node is UNROUTED, and keeps no
entry (log 41). A GO that finds 8 entries taken overruns (log 40). -/
theorem witness_HeadersTakeEntries_routes :
    let s (dst : Byte) : State :=
      after (.frameHeaderReceived .u ⟨dst, 0x01, 0x12, 1⟩) (withPort .hb downPort)
    let copies (t : State) : List Nat := downstream.map fun x => (t.port x).tx.length
    let full : State := withPort .ha { openPort with rx := List.replicate 8 (shortEntry 0x11) }
    copies (s 0xFF) = [1, 0, 1, 1, 1] ∧
    ((s 0xFF).ports.u.receiving.map fun r => r.fate) = some .passing ∧ copies (s 0x99) = [0, 0, 0, 0, 0] ∧
    ((s 0x99).ports.u.rx.length, (s 0x99).ports.u.count.unrouted) = (0, 1) ∧
    ((after (.frameHeaderReceived .ha ⟨0xFF, 0x20, 0x7F, 0⟩) full).port .ha).count.rxOverrun = 1 := by
  decide +kernel
/-- R170, R173: on port U the sixth entry sends HOLD-OFF, and a header that cuts a passing frame off poisons
its copy and is routed itself. -/
theorem witness_HeadersTakeEntries_port_u :
    let h (dst : Byte) : Header := ⟨dst, 0x01, 0x12, 1⟩
    let six : State := withPort .u { openPort with rx := List.replicate 5 (shortEntry 0x60) }
    let s := after (.frameHeaderReceived .u (h 0x20)) ready
    let t := after (.frameHeaderReceived .u (h 0x30)) s
    (after (.frameHeaderReceived .u (h 0x20)) six).ports.u.control = [.holdOff] ∧
    s.ports.u.receiving = some ⟨h 0x20, .passing⟩ ∧ t.ports.u.receiving = some ⟨h 0x30, .passing⟩ ∧
    t.ports.ha.tx.length = 0 ∧ t.ports.ha.count.poisoned = 1 ∧
    t.ports.hb.tx.map (fun e => e.msg) = [.arriving (h 0x30)] := by decide +kernel
/-- The sixth entry sends HOLD-OFF, the eighth is taken and the ninth overruns. -/
theorem witness_HeadersTakeEntries :
    let h : Header := ⟨0xE0, 0x20, 0x11, 1⟩
    let full (n : Nat) : State := withPort .ha { openPort with rx := List.replicate n ⟨h, some [0]⟩ }
    let r (n : Nat) : PortRec := (after (.frameHeaderReceived .ha h) (full n)).port .ha
    ((r 4).hoSent, (r 5).hoSent, (r 7).rx.length, (r 8).rx.length, (r 8).count.rxOverrun) =
      (false, true, 8, 8, 1) := by decide +kernel
/-- R162: each row of the failure table at its boundary: the greatest length, the 99th byte, a bit too many,
a byte too few, two ones in the place of the stuffed zero, and a CRC that differs. -/
theorem witness_LineReadsBack_failures :
    let h (n : Byte) : Header := ⟨0, 0, 0x11, n⟩
    let bits (n : Nat) := List.replicate n false
    runAfter 0 (lineBits (Header.bytes (h 97))) = 0 ∧ judgeTail (h 97) [] = .overlong ∧
    judgeTail (h 96) [] = .framing ∧ judgeTail (h 96) (stuffTail 0 (bits 792)) = .overlong ∧
    judgeTail (h 96) (stuffTail 0 (bits 791)) = .framing ∧
    judgeTail (h 0) (stuffTail 0 (bits 15)) = .framing ∧
    runAfter 0 (List.replicate 5 true) = 5 ∧
    (stuffTail 0 (List.replicate 5 true)).dropLast ++ [true, true] = List.replicate 7 true ∧
    judgeTail (h 1) (List.replicate 7 true ++ bits 17) = .framing ∧
    judgeTail (h 0) (stuffTail 0 (bits 16)) = .crc ∧
    judgeTail (h 0) (stuffTail 0 (lineBits (crcBytes (Header.bytes (h 0))))) = .good [] := by decide +kernel
theorem witness_BadFramesAreCounted :
    ((withPort .ha openPort).port .ha).state = .live ∧ ((withPort .ha openPort).port .ha).receiving = none ∧
    judgeTail ⟨0, 0, 0x11, 97⟩ [] = .overlong ∧ judgeTail ⟨0, 0, 0x11, 96⟩ [] ≠ .overlong := by
  decide +kernel
/-- R174: a broadcast that fails is poisoned once on each of its ports, begun or not. -/
theorem witness_BadFramesAreCounted_copies :
    let h : Header := ⟨0xFF, 0x01, 0x12, 1⟩
    let s := after (.frameHeaderReceived .u h) (withPort .hb { openPort with hoReceived := true })
    let t := after (.frameEndReceived .u []) s
    judgeTail h [] = .framing ∧ (s.port .u).receiving.map (fun y => y.fate) = some .passing ∧
    t.ports.u.count.framing = 1 ∧
    downstream.map (fun x => ((t.port x).tx.length, (t.port x).count.poisoned)) =
      List.replicate 5 (0, 1) := by decide +kernel
theorem witness_GoodFramesArrive :
    let h : Header := ⟨0xE0, 0x20, 0x11, 1⟩
    let s := withPort .ha (receivingPort h .stored)
    (s.port .ha).state = .live ∧ (s.port .ha).receiving = some ⟨h, .stored⟩ ∧
    judgeTail h (goodTail ⟨0xE0, 0x20, 0x11, [1]⟩) = .good [1] ∧
    (commandOfFrame strapsAssumed .ha ⟨0xE0, 0x20, 0x11, [1]⟩).isSome = true ∧
    (s.tables.node .ha).matches 0x20 = true ∧ (s.tables.node .ha).matches 0x21 = false := by decide +kernel
/-- A frame that passes on port U completes its copy. -/
theorem witness_GoodFramesArrive_passing :
    let h : Header := ⟨0x20, 0xE0, 0x12, 1⟩
    let s := after (.frameHeaderReceived .u h) ready
    (s.port .u).receiving = some ⟨h, .passing⟩ ∧
    (after (.frameEndReceived .u (goodTail ⟨0x20, 0xE0, 0x12, [1]⟩)) s).ports.ha.tx.map (fun e => e.msg) =
      [.forwarded ⟨0x20, 0xE0, 0x12, [1]⟩] := by decide +kernel
/-- R171, R172: a copy that a slower line delivers to a faster one waits for its end, and then begins. -/
theorem witness_GoodFramesArrive_begins :
    let h : Header := ⟨0x20, 0xE0, 0x12, 1⟩
    let slow : State := ready.updatePort .u fun p => { p with rate := .r6 }
    let begun (s : State) := (s.port .ha).tx.map fun e => e.begun
    let s := after (.frameHeaderReceived .u h) slow
    let t := after (.frameEndReceived .u (goodTail ⟨0x20, 0xE0, 0x12, [1]⟩)) s
    (begun s, begun t) = ([false], [true]) := by decide +kernel
/-- R170, R189: a short KEY behind a KEY waits for its turn, and is denied after it. -/
theorem witness_GoodFramesArrive_turns :
    let s := standing .ot [.keyScrollUp]
    let s := s.updatePort .ot fun p => { p with rx := p.rx ++ [shortEntry 0x42] }
    s.settle .ot = s ∧ (after .keyScrollUp s).term.denied = false ∧
    ((after .keyScrollUp s).port .ot).oldest = some ⟨0xE0, 0x20, 0x42, []⟩ ∧
    commandOfFrame strapsAssumed .ot ⟨0xE0, 0x20, 0x42, []⟩ = none ∧ (after .keyScrollUp s).inReset = false ∧
    ((after .keyScrollUp s).settle .ot).term.denied = true ∧
    ((after (.keyPage 9) s).port .ot).rx.length = 2 := by decide +kernel
/-- R166, R171: a HOLD-OFF that stood over QUIET is taken there. -/
theorem witness_FlowControlFrames : ready.inTurn .ha (.holdOff .ha) = true ∧
    ((after (.holdOff .ha) ((standing .ha [.holdOff .ha]).updatePort .ha fun p =>
      { p with state := .quiet })).port .ha).hoReceived = true ∧
    ((after (.holdOff .ha) (withPort .ha downPort)).port .ha).hoReceived = false ∧
    ((after (.holdOff .ha) ready).port .ha).hoReceived = true ∧
    (after (.holdOff .ha) ready).inTurn .ha (.go .ha) = true := by decide +kernel
theorem witness_SentFramesLeave : PortInv .ha (armed.port .ha) ∧
    (armed.port .ha).tx.any (fun e => e.begun) = true := by decide +kernel
theorem witness_DownstreamFramesForwarded :
    ready.inTurn .ha (.downstreamFrameForwarded .ha ⟨0xE0, 0x21, 0x55, []⟩) = true ∧
    (standing .ha [.downstreamFrameForwarded .ha ⟨0xE0, 0x21, 0x55, []⟩]).inTurn .ha
      (.downstreamFrameForwarded .ha ⟨0xE0, 0x21, 0x55, []⟩) = true ∧
    (after (.downstreamFrameForwarded .ha ⟨0xE0, 0x20, 0x55, []⟩) ready).ports.u.tx.length = 1 ∧
    ((after (.downstreamFrameForwarded .ha ⟨0xE0, 0x21, 0x55, []⟩) ready).port .ha).count.sourceError = 1 := by
  decide +kernel
theorem witness_BondStartChecksInOrder :
    (let s := alarmed .jam .track
     s.inTurn .u (.bondStart 0 65 1 0 0) = true ∧ AlarmInv s ∧ HeadsInv s ∧
      safeStopStands s.alarms.entries = true) := by decide +kernel
theorem witness_BondStartAccepted : ready.inTurn .u (.bondStart 0 65 1 0 0) = true ∧ ready.mgmt.run = true ∧
    (ready.port .ha).state ≠ .down ∧ ready.headA.state = .idle ∧ ready.track.inFlight = none ∧
    ready.track.bond = some strip ∧ strip.id = (65 : W16).toNat ∧
    ready.tables.inWindow strip 1 = true ∧ strip.units[1]? = some unit0 ∧
    unit0.state = .pending ∧ ready.headA.claim = none ∧ ready.headA.pause ≠ some .afterUnit ∧
    unit0.cursor = some 0 ∧ unit0.phase = .ballDue ∧
    ready.tables.programOf 4 .ball = some ballProgram ∧ ready.headA.efo = .passed ∧
    ((ready.tables.wiresOf strip).slot 0).ball = 4 ∧ (ready.port .ha).tx.length < 8 := by decide +kernel
theorem witness_HeadEventsAndAborts : ready.inTurn .ha (.touchdown .a env 0 0) = true ∧
    ready.inTurn .ha (.strayEvent .a env 9) = true ∧ ready.headA.state.inFlight = false ∧
    ready.inTurn .ha (.lift .a env) = true ∧ ready.inTurn .ha (.aborted .a env) = true ∧
    inBond.headA.state ≠ .idle ∧ inBond.headA.state ≠ .hold ∧
    inBond.inTurn .ha (.efoStart .a env 1) = true ∧ inBond.headA.efo ≠ .timing ∧
    inBond.inTurn .ha (.efoEnd .a env 1) = true ∧ ready.inTurn .hb (.headFault .b env 1) = true ∧
    inBond.inTurn .u (.bondAbort 0) = true ∧ headOf 0 = some .a := by decide +kernel
/-- R36, R144: a HEAD-FAULT written up to SAFE-STOP ends a held request, with the bond in flight aborting. -/
theorem witness_HeadEventsAndAborts_safe_stop :
    let s : State := { holding with tables := { holding.tables with
      actions := holding.tables.actions.set 6 ⟨6, 6, .safeStop⟩ } }
    let t := after (.headFault .b env 1) s
    s.inTurn .hb (.headFault .b env 1) = true ∧ s.track.held.isSome = true ∧ t.track.held = none ∧
    t.headA.state = .aborting ∧ t.headB.holds.safeStop = true := by decide +kernel
theorem witness_ClosesOfABond : inBond.inTurn .ha (.lift .a env) = true ∧
    inBond.inTurn .ha (.aborted .a env) = true ∧ HeadInv (inBond.head .a) ∧
    (inBond.head .a).bond.isSome = true ∧ HeadInv (aborting.head .a) ∧
    aborting.headA.state = .aborting ∧ aborting.headA.bond.isSome = true := by decide +kernel
/-- R64, R65: a weak ball with 15 missing samples raises nothing more, one with 16 SAMPLE-LOSS too. -/
theorem witness_ClosesOfABond_alarms :
    let s (n : Nat) : State := { inBond with
      headA := { inBond.headA with weakRun := 1 }
      engineA := { inBond.engineA with n := 1, zMin := 985, missing := n } }
    let l (n : Nat) := (after (.lift .a env) (s n)).alarms.entries.map fun y => y.cls
    (l 15, (l 16).length, (l 16).contains .sampleLoss) = ([.weakRun], 2, true) := by decide +kernel
/-- R41: an IDLE head has no bond in flight and a stopped abort timer. -/
theorem witness_ClosesOfABond_idle : HeadInv (ready.head .a) ∧ (ready.head .a).bond = none ∧
    (ready.head .a).abortTimer = false := by decide +kernel
theorem witness_UnitsMoveAtAClose : inBond.inTurn .ha (.lift .a env) = true ∧ HeadInv (inBond.head .a) ∧
    (inBond.head .a).bond.map (fun b => b.unit) = some 1 ∧
    (inBond.track.bond.map fun x => x.units[1]?.map fun r => r.state) = some (some (.claimed .a)) ∧
    (inBond.head .a).claim = some 1 := by decide +kernel
/-- The last wire of a pull-due strip that the plan selects: the claim ends, the pair is pinned, and the
held request, which the claim alone blocked, is forwarded. -/
theorem witness_UnitsMoveAtAClose_ends :
    let b : Bond := ⟨5, .stitch, 9, 65, 1, 0, 0, none⟩
    let s : State := { inBond with
      tables := pullDue.tables
      headA := { inBond.headA with bond := some b, pause := some .afterUnit }
      engineA := { inBond.engineA with n := 1, zMin := 970 }
      track := { inBond.track with
        held := some ⟨.step, ⟨true, false, false⟩⟩
        bond := inBond.track.bond.map fun x =>
          { x with pullDue := true, units := x.units.set 1 ⟨.claimed .a, some 0, .stitchDue, 0, 0, 0, 0⟩ } }
      store := { inBond.store with nextRecord := 10, records := [{ boundRecord 3 1 .ball .a with
        pinned := false }] } }
    let t := after (.lift .a env) s
    s.inTurn .ha (.lift .a env) = true ∧ HeadInv (s.head .a) ∧
    safeStopStands t.alarms.entries = false ∧ (t.headA.claim, t.headA.state) = (none, .hold) ∧
    t.store.records.map (fun r => (r.number, r.pinned)) = [(3, true), (9, true)] ∧
    (t.track.held.isSome, t.track.inFlight.isSome) = (false, true) := by decide +kernel
/-- Six samples are taken and seven are stray; a stamp 127 ahead is a gap and 128 ahead is stale. -/
theorem witness_SamplesAccumulate : inBond.inTurn .ha (.sample .a 7 []) = true ∧ inBond.engineA.ring.length ≤ 64 ∧
    (let n (k : Nat) := (after (.sample .a 7 (List.replicate k ⟨1, 1, 1⟩)) inBond).headA.stray
     (n 6, n 7) = (0, 1)) ∧
    (let m (d : Byte) := (after (.sample .a (7 + d) [⟨1, 1, 1⟩]) inBond).engineA.missing
     (m 127, m 128) = (127, 0)) := by decide +kernel
/-- R56: of 3, -7 and 7 the second sample has the greatest current first, and a later 7 leaves its index. -/
theorem witness_SamplesAccumulate_first :
    let e (l : List W16) := (after (.sample .a 7 (l.map fun x => ⟨1, x, 1⟩)) inBond).engineA
    ((e [3, -7, 7]).peak, (e [3, -7, 7]).peakIndex, (e [7, 7]).peakIndex, (e [0, 0]).peakIndex) =
      (7, 2, 1, 0) := by decide +kernel
theorem witness_FiguresAndClass : inBond.engineA.limits = some ballProgram.limits := by decide +kernel
theorem witness_EfoTimingIsJudged : ready.inTurn .ha (.efoStart .a env 100) = true ∧
    (after (.efoStart .a env 100) ready).inTurn .ha (.efoEnd .a env 500) = true ∧ ready.headA.state = .idle ∧
    (after (.efoStart .a env 100) ready).headA.efo = .timing := by decide +kernel
/-- R38: the window of the program of the lowest PENDING unit, 300 to 420 µs, at its edges; none without a
strip at BOND. -/
theorem witness_EfoTimingIsJudged_window :
    let s := after (.efoStart .a env 65500) ready
    let r (s : State) (n : W16) := (after (.efoEnd .a env n) s).headA.efo
    (r s 263, r s 264, r s 384, r s 385, r { s with track := { s.track with bond := none } } 385) =
      (.failed, .passed, .passed, .failed, .passed) := by decide +kernel
theorem witness_IndexChecksAndGate : ready.inTurn .u (.indexStep true) = true ∧
    ready.inTurn .u (.indexTransfer false) = true ∧ ready.mgmt.run = true ∧
    ready.track.known = true ∧ safeStopStands ready.alarms.entries = false ∧
    (ready.port .ix).state ≠ .down ∧ ready.track.inFlight = none ∧ ready.track.held = none ∧
    stepping.track.inFlight.isSome = true ∧ holding.track.held.isSome = true := by decide +kernel
theorem witness_IndexDoneIsJudged : stepping.inTurn .ix (.indexDoneStep env 0 0 0) = true ∧
    moving.inTurn .ix (.indexDoneTransfer env 2 0) = true ∧ stepping.track.held = none ∧
    stepping.track.inFlight.any (fun q => q.kind == .step) = true ∧
    moving.track.inFlight.any (fun q => q.kind == .transfer && q.inSlot == some 2) = true := by
  decide +kernel
theorem witness_TransfersMoveTheStrips : moving.inTurn .ix (.indexDoneTransfer env 2 0) = true ∧ TrackInv moving ∧
    (moving.track.inFlight.map fun q =>
      transferMismatch moving.track q (slotOf 2) (slotOf 0)) = some false := by decide +kernel
/-- R119: the strip that arrives at PULL starts a pull of one task; the pins of its PENDING unit go. -/
theorem witness_TransfersMoveTheStrips_pull : pullDue.inTurn .ix (.indexDoneTransfer env 2 0) = true ∧
    TrackInv pullDue ∧
    (pullDue.track.inFlight.map fun q =>
      transferMismatch pullDue.track q (slotOf 2) (slotOf 0)) = some false ∧
    (let t := after (.indexDoneTransfer env 2 0) pullDue
     (t.puller.current.map fun c => c.tasks) = some [⟨0, 0, 0, 1, .a, 2, .b, none⟩] ∧
     t.pullState = .waiting ∧ t.store.records.map (fun r => r.pinned) = [true, true, false, false]) := by
  decide +kernel
/-- R114: a strip at EXIT is delivered into the last slot of its magazine. -/
theorem witness_TransfersMoveTheStrips_delivers :
    let q : FlightRequest := ⟨.transfer, some 2, some 40, false, false⟩
    let s : State := { moving with track := { moving.track with
      exit := some { strip with id := 63, passes := 3 }, inFlight := some q, taken := 2
      magOut := ⟨.ready, 40, List.replicate 40 .free, 40⟩ } }
    let t := after (.indexDoneTransfer env 2 40) s
    s.inTurn .ix (.indexDoneTransfer env 2 40) = true ∧ TrackInv s ∧
    transferMismatch s.track q (slotOf 2) (slotOf 40) = false ∧ t.track.magOut.state = .full ∧
    t.alarms.entries.map (fun y => y.cls) = [.magOutFull] ∧
    (t.ports.u.tx.map fun e => e.msg).contains (.forwarded ⟨0xE0, 0x20, 0x22, [1, 2, 40]⟩) = true ∧
    (t.ports.u.tx.map fun e => e.msg).contains (.stripReport 63 (some 40) 0 0 0 0 3 0) = true := by
  decide +kernel
theorem witness_JamsAndIndexTimers : moving.track.doneTimer.isSome = true ∧
    holding.track.holdTimer.isSome = true ∧ moving.inTurn .ix (.jam env 0) = true := by decide +kernel
/-- R102, R109, R144: a jam refuses the held request UNKNOWN, before JAM stops both heads. -/
theorem witness_JamsAndIndexTimers_held :
    let t := after (.jam env 0) holding
    holding.inTurn .ix (.jam env 0) = true ∧ holding.track.held.isSome = true ∧ t.track.held = none ∧
    t.alarms.entries.map (fun y => y.cls) = [.jam, .trackUnknown] ∧
    (t.headA.state, t.headB.state) = (.aborting, .hold) ∧
    (t.ports.u.tx.map fun e => e.msg).contains (.indexRefused .step .unknown) = true ∧
    (t.ports.u.tx.map fun e => e.msg).contains (.indexRefused .step .stopped) = false := by
  decide +kernel
/-- A magazine of 41 slots is taken as one of 40 (R91). -/
theorem witness_MagazinesLoadAndLeave : ready.inTurn .ix (.magInLoaded env 41) = true ∧
    ready.inTurn .ix (.magInRemoved env) = true ∧ ready.inTurn .ix (.magOutRemoved env) = true ∧
    ready.inTurn .ix (.magOutLoaded env 0) = true ∧
    (after (.magInLoaded env 41) ready).track.magIn.count = 40 ∧
    (after (.magInLoaded env 0) ready).track.magIn.state = .absent := by decide +kernel
/-- R100: a request that the output magazine alone blocks goes when the next one is loaded, and stays held
when it is removed; the MAG-OUT is forwarded. -/
theorem witness_MagazinesLoadAndLeave_gate :
    let s : State := { ready with track := { ready.track with
      exit := some { strip with id := 63 }, held := some ⟨.transfer, ⟨false, false, true⟩⟩
      magOut := { ready.track.magOut with state := .full } } }
    let t := after (.magOutLoaded env 5) s
    s.inTurn .ix (.magOutLoaded env 5) = true ∧ (t.track.held.isSome, t.track.inFlight.isSome) = (false, true) ∧
    t.ports.u.tx.map (fun e => e.msg) = [.forwarded ⟨0xE0, 0x20, 0x25, [0, 5]⟩] ∧
    (after (.magOutRemoved env) s).track.held = s.track.held := by decide +kernel
theorem witness_TrackSetIsJudged_accepted :
    let c : Instr := .trackSet 1 ⟨emptyEntry, listEntry 65, emptyEntry, newEntry, 1⟩
    unknown.inTurn .u c = true ∧ (PullInv unknown ∧ AlarmInv unknown) ∧ ClaimInv unknown ∧
    (after c unknown).track.strips.map (fun x => (x.id, x.window)) = [(65, 1), (7, 1)] :=
  ⟨by decide +kernel, by decide +kernel, by decide +kernel, by decide +kernel⟩
/-- `unknown` with unit 1 at BOND claimed by head A, which a pause waits for. -/
def unknownClaimed : State := { unknown with
  headA := { unknown.headA with claim := some 1, pause := some .afterUnit }
  track := { unknown.track with bond := some { strip with
    units := strip.units.set 1 { unit0 with state := .claimed .a } } } }
/-- R112, R29: a claim ends, its unit is PENDING again, and the pause that waited for it holds the head. -/
theorem witness_TrackSetIsJudged_claim :
    let c : Instr := .trackSet 1 ⟨emptyEntry, listEntry 65, emptyEntry, emptyEntry, 0xFF⟩
    unknownClaimed.inTurn .u c = true ∧ (PullInv unknownClaimed ∧ AlarmInv unknownClaimed) ∧
    ClaimInv unknownClaimed ∧ (after c unknownClaimed).headA.claim = none ∧
    (after c unknownClaimed).headA.state = .hold ∧ (after c unknownClaimed).track.bond = some strip :=
  ⟨by decide +kernel, by decide +kernel, by decide +kernel, by decide +kernel, by decide +kernel,
    by decide +kernel⟩
/-- R112: without a NEW entry the strips introduced stay as they are, whatever they are. -/
theorem witness_TrackSetIsJudged_no_new :
    let s : State := { unknown with track := { unknown.track with introduced := 4294967300 } }
    let c : Instr := .trackSet 1 ⟨emptyEntry, listEntry 65, emptyEntry, emptyEntry, 0xFF⟩
    s.inTurn .u c = true ∧ (PullInv s ∧ AlarmInv s) ∧ ClaimInv s ∧
    (after c s).track.introduced = 4294967300 ∧ (after c s).track.known = true :=
  ⟨by decide +kernel, by decide +kernel, by decide +kernel, by decide +kernel, by decide +kernel⟩
/-- `pullDue` with an UNKNOWN track, and a strip at PULL whose pull is ordered. -/
def toDiscard : State := { pullDue with
  track := { pullDue.track with
    known := false, inFlight := none, doneTimer := none, taken := 2
    pull := some { strip with id := 64, pullDue := true, pullState := .ordered } }
  puller := pulling.puller
  store := { pullDue.store with records := { boundRecord 9 0 .ball .a with strip := 64 } ::
    pullDue.store.records } }
/-- R119, R132, R78: the strip at BOND arrives at PULL and starts its pull, the pull of the strip that goes
to EXIT is discarded, and its pins are released. -/
theorem witness_TrackSetIsJudged_pull :
    toDiscard.inTurn .u (.trackSet 1 ⟨emptyEntry, emptyEntry, listEntry 65, listEntry 64, 0xFF⟩) = true ∧
    (PullInv toDiscard ∧ AlarmInv toDiscard) ∧ ClaimInv toDiscard :=
  ⟨by decide +kernel, by decide +kernel, by decide +kernel⟩
theorem witness_TrackSetIsJudged_pull_starts :
    let t := after (.trackSet 1 ⟨emptyEntry, emptyEntry, listEntry 65, listEntry 64, 0xFF⟩) toDiscard
    t.puller.current.map (fun y => (y.strip, y.tasks.length)) = some (65, 1) ∧ t.pullState = .waiting ∧
    t.puller.timer = none ∧ t.track.exit.map (fun x => x.pullState) = some .none ∧
    t.store.records.map (fun r => r.pinned) = [false, true, true, false, false] := by decide +kernel
/-- Checks of R111 at their edges: the entry type, the window column, and the order of the strips. -/
theorem witness_TrackSetIsJudged_refused :
    let answer (s : State) (b : TrackSetBody) := (after (.trackSet 1 b) s).ports.u.tx.map fun e => e.msg
    let no (r : Reason) : List Msg := [.controlReply 7 1 (.refused r)]
    let two : State := { unknown with track := { unknown.track with
      entry := some { strip with id := 66 }, taken := 2 } }
    answer ready ⟨emptyEntry, emptyEntry, emptyEntry, emptyEntry, 0xFF⟩ = no .busy ∧
    answer unknown ⟨⟨3, 0, 0, 0⟩, emptyEntry, emptyEntry, emptyEntry, 0xFF⟩ = no .range ∧
    answer unknown ⟨emptyEntry, listEntry 65, emptyEntry, emptyEntry, 2⟩ = no .range ∧
    answer unknown ⟨emptyEntry, ⟨2, 9, 3, 0⟩, emptyEntry, emptyEntry, 0⟩ = no .invalid ∧
    answer unknown ⟨listEntry 65, emptyEntry, emptyEntry, emptyEntry, 0xFF⟩ = no .inconsistent ∧
    answer two ⟨emptyEntry, emptyEntry, listEntry 65, listEntry 66, 0xFF⟩ = no .inconsistent := by
  decide +kernel
theorem witness_PullsAreOrderedAndEnd : pulling.inTurn .pt (.pullAbort env 64) = true ∧
    pulling.inTurn .u (.controlPullCancel 1) = true ∧ CurrentInv pulling ∧
    CurrentInv awaiting ∧ awaiting.pullState = .waiting ∧ (awaiting.port .pt).state = .live ∧
    (after .pullOrderQueued awaiting).pullState = .ordered := by decide +kernel
/-- R129: abort gives every task its NO-RESULT record and raises nothing; the timer raises PULL-TIMEOUT. -/
theorem witness_PullsAreOrderedAndEnd_records :
    let s : State := { pulling with puller := { pulling.puller with
      current := some ⟨64, 2, [task, { task with unit := 1, ballRecord := 3, stitchRecord := 4 }], 3, false⟩ } }
    let records (c : Instr) := (after c s).puller.log.map fun r => (r.number, r.unit, r.stitchRecord, r.verdict)
    CurrentInv s ∧ records (.pullAbort env 64) = [(1, 0, 2, .noResult), (2, 1, 4, .noResult)] ∧
    (after (.pullAbort env 64) s).alarms.entries = [] ∧
    (after .pullStationTimerExpiry s).alarms.entries.map (fun y => y.cls) = [.pullTimeout] := by
  decide +kernel
/-- R100, R128: a TRANSFER that the pull alone blocks goes when the pull is cancelled, or has its last
result; each has its PULL-REPORT. -/
theorem witness_PullsAreOrderedAndEnd_gate :
    let s := after (.indexTransfer true) pulling
    let sent (c : Instr) := ((after c s).track.inFlight.isSome, (after c s).ports.u.tx.map fun e => e.msg)
    CurrentInv s ∧ s.track.held.map (fun q => q.reasons) = some ⟨false, true, false⟩ ∧
    sent (.controlPullCancel 1) =
      (true, [.pullReport 1 .noResult none none, .controlReply 3 1 .accepted]) ∧
    sent (.pullResult env 64 0 0 40 4) =
      (true, [.forwarded ⟨0xE0, 0x20, 0x31, [0, 64, 0, 0, 0, 40, 4]⟩,
        .pullReport 1 .pass (some 40) (pullModeOf 4)]) := by decide +kernel
/-- A mode of 4 matches and one of 5 is stray. -/
theorem witness_PullResultsAreJudged : pulling.inTurn .pt (.pullResult env 64 0 0 40 4) = true ∧ pulling.pullState = .ordered ∧
    (after (.pullResult env 64 0 0 40 4) pulling).puller.stray = 0 ∧
    (after (.pullResult env 64 0 0 40 5) pulling).puller.stray = 1 := by decide +kernel
theorem witness_PageScrollAndAckKeys : ready.inTurn .ot (.keyPage 5) = true ∧
    ready.inTurn .ot .keyScrollUp = true ∧ ready.inTurn .ot .keyScrollDown = true ∧
    ready.inTurn .ot .keyAck = true ∧
    (after (.keyPage 5) ready).term.page = 5 ∧ (after (.keyPage 6) ready).term.denied = true := by
  decide +kernel
theorem witness_HeadKeysAndControls : ready.inTurn .ot (.keyPause 1 2) = true ∧
    ready.inTurn .ot (.keyReleasePull 0) = true ∧ ready.inTurn .ot (.keyUnknown 9) = true ∧
    ready.inTurn .u (.controlPause 0 1 2) = true ∧ ready.inTurn .u (.controlRejectUnit 0 1) = true ∧
    (after (.keyPause 1 2) { ready with term := { ready.term with level := 1 } }).headB.pause =
      some .afterUnit := by decide +kernel
/-- R47, R29, R78, R100: the rejected unit ends its claim, OPERATOR is added for AFTER-UNIT, its pins go, and
the held STEP is forwarded. -/
theorem witness_OperatorChoices_reject :
    let s : State := { holding with
      headA := { holding.headA with state := .idle, bond := none, pause := some .afterUnit }
      store := { holding.store with records := [boundRecord 9 1 .ball .a] } }
    let t := s.rejectHeadUnit .a
    (s.head .a).claim = some 1 ∧ s.track.held.isSome = true ∧
    (t.headA.claim, t.headA.state, t.headA.holds.operator) = (none, .hold, true) ∧
    t.store.records.map (fun r => r.pinned) = [false] ∧ t.track.held = none ∧
    t.track.inFlight.map (fun q => q.kind) = some .step := by decide +kernel
theorem witness_ProgramWrites : ready.inTurn .u (.tableWriteProgram 0 31 .erase) = true ∧
    (after (.tableWriteProgram 0 31 .erase) ready).ports.u.tx.map (fun e => e.msg) =
      [.controlReply 0 0 .accepted] ∧
    (after (.tableWriteProgram 0 32 .erase) ready).ports.u.tx.map (fun e => e.msg) =
      [.controlReply 0 0 (.refused .range)] := by decide +kernel
/-- A run that ends with slot 255 is written, and one past it is refused RANGE. -/
theorem witness_DeviceAndMapWrites :
    let x : SlotBody := ⟨31, 31, 3, false⟩
    let r (k : Byte) := (after (.tableWriteMapEntries 0 7 (.put (k, 8, List.replicate 8 x))) ready).ports.u.tx.map
      fun e => e.msg
    (r 248, r 249) = ([.controlReply 0 0 .accepted], [.controlReply 0 0 (.refused .range)]) := by
  decide +kernel
/-- R135: codes 0, 12, 19 and the first that names no class. -/
theorem witness_PlanActionAndNodeWrites_classes : (classOf 0, classOf 12, classOf 19, classOf 20) =
    (some .nonstickBall, some .jam, some .test, none) := by decide
theorem witness_PlanActionAndNodeWrites :
    let r (k : Byte) := (after (.tableWriteAction 0 k (.put ⟨1, 0, 0⟩)) ready).ports.u.tx.map fun e => e.msg
    (r 19, r 20) = ([.controlReply 0 0 .accepted], [.controlReply 0 0 (.refused .range)]) := by
  decide +kernel
/-- R177: the entry of a frame still arriving is no frame of the receive queue. -/
theorem witness_TableReadsAnswer :
    let h : Header := ⟨0xE0, 0x20, 0x11, 1⟩
    let s := withPort .ha { receivingPort h .stored with rx := [⟨h, some [0]⟩, ⟨h, none⟩] }
    s.inTurn .u (.tableReadPortStatus 0 1) = true ∧
    (after (.tableReadPortStatus 0 1) s).ports.u.tx.map (fun e => e.msg) =
      [.readReply 0 11 1 (.portStatus .live true .r25 1 0 0 false false Counters.zero)] := by decide +kernel
theorem witness_FetchesAndReplies : ready.inTurn .u (.recordFetchBond 1 1 16) = true ∧
    (after (.recordFetchBond 1 1 16) ready).store.fetch = some (.bond 1 1 16) ∧
    (after (.recordFetchBond 1 1 17) ready).store.fetch = none := by decide +kernel
theorem witness_SettingsLevelsAndPlainRequests : ready.inTurn .u (.terminalLevel 0 2) = true ∧
    (after (.terminalLevel 0 2) ready).term.level = 2 ∧ (after (.terminalLevel 0 3) ready).term.level = 0 ∧
    (after (.controlScreenRefresh 0 26) ready).term.refreshPeriod = 25 := by decide +kernel
theorem witness_RunConfigSupplyLevelAndStops : ready.inTurn .u (.controlRun 0) = true ∧
    (after (.controlMagStop 0 2 true) ready).track.magIn.state = .exhausted ∧
    (after (.controlMagStop 0 40 true) ready).track.magIn.state = .ready := by decide +kernel
theorem witness_CapturesAndClears : ready.inTurn .u (.controlTraceCapture 0 1 true) = true ∧
    (after (.controlTraceCapture 0 1 true) ready).engineB.capture = true := by decide +kernel
/-- R177: port U's own counters are cleared, its LINK-ERROR ends, and the reply follows. -/
theorem witness_CapturesAndClears_counters :
    let s := (alarmed .linkError (.port .u)).updatePort .u fun p =>
      { p with tx := p.tx.take 3, count := { p.count with crc := 100 } }
    let t := after (.controlClearCounters 0 0) s
    AlarmInv s ∧ s.ports.u.state ≠ .down ∧ s.ports.u.tx.length ≤ 3 ∧ t.ports.u.count = Counters.zero ∧
    t.alarms.entries.map (fun e => e.state) = [.clearedUnacked] ∧
    (t.ports.u.tx.map fun e => e.msg).contains (.controlReply 3 0 .accepted) = true := by decide +kernel
/-- R140: an acknowledged LINK-ERROR leaves when its port is named, one that waits is CLEARED, and that
of a port not named stays. -/
theorem witness_CapturesAndClears_conditions :
    let s := (alarmed .linkError (.port .ix)).raise .linkError (.port .pt)
    let s := after (.alarmAck 0 16 5) s
    let states (c : Byte) := (after (.controlClearCounters 0 c) s).alarms.entries.map fun e => (e.obj, e.state)
    AlarmInv s ∧ s.inTurn .u (.controlClearCounters 0 3) = true ∧
    states 3 = [(.port .pt, .activeUnacked)] ∧
    states 4 = [(.port .ix, .activeAcked), (.port .pt, .clearedUnacked)] := by decide +kernel
theorem witness_PortControls : (withPort .ha quietPort).inTurn .u (.controlPortDisable 0 1 false) = true ∧
    HeadInv (armed.head .a) ∧
    (after (.controlPortDisable 0 1 true) armed).headA.state = .offline ∧
    ((after (.controlPortDisable 0 1 false) (withPort .ha quietPort)).port .ha).state = .down := by
  decide +kernel
theorem witness_AlarmRequests : (alarmed .test .part).inTurn .u (.alarmAck 0 19 7) = true ∧ AlarmInv (alarmed .test .part) ∧
    (after (.alarmAck 0 19 7) (alarmed .test .part)).alarms.entries.length ≤ 1 := by decide +kernel
/-- 07 TABLE 6, step 4a: after a jam and a TRACK-SET, ALARM-ACK ALL empties the list, with a note for each
entry and its reply, and both heads are IDLE. -/
theorem witness_AlarmRequests_all :
    let s := ((((alarmed .jam .track).raise .trackUnknown .track).conditionGone .jam .track).conditionGone
      .trackUnknown .track).updatePort .u fun p => { p with tx := [] }
    let t := after (.alarmAckAll 0) s
    s.inTurn .u (.alarmAckAll 0) = true ∧ AlarmInv s ∧ (s.headA.state, s.alarms.safeStop) = (.hold, true) ∧
    t.alarms.entries = [] ∧ t.alarms.safeStop = false ∧ (t.headA.state, t.headB.state) = (.idle, .idle) ∧
    t.ports.u.tx.map (fun e => e.msg) = [.alarmNote .jam .track 7 .removed,
      .alarmNote .trackUnknown .track 4 .removed, .controlReply 5 0 .accepted] := by decide +kernel
/-- Step 3b: acknowledged first, both entries wait in ACTIVE-ACKED and go on holding the heads. -/
theorem witness_AlarmRequests_waits :
    let s := (alarmed .jam .track).raise .trackUnknown .track
    let t := after (.alarmAckAll 0) s
    s.inTurn .u (.alarmAckAll 0) = true ∧ AlarmInv s ∧
    t.alarms.entries.map (fun y => y.state) = [.activeAcked, .activeAcked] ∧ t.alarms.safeStop = true ∧
    t.headA = s.headA ∧ t.headA.state = .hold := by decide +kernel

end Sys2Proof.Tests
end

section
/-! SUPPORT. The TABLE-WRITE and TABLE-READ commands: what one does in its turn, what each write stores and
answers, and the statements about programs, device types, wire maps, plans, limits, actions, nodes and
the state after a reset. -/

namespace Sys2Proof.Machine

/-! ## One request (R1, R2, R179) -/

/-- R1: the request `c` is answered by `o.2` and leaves the tables `o.1`; nothing else changes. -/
def Written (s : State) (c : Instr) (tag : Byte) (o : Tables × Reply) (t : State) : Prop :=
  Frame [.tables, .ports] s t ∧ t.ports = ((s.takeRx .u c).reply 0 tag o.2).ports ∧ t.tables = o.1

/-- R1, R2: what a write leaves of the tables `T` and answers: steps 2 and 3, then what `stored` says of
steps 4 and 5. -/
def writeOutcome (T : Tables) (range used : Bool) (stored : Except Reason (Tables × Bool)) :
    Tables × Reply :=
  if !range then (T, .refused .range)
  else if used then (T, .refused .inUse)
  else match stored with
    | .error r => (T, .refused r)
    | .ok (U, clamped) => (U, written clamped)

section
variable {s t : State} {c : Instr} {tag : Byte} {T U : Tables} {range used clamped : Bool}
  {stored : Except Reason (Tables × Bool)} {r : Reason}

/-- R1 step 2. -/
theorem Written.outOfRange (h : Written s c tag (writeOutcome T range used stored) t)
    (hr : range = false) : Written s c tag (T, .refused .range) t := by subst hr; exact h

/-- R1 step 3. -/
theorem Written.inUse (h : Written s c tag (writeOutcome T range used stored) t)
    (hr : range = true) (hu : used = true) : Written s c tag (T, .refused .inUse) t := by
  subst hr hu; exact h

/-- R1 step 5: the contents are refused. -/
theorem Written.error (h : Written s c tag (writeOutcome T range used stored) t)
    (hr : range = true) (hu : used = false) (hs : stored = .error r) :
    Written s c tag (T, .refused r) t := by subst hr hu hs; exact h

/-- R1: every check has passed. -/
theorem Written.ok (h : Written s c tag (writeOutcome T range used stored) t)
    (hr : range = true) (hu : used = false) (hs : stored = .ok (U, clamped)) :
    Written s c tag (U, written clamped) t := by subst hr hu hs; exact h

/-- R1 steps 2 and 3: the index, then the entry's use; `P` is what is left to the steps after them. -/
theorem Written.checks {n k : Nat} {inUse : Bool} {P : Prop}
    (h : Written s c tag (writeOutcome T (n < k) used stored) t) (hu : inUse = true → used = true)
    (hP : decide (n < k) = true → inUse = false → P) :
    if k ≤ n then Written s c tag (T, .refused .range) t
    else if inUse = true then Written s c tag (T, .refused .inUse) t
    else P := by
  split
  · next hn => exact h.outOfRange (by simpa using hn)
  · next hn =>
    have hr : decide (n < k) = true := by simpa using hn
    split
    · next hi => exact h.inUse hr (hu hi)
    · next hi => exact hP hr (Bool.eq_false_iff.mpr hi)

/-- R1: a refused write changes the queue of port U alone. -/
theorem Written.refused (h : Written s c tag (s.tables, .refused r) t) :
    Frame [.ports] s t ∧ t.ports = ((s.takeRx .u c).reply 0 tag (.refused r)).ports := by
  obtain ⟨hf, hp, ht⟩ := h
  refine ⟨?_, hp⟩
  simpa [Frame, ht] using hf

/-- R1: a write that passed is ACCEPTED where no value was clamped. -/
theorem written_eq {p : Prop} [Decidable p] (h : clamped = false ↔ p) :
    written clamped = if p then .accepted else .clamped := by
  cases clamped
  · rw [if_pos (h.mp rfl)]; rfl
  · rw [if_neg fun hp => Bool.noConfusion (h.mpr hp)]; rfl

end

theorem State.tableWrite_eq {α : Type} (s : State) (range used : Bool) (w : WriteOp α)
    (store : WriteOp α → Except Reason (Tables × Bool)) :
    s.tableWrite range used w store =
      ({ s with tables := (writeOutcome s.tables range used (store w)).1 },
        (writeOutcome s.tables range used (store w)).2) := by
  cases range with
  | false => rfl
  | true =>
    cases used with
    | true => rfl
    | false =>
      unfold State.tableWrite writeOutcome
      cases store w <;> rfl

/-- R179: a write in its turn leaves what its body leaves, and its reply. -/
theorem State.request_written (s : State) (c : Instr) (tag : Byte) (body : State → State × Reply)
    (o : Tables × Reply) (h : s.inTurn .u c = true)
    (hb : body (s.takeRx .u c) = ({ s.takeRx .u c with tables := o.1 }, o.2)) :
    Written s c tag o (s.request c 0 tag body) := by
  rw [State.request, s.taken_inTurn .u c _ h, hb]
  refine ⟨Frame.markChanges ?_ s, by simp, by simp⟩
  have hu : Frame [.tables, .ports] s (s.takeRx .u c) := (s.takeRx_frame .u c).mono (by simp)
  have ht : Frame [.tables, .ports] (s.takeRx .u c) { s.takeRx .u c with tables := o.1 } := by
    simp [Frame]
  exact (hu.trans ht).trans ((State.reply_frame _ 0 tag o.2).mono (by simp))

/-- R1: a write of a table that reads the tables, the track and the part as they stood. -/
theorem State.request_tableWrite {α : Type} (s : State) (c : Instr) (tag : Byte) (range : Bool)
    (used : State → Bool) (w : WriteOp α) (store : Tables → WriteOp α → Except Reason (Tables × Bool))
    (h : s.inTurn .u c = true) (hu : used (s.takeRx .u c) = used s) :
    Written s c tag (writeOutcome s.tables range (used s) (store s.tables w))
      (s.request c 0 tag fun u => u.tableWrite range (used u) w (store u.tables)) :=
  s.request_written c tag _ _ h (by rw [State.tableWrite_eq, hu]; rfl)

/-! ## Clamping (R1 step 4) -/

theorem clampTo_eq_ite (lo hi n : Nat) (h : lo ≤ hi) :
    clampTo lo hi n = if n < lo then lo else if hi < n then hi else n := by
  unfold clampTo
  split
  · omega
  · split <;> omega

theorem clampTo_zero (hi n : Nat) : clampTo 0 hi n = min hi n := by
  unfold clampTo; omega

/-! ## Programs (R4 to R7) -/

theorem Segment.clamp_eq (x : Segment) : x.clamp = ⟨min 2000 x.level, x.duration⟩ := by
  rw [Segment.clamp, clampTo_zero]

/-- R5: the stored program of a kind, field by field. -/
theorem rawProgram_clamp (b : ProgramBody) (k : BondKind) :
    let clamp (lo hi v : Nat) : Nat := if v < lo then lo else if hi < v then hi else v
    let segs (count : Byte) (l : List SlotPair) : List Segment :=
      (l.take (min count.toNat 4)).map fun y => ⟨min 2000 y.level.toNat, y.duration.toNat⟩
    (rawProgram b k).clamp =
      { kind := k
        force := segs b.forceCount b.force
        us := segs b.usCount b.us
        window := clamp 1 16383 b.window.toNat
        eMin := min 8388607 b.eMin.toNat
        eMax := min 8388607 b.eMax.toNat
        dNonstick := b.dNonstick.toNat
        dMin := b.dMin.toNat
        dMax := b.dMax.toNat
        iPeakMax := min 32768 b.iPeakMax.toNat
        efo := if b.efoPresent then some ⟨min 2000 b.tMin.toNat, min 2000 b.tMax.toNat,
          clamp 1 50 b.efoTimeout.toNat⟩ else none
        rebond := min 3 b.rebond.toNat
        weakRun := clamp 1 15 b.weakRun.toNat
        strict := b.strict } := by
  have hsegs (count : Byte) (l : List SlotPair) : (segmentsOf count l).map Segment.clamp =
      (l.take (min count.toNat 4)).map fun y => ⟨min 2000 y.level.toNat, y.duration.toNat⟩ := by
    rw [segmentsOf, List.map_map]
    exact List.map_congr_left fun y _ => Segment.clamp_eq _
  have hefo (x : EfoPart) : x.clamp = ⟨min 2000 x.tMin, min 2000 x.tMax, clampTo 1 50 x.timeout⟩ := by
    simp only [EfoPart.clamp, clampTo_zero]
  simp only [Program.clamp, rawProgram, hsegs, clampTo_zero, ← clampTo_eq_ite 1 16383 _ (by decide),
    ← clampTo_eq_ite 1 15 _ (by decide), ← clampTo_eq_ite 1 50 _ (by decide)]
  cases b.efoPresent <;> simp [hefo]

/-- R6: the consistency rule, the EFO part by the kind. -/
theorem Program.consistent_eq (p : Program) : p.consistent =
    (decide (1 ≤ p.force.length) && decide (1 ≤ p.us.length) && decide (p.eMin ≤ p.eMax) &&
      decide (p.dNonstick ≤ p.dMin) && decide (p.dMin ≤ p.dMax) &&
      (if p.kind = .ball then p.efo.any fun y => y.tMin ≤ y.tMax else p.efo.isNone)) := by
  have hne {α : Type} (l : List α) : (!l.isEmpty) = decide (1 ≤ l.length) := by cases l <;> simp
  unfold Program.consistent
  rw [hne, hne]
  cases hk : p.kind <;> cases he : p.efo <;> simp

theorem bondKindOf_eq (x : Byte) : bondKindOf x =
    if 1 < x.toNat then none else some (if x = 0 then .ball else .stitch) := by
  unfold bondKindOf
  by_cases h0 : x = 0
  · simp [h0]
  · by_cases h1 : x = 1
    · simp [h1]
    · rw [if_neg h0, if_neg h1, if_pos (by bv_omega)]

/-- R4 to R6: what a program write with contents stores, by the kind `k` that its bytes name. -/
theorem writeProgram_put (T : Tables) (n : Nat) (b : ProgramBody) (k : BondKind)
    (hk : k = if b.kind = 0 then .ball else .stitch) :
    let p := (rawProgram b k).clamp
    writeProgram T n (.put b) =
      if 1 < b.kind.toNat ∨ p.consistent = false then .error .inconsistent
      else .ok (T.setProgram n (some p),
        p != rawProgram b k || 4 < b.forceCount.toNat || 4 < b.usCount.toNat) := by
  intro p
  simp only [writeProgram, bondKindOf_eq, ← hk]
  by_cases h : 1 < b.kind.toNat
  · simp [h]
  · cases hp : p.consistent <;> simp [h, p, hp]

theorem exec_tableWriteProgram (tag index : Byte) (w : WriteOp ProgramBody) (s : State)
    (h : s.inTurn .u (.tableWriteProgram tag index w) = true) :
    ∃ t, exec (.tableWriteProgram tag index w) s = .next t ∧
      Written s (.tableWriteProgram tag index w) tag
        (writeOutcome s.tables (index.toNat < 32) (programInUse s index.toNat)
          (writeProgram s.tables index.toNat w)) t :=
  ⟨_, rfl, s.request_tableWrite _ tag _ (programInUse · index.toNat) w
    (writeProgram · index.toNat) h rfl⟩

/-- Settles O51: the five steps of R1, one after the other. -/
theorem programWrites : Obligations.ProgramWrites := by
  unfold Obligations.ProgramWrites
  intro tag index w s c n used clamp segs stored consistent writes refused h
  obtain ⟨t, ht, hw⟩ := exec_tableWriteProgram tag index w s h
  refine ⟨t, ht, ?_⟩
  by_cases hn : 32 ≤ n
  · rw [if_pos hn]
    exact (hw.outOfRange (by simpa using hn)).refused
  have hr : decide (index.toNat < 32) = true := by simpa using hn
  rw [if_neg hn]
  by_cases hu : used = true
  · rw [if_pos hu]
    exact (hw.inUse hr hu).refused
  rw [if_neg hu]
  have hu : programInUse s index.toNat = false := Bool.eq_false_iff.mpr hu
  refine ⟨?_, ?_⟩
  · rintro rfl
    exact hw.ok hr hu rfl
  · rintro b rfl
    have hstored : stored b = (rawProgram b (stored b).kind).clamp := (rawProgram_clamp b _).symm
    have hput := writeProgram_put s.tables index.toNat b (stored b).kind rfl
    simp only [← hstored] at hput
    have hcons : consistent (stored b) = (stored b).consistent := (Program.consistent_eq _).symm
    rw [hcons]
    split
    · next hbad =>
      rw [if_pos hbad] at hput
      exact (hw.error hr hu hput).refused
    · next hgood =>
      rw [if_neg hgood] at hput
      rw [← written_eq (clamped := stored b != rawProgram b (stored b).kind ||
        4 < b.forceCount.toNat || 4 < b.usCount.toNat) (by simp [and_assoc])]
      exact hw.ok hr hu hput

/-! ## Device types (R9, R10, R12) -/

/-- R10, R12: an entry is in use while a strip of its type stands on the track, and for ERASE while it is
the input device type of a part in RUN. -/
theorem exec_tableWriteDeviceType (tag index : Byte) (w : WriteOp DeviceBody) (s : State)
    (h : s.inTurn .u (.tableWriteDeviceType tag index w) = true) :
    ∃ t, exec (.tableWriteDeviceType tag index w) s = .next t ∧
      Written s (.tableWriteDeviceType tag index w) tag
        (writeOutcome s.tables (index.toNat < 8)
          (deviceOnTrack s index.toNat || inputErased s index.toNat w)
          (writeDevice s.tables index.toNat w)) t :=
  ⟨_, rfl, s.request_tableWrite _ tag _
    (fun u => deviceOnTrack u index.toNat || inputErased u index.toNat w) w
    (writeDevice · index.toNat) h rfl⟩

/-- R10: a write of a device type that stands on no strip. -/
theorem Written.device {s t : State} {c : Instr} {tag : Byte} {n : Nat} {w : WriteOp DeviceBody}
    (hw : Written s c tag (writeOutcome s.tables (n < 8) (deviceOnTrack s n || inputErased s n w)
      (writeDevice s.tables n w)) t) (hr : decide (n < 8) = true) (hu : deviceOnTrack s n = false) :
    (w = .erase →
      if s.mgmt.run = true ∧ s.track.inputType = n then Written s c tag (s.tables, .refused .inUse) t
      else Written s c tag (s.tables.setDevice n none, .accepted) t) ∧
    ∀ b, w = .put b →
      if 7 < b.map.toNat then Written s c tag (s.tables, .refused .inconsistent) t
      else
        let columns := max 1 (min b.columns.toNat 8)
        let rows := max 1 (min b.rows.toNat 4)
        Written s c tag (s.tables.setDevice n (some ⟨columns, rows, b.map.toNat⟩),
          if columns = b.columns.toNat ∧ rows = b.rows.toNat then .accepted else .clamped) t := by
  refine ⟨?_, ?_⟩
  · rintro rfl
    split
    · next hrun => exact hw.inUse hr (by simp [inputErased, hrun])
    · next hrun => exact hw.ok hr (by simpa [hu, inputErased] using hrun) rfl
  · rintro b rfl
    have hu : (deviceOnTrack s n || inputErased s n (.put b)) = false := by simp [hu, inputErased]
    split
    · next hmap => exact hw.error hr hu (if_pos hmap)
    · next hmap =>
      intro columns rows
      rw [← written_eq (clamped := (⟨columns, rows, b.map.toNat⟩ : DeviceType) !=
        ⟨b.columns.toNat, b.rows.toNat, b.map.toNat⟩) (by simp)]
      exact hw.ok hr hu (if_neg hmap)

/-! ## Wire maps (R14, R15, R17) -/

/-- R17: the map is in use while the device type of a strip on the track names it. -/
theorem mapOnTrack_eq (s : State) (n : Nat) : mapOnTrack s n =
    s.track.strips.any fun x => (s.tables.device x.device).any fun y => y.map == n := by
  unfold mapOnTrack Tables.mapOfStrip
  congr 1
  funext x
  cases s.tables.device x.device <;> rfl

theorem exec_tableWriteMapLength (tag index : Byte) (w : WriteOp W16) (s : State)
    (h : s.inTurn .u (.tableWriteMapLength tag index w) = true) :
    ∃ t, exec (.tableWriteMapLength tag index w) s = .next t ∧
      Written s (.tableWriteMapLength tag index w) tag
        (writeOutcome s.tables (index.toNat < 8) (mapOnTrack s index.toNat)
          (writeMapLength s.tables index.toNat w)) t :=
  ⟨_, rfl, s.request_tableWrite _ tag _ (mapOnTrack · index.toNat) w
    (writeMapLength · index.toNat) h rfl⟩

theorem exec_tableWriteMapEntries (tag index : Byte) (w : WriteOp (Byte × Byte × List SlotBody))
    (s : State) (h : s.inTurn .u (.tableWriteMapEntries tag index w) = true) :
    ∃ t, exec (.tableWriteMapEntries tag index w) s = .next t ∧
      Written s (.tableWriteMapEntries tag index w) tag
        (writeOutcome s.tables (index.toNat < 8 && runInRange w) (mapOnTrack s index.toNat)
          (writeMapEntries s.tables index.toNat w)) t :=
  ⟨_, rfl, s.request_tableWrite _ tag _ (mapOnTrack · index.toNat) w
    (writeMapEntries · index.toNat) h rfl⟩

/-- R14: a length write to a map that is not in use. -/
theorem Written.mapLength {s t : State} {c : Instr} {tag : Byte} {n : Nat} {w : WriteOp W16}
    (hw : Written s c tag (writeOutcome s.tables (n < 8) (mapOnTrack s n)
      (writeMapLength s.tables n w)) t) (hr : decide (n < 8) = true) (hu : mapOnTrack s n = false) :
    (w = .erase → Written s c tag (s.tables.setMap n WireMap.cleared, .accepted) t) ∧
    ∀ v, w = .put v → Written s c tag
      (s.tables.setMap n { s.tables.map n with length := min v.toNat 256 },
        if v.toNat ≤ 256 then .accepted else .clamped) t := by
  refine ⟨?_, ?_⟩
  · rintro rfl
    exact hw.ok hr hu rfl
  · rintro v rfl
    rw [← written_eq (clamped := 256 < v.toNat) (by simp), min_comm, ← clampTo_zero]
    exact hw.ok hr hu rfl

theorem runInRange_put (v : Byte × Byte × List SlotBody) : runInRange (.put v) = false ↔
    v.2.1.toNat = 0 ∨ 8 < v.2.1.toNat ∨ 256 < v.1.toNat + v.2.1.toNat := by
  obtain ⟨first, count, slots⟩ := v
  simp only [runInRange, Bool.and_eq_false_iff, decide_eq_false_iff_not]
  omega

theorem slotOfBody_eq (x : SlotBody) :
    slotOfBody x = ⟨x.ball.toNat, x.stitch.toNat, min 3 x.loop.toNat, x.skip⟩ := by
  rw [slotOfBody, clampTo_zero]

/-- R15: a run of slots of a map that is not in use, inside the map. -/
theorem Written.mapEntries {s t : State} {c : Instr} {tag : Byte} {n : Nat}
    {v : Byte × Byte × List SlotBody}
    (hw : Written s c tag (writeOutcome s.tables (n < 8 && runInRange (.put v)) (mapOnTrack s n)
      (writeMapEntries s.tables n (.put v))) t)
    (hr : (decide (n < 8) && runInRange (.put v)) = true) (hu : mapOnTrack s n = false) :
    let run := v.2.2.take v.2.1.toNat
    if run.any (fun y => 31 < y.ball.toNat || 31 < y.stitch.toNat) = true then
      Written s c tag (s.tables, .refused .inconsistent) t
    else
      let old := (s.tables.map n).slots
      let new := run.map fun y : SlotBody =>
        Slot.mk y.ball.toNat y.stitch.toNat (min 3 y.loop.toNat) y.skip
      Written s c tag (s.tables.setMap n { s.tables.map n with
          slots := old.take v.1.toNat ++ new ++ old.drop (v.1.toNat + run.length) },
        if run.all (fun y => y.loop.toNat ≤ 3) = true then .accepted else .clamped) t := by
  intro run
  split
  · next hbad => exact hw.error hr hu (if_pos hbad)
  · next hgood =>
    intro old new
    have hnew : run.map slotOfBody = new := List.map_congr_left fun y _ => slotOfBody_eq y
    have hput : old.take v.1.toNat ++ new ++ old.drop (v.1.toNat + run.length) =
        putSlots old v.1.toNat (run.map slotOfBody) := by
      rw [putSlots, List.length_map, hnew]
    rw [hput, ← written_eq (clamped := run.any fun y => 3 < y.loop.toNat) (by simp)]
    exact hw.ok hr hu (if_neg hgood)

/-- Settles O52: one part for each of the three tables. -/
theorem deviceAndMapWrites : Obligations.DeviceAndMapWrites := by
  unfold Obligations.DeviceAndMapWrites
  intro tag index d l m s n T onTrack mapUsed answer device map cd cl cm
  have hmap : mapOnTrack s index.toNat = mapUsed := mapOnTrack_eq s n
  refine ⟨fun h => ?_, fun h => ?_, fun h => ?_⟩
  · obtain ⟨t, ht, hw⟩ := exec_tableWriteDeviceType tag index d s h
    exact ⟨t, ht, hw.checks (fun hu => Bool.or_eq_true_iff.mpr (.inl hu)) fun hr hu => hw.device hr hu⟩
  · obtain ⟨t, ht, hw⟩ := exec_tableWriteMapLength tag index l s h
    exact ⟨t, ht, hw.checks hmap.trans fun hr hu => hw.mapLength hr (hmap.trans hu)⟩
  · obtain ⟨t, ht, hw⟩ := exec_tableWriteMapEntries tag index m s h
    refine ⟨t, ht, fun hn => ?_, ?_, ?_⟩
    · exact hw.outOfRange (by simp [Nat.not_lt.mpr (show 8 ≤ index.toNat from hn)])
    · rintro hn rfl
      have hr : (decide (index.toNat < 8) && runInRange .erase) = true := by
        simpa [runInRange] using hn
      cases hu : mapUsed with
      | true => exact hw.inUse hr (hmap.trans hu)
      | false => exact hw.error hr (hmap.trans hu) rfl
    · rintro v rfl hn
      have hn : decide (index.toNat < 8) = true := by simpa using hn
      intro first count run
      by_cases hv : count = 0 ∨ 8 < count ∨ 256 < first + count
      · rw [if_pos hv]
        exact hw.outOfRange (by rw [(runInRange_put v).mpr hv, Bool.and_false])
      have hr : (decide (index.toNat < 8) && runInRange (.put v)) = true := by
        rw [hn, Bool.true_and, ← Bool.not_eq_false, runInRange_put]
        exact hv
      rw [if_neg hv]
      by_cases hu : mapUsed = true
      · rw [if_pos hu]
        exact hw.inUse hr (hmap.trans hu)
      · rw [if_neg hu]
        exact hw.mapEntries hr (hmap.trans (Bool.eq_false_iff.mpr hu))

/-! ## Plans, limits, actions and nodes (R116, R117, R135, R136, R176) -/

theorem exec_tableWritePullPlan (tag index : Byte) (w : WriteOp PlanBody) (s : State)
    (h : s.inTurn .u (.tableWritePullPlan tag index w) = true) :
    ∃ t, exec (.tableWritePullPlan tag index w) s = .next t ∧
      Written s (.tableWritePullPlan tag index w) tag
        (writeOutcome s.tables (index.toNat < 8) (deviceOnTrack s index.toNat)
          (writePlan s.tables index.toNat w)) t :=
  ⟨_, rfl, s.request_tableWrite _ tag _ (deviceOnTrack · index.toNat) w
    (writePlan · index.toNat) h rfl⟩

theorem exec_tableWritePullLimits (tag index : Byte) (w : WriteOp LimitsBody) (s : State)
    (h : s.inTurn .u (.tableWritePullLimits tag index w) = true) :
    ∃ t, exec (.tableWritePullLimits tag index w) s = .next t ∧
      Written s (.tableWritePullLimits tag index w) tag
        (writeOutcome s.tables (index.toNat < 4) false (writeLimits s.tables index.toNat w)) t :=
  ⟨_, rfl, s.request_tableWrite _ tag _ (fun _ => false) w (writeLimits · index.toNat) h rfl⟩

/-- R135: the code of the class that a class code names is that code. -/
theorem code_of_classOf {x : Byte} {k : AlarmClass} (h : classOf x = some k) : k.code = x.toNat := by
  obtain ⟨hlt, rfl⟩ := List.getElem?_eq_some_iff.mp (show AlarmClass.all[x.toNat]? = some k from h)
  exact List.Nodup.idxOf_getElem (by decide) _ hlt

theorem classOf_eq_none (x : Byte) : classOf x = none ↔ 20 ≤ x.toNat :=
  List.getElem?_eq_none_iff

theorem actionOf_eq_none (x : Byte) : actionOf x = none ↔ 4 ≤ x.toNat :=
  List.getElem?_eq_none_iff

theorem AlarmClass.ofHeads_eq_false (k : AlarmClass) :
    k.ofHeads = false ↔ k.objects ≠ [.head .a, .head .b] := by
  simp [AlarmClass.ofHeads]

/-- R136 step 2: a class code that names no class is refused RANGE. -/
theorem exec_tableWriteAction_range (tag index : Byte) (w : WriteOp ActionBody) (s : State)
    (h : s.inTurn .u (.tableWriteAction tag index w) = true) (hk : classOf index = none) :
    ∃ t, exec (.tableWriteAction tag index w) s = .next t ∧
      Written s (.tableWriteAction tag index w) tag (s.tables, .refused .range) t :=
  ⟨_, rfl, s.request_written _ tag _ _ h (by simp only [hk]; rfl)⟩

theorem exec_tableWriteAction (tag index : Byte) (w : WriteOp ActionBody) (s : State) (k : AlarmClass)
    (h : s.inTurn .u (.tableWriteAction tag index w) = true) (hk : classOf index = some k) :
    ∃ t, exec (.tableWriteAction tag index w) s = .next t ∧
      Written s (.tableWriteAction tag index w) tag
        (writeOutcome s.tables true false (writeAction s.tables k w)) t :=
  ⟨_, rfl, s.request_written _ tag _ _ h (by simp only [hk, State.tableWrite_eq]; rfl)⟩

theorem portCode_eq_idxOf (x : Port) : portCode x = allPorts.idxOf x := by cases x <;> rfl

/-- 11.7: the code of the port that a port code names is that code. -/
theorem portCode_of_portOf {x : Byte} {p : Port} (h : portOf x = some p) : portCode p = x.toNat := by
  obtain ⟨hlt, rfl⟩ := List.getElem?_eq_some_iff.mp (show allPorts[x.toNat]? = some p from h)
  rw [portCode_eq_idxOf]
  exact List.Nodup.idxOf_getElem (by decide) _ hlt

theorem portOf_eq_none (x : Byte) : portOf x = none ↔ 6 ≤ x.toNat :=
  List.getElem?_eq_none_iff

theorem portCode_le (p : Port) : portCode p ≤ 5 := by cases p <;> decide

theorem portCode_eq_zero (p : Port) : portCode p = 0 ↔ p = .u := by cases p <;> decide

/-- 11.7: a port code names a downstream port, or none. -/
theorem downstreamOf_cases (x : Byte) :
    (downstreamOf x = none ∧ (x.toNat = 0 ∨ 5 < x.toNat)) ∨
    ∃ p, downstreamOf x = some p ∧ portOf x = some p ∧ p ≠ .u ∧ portCode p = x.toNat ∧
      0 < x.toNat ∧ x.toNat ≤ 5 := by
  unfold downstreamOf
  cases hp : portOf x with
  | none => exact .inl ⟨rfl, .inr ((portOf_eq_none x).mp hp)⟩
  | some p =>
    have hcode := portCode_of_portOf hp
    have hle := portCode_le p
    have hzero := portCode_eq_zero p
    by_cases hu : p = .u
    · exact .inl ⟨by simp [hu], .inl (hcode ▸ hzero.mpr hu)⟩
    · have hpos : portCode p ≠ 0 := mt hzero.mp hu
      exact .inr ⟨p, by simp [hu], rfl, hu, hcode, by omega, by omega⟩

/-- R176 step 3. -/
theorem nodeInUse_iff (p : PortRec) : nodeInUse p = true ↔ p.state ≠ .down ∧ p.state ≠ .quiet := by
  unfold nodeInUse
  cases p.state <;> simp

/-- R176 step 2: a code that names no downstream port is refused RANGE. -/
theorem exec_tableWriteNode_range (tag index : Byte) (w : WriteOp NodeBody) (s : State)
    (h : s.inTurn .u (.tableWriteNode tag index w) = true) (hx : downstreamOf index = none) :
    ∃ t, exec (.tableWriteNode tag index w) s = .next t ∧
      Written s (.tableWriteNode tag index w) tag (s.tables, .refused .range) t :=
  ⟨_, rfl, s.request_written _ tag _ _ h (by simp only [hx]; rfl)⟩

theorem exec_tableWriteNode (tag index : Byte) (w : WriteOp NodeBody) (s : State) (x : Port)
    (h : s.inTurn .u (.tableWriteNode tag index w) = true) (hx : downstreamOf index = some x)
    (hne : x ≠ .u) :
    ∃ t, exec (.tableWriteNode tag index w) s = .next t ∧
      Written s (.tableWriteNode tag index w) tag
        (writeOutcome s.tables true (nodeInUse (s.port x)) (writeNode s.tables (portCode x - 1) w)) t := by
  refine ⟨_, rfl, s.request_written _ tag _ _ h ?_⟩
  have hp : (s.takeRx .u (.tableWriteNode tag index w)).port x = s.port x :=
    s.port_updatePort_ne .u x _ hne
  simp only [hx, State.tableWrite_eq, hp]
  rfl

theorem exec_tableWriteUnknownTable (tag code : Byte) (s : State)
    (h : s.inTurn .u (.tableWriteUnknownTable tag code) = true) :
    ∃ t, exec (.tableWriteUnknownTable tag code) s = .next t ∧
      Written s (.tableWriteUnknownTable tag code) tag (s.tables, .refused .unknownTable) t :=
  ⟨_, rfl, s.request_written _ tag _ _ h rfl⟩

section
variable {s t : State} {c : Instr} {tag : Byte} {n : Nat} {range used : Bool}

/-- R116: the plan that is stored. -/
theorem Written.planPut {w : WriteOp PlanBody} {b : PlanBody}
    (hw : Written s c tag (writeOutcome s.tables range used (writePlan s.tables n w)) t)
    (hr : range = true) (hu : used = false) (hb : w = .put b) :
    let limit := max 1 (min b.limit.toNat 15)
    Written s c tag ({ s.tables with plans := s.tables.plans.set n ⟨b.interval.toNat,
        (b.units.take (min b.unitCount.toNat 4)).map BitVec.toNat,
        (b.wires.take (min b.wireCount.toNat 8)).map BitVec.toNat, limit⟩ },
      if b.unitCount.toNat ≤ 4 ∧ b.wireCount.toNat ≤ 8 ∧ limit = b.limit.toNat then .accepted
      else .clamped) t := by
  intro limit
  rw [← written_eq (clamped := 4 < b.unitCount.toNat || 8 < b.wireCount.toNat ||
    limit != b.limit.toNat) (by simp [and_assoc])]
  exact hw.ok hr hu (congrArg _ hb)

/-- R117: the limits that are stored, or their refusal. -/
theorem Written.limitsPut {w : WriteOp LimitsBody} {b : LimitsBody}
    (hw : Written s c tag (writeOutcome s.tables range used (writeLimits s.tables n w)) t)
    (hr : range = true) (hu : used = false) (hb : w = .put b) :
    let fMin := min 1000 b.fMin.toNat
    let fLift := min 1000 b.fLift.toNat
    if fLift < fMin then Written s c tag (s.tables, .refused .inconsistent) t
    else Written s c tag ({ s.tables with limits := s.tables.limits.set n ⟨fMin, fLift⟩ },
      if fMin = b.fMin.toNat ∧ fLift = b.fLift.toNat then .accepted else .clamped) t := by
  intro fMin fLift
  have hput : writeLimits s.tables n w = if fLift < fMin then .error .inconsistent
      else .ok ({ s.tables with limits := s.tables.limits.set n ⟨fMin, fLift⟩ },
        (⟨fMin, fLift⟩ : PullLimits) != ⟨b.fMin.toNat, b.fLift.toNat⟩) := by
    simp only [hb, writeLimits, clampTo_zero, fMin, fLift]
  split
  · next hlt => exact hw.error hr hu (hput.trans (if_pos hlt))
  · next hle =>
    rw [← written_eq (clamped := (⟨fMin, fLift⟩ : PullLimits) != ⟨b.fMin.toNat, b.fLift.toNat⟩)
      (by simp)]
    exact hw.ok hr hu (hput.trans (if_neg hle))

/-- R136 step 4: the stored action, by the objects of its class. -/
theorem storedAction_eq (k : AlarmClass) (y : Action) : storedAction k y =
    let most := if y.strength < k.minimum.strength then k.minimum else y
    if most = .holdHead ∧ k.objects ≠ [.head .a, .head .b] then .holdBoth else most := by
  simp only [storedAction, AlarmClass.ofHeads_eq_false]

/-- R136: the action entry that is stored, or its refusal. -/
theorem Written.actionPut {w : WriteOp ActionBody} {b : ActionBody} {k : AlarmClass}
    (hw : Written s c tag (writeOutcome s.tables true false (writeAction s.tables k w)) t)
    (hb : w = .put b) :
    (3 < b.action.toNat → Written s c tag (s.tables, .refused .inconsistent) t) ∧
    ∀ y ∈ actionOf b.action,
      let level := max 1 (min b.level.toNat 7)
      let rank := min 7 b.rank.toNat
      let stored := storedAction k y
      Written s c tag
        ({ s.tables with actions := s.tables.actions.set k.code ⟨level, rank, stored⟩ },
          if level = b.level.toNat ∧ rank = b.rank.toNat ∧ stored = y then .accepted
          else .clamped) t := by
  refine ⟨fun ha => ?_, fun y hy => ?_⟩
  · exact hw.error rfl rfl (by simp only [hb, writeAction, (actionOf_eq_none _).mpr ha])
  · intro level rank stored
    rw [← written_eq (clamped := (⟨level, rank, stored⟩ : ActionEntry) !=
      ⟨b.level.toNat, b.rank.toNat, y⟩) (by simp)]
    refine hw.ok rfl rfl ?_
    simp only [hb, writeAction, Option.mem_def.mp hy, clampTo_zero]
    rfl

/-- R176: the node that is stored, or its refusal. -/
theorem Written.nodePut {w : WriteOp NodeBody} {b : NodeBody}
    (hw : Written s c tag (writeOutcome s.tables range used (writeNode s.tables n w)) t)
    (hr : range = true) (hu : used = false) (hb : w = .put b) :
    if b.address = 0xFF then Written s c tag (s.tables, .refused .inconsistent) t
    else Written s c tag
      ({ s.tables with nodes := s.tables.nodes.set n ⟨b.address, b.mask⟩ }, .accepted) t := by
  split
  · next h => exact hw.error hr hu ((congrArg _ hb).trans (if_pos h))
  · next h => exact hw.ok hr hu ((congrArg _ hb).trans (if_neg h))

end

/-- Settles O53: the table of classes, then one part for each table. -/
theorem planActionAndNodeWrites : Obligations.PlanActionAndNodeWrites := by
  unfold Obligations.PlanActionAndNodeWrites
  refine ⟨⟨fun x => ?_, by decide⟩, ?_⟩
  · rw [← List.getElem?_map]
    rfl
  intro tag index code p l a b erase s n nodes T op answer cp cl ca cn cu
  have erased {α : Type} (x : α) (he : erase = true) : op x = .erase := if_pos he
  have given {α : Type} (x : α) (he : ¬erase = true) : op x = .put x := if_neg he
  refine ⟨fun h => ?_, fun h => ?_, fun h => ?_, fun h => ?_, fun h => ?_⟩
  · obtain ⟨t, ht, hw⟩ := exec_tableWritePullPlan tag index (op p) s h
    refine ⟨t, ht, hw.checks id fun hr hu => ?_⟩
    split
    · next he => exact hw.ok hr hu (congrArg _ (erased p he))
    · next he => exact hw.planPut hr hu (given p he)
  · obtain ⟨t, ht, hw⟩ := exec_tableWritePullLimits tag index (op l) s h
    refine ⟨t, ht, ?_⟩
    intro fMin fLift
    by_cases hn : 4 ≤ n
    · rw [if_pos hn]
      exact hw.outOfRange (by simpa using hn)
    have hr : decide (index.toNat < 4) = true := by simpa using hn
    rw [if_neg hn]
    split
    · next he => exact hw.ok hr rfl (congrArg _ (erased l he))
    · next he => exact hw.limitsPut hr rfl (given l he)
  · cases hk : classOf index with
    | none =>
      obtain ⟨t, ht, hw⟩ := exec_tableWriteAction_range tag index (op a) s h hk
      exact ⟨t, ht, fun _ => hw, by simp⟩
    | some k =>
      obtain ⟨t, ht, hw⟩ := exec_tableWriteAction tag index (op a) s k h hk
      have hcode : k.code = n := code_of_classOf hk
      refine ⟨t, ht, fun hn => ?_, fun j hj => ?_⟩
      · rw [(classOf_eq_none index).mpr hn] at hk
        exact absurd hk (by simp)
      · obtain rfl : k = j := Option.some.inj hj
        intro put
        split
        · next he =>
          have hput := hw.ok rfl rfl (congrArg _ (erased a he))
          rw [hcode] at hput
          exact hput
        · next he =>
          obtain ⟨hbad, hput⟩ := hw.actionPut (given a he)
          simp only [hcode, storedAction_eq] at hput
          exact ⟨hbad, hput⟩
  · rcases downstreamOf_cases index with ⟨hx, hn⟩ | ⟨x, hx, hp, hne, hcode, hpos, hle⟩
    · obtain ⟨t, ht, hw⟩ := exec_tableWriteNode_range tag index (op b) s h hx
      refine ⟨t, ht, ?_⟩
      rw [if_pos hn]
      exact hw
    · obtain ⟨t, ht, hw⟩ := exec_tableWriteNode tag index (op b) s x h hx hne
      refine ⟨t, ht, ?_⟩
      rw [if_neg (show ¬(n = 0 ∨ 5 < n) by omega)]
      intro q
      have hq : q = s.port x := by simp only [q, hp, Option.getD_some]
      rw [hcode] at hw
      by_cases hu : q.state ≠ .down ∧ q.state ≠ .quiet
      · rw [if_pos hu]
        exact hw.inUse rfl ((nodeInUse_iff _).mpr (hq ▸ hu))
      have hfree : nodeInUse (s.port x) = false := by
        rw [← hq, Bool.eq_false_iff, ne_eq, nodeInUse_iff]
        exact hu
      rw [if_neg hu]
      split
      · next he => exact hw.ok rfl hfree (congrArg _ (erased b he))
      · next he => exact hw.nodePut rfl hfree (given b he)
  · exact exec_tableWriteUnknownTable tag code s h

/-! ## TABLE-READ (R3, R179) -/

/-- R179: the read `c` of table `k` is answered with the entry `x` where its operands are in range and is
refused RANGE otherwise; the queue of port U alone changes. -/
def ReadAnswered (s : State) (c : Instr) (tag k index : Byte) (ok : Bool) (x : ReadContents) : Prop :=
  s.inTurn .u c = true → ∃ t, exec c s = .next t ∧ Frame [.ports] s t ∧
    t.ports = (if ok then (s.takeRx .u c).readReply tag k index x
      else (s.takeRx .u c).reply 1 tag (.refused .range)).ports

/-- R179: a refused read changes the queue of port U alone. -/
theorem State.tableRead_refused (s : State) (c : Instr) (tag k index : Byte)
    (contents : State → Except Reason ReadContents) (r : Reason) (h : s.inTurn .u c = true)
    (hc : contents (s.takeRx .u c) = .error r) :
    Frame [.ports] s (s.tableRead c tag k index contents) ∧
      (s.tableRead c tag k index contents).ports = ((s.takeRx .u c).reply 1 tag (.refused r)).ports := by
  rw [State.tableRead, s.taken_inTurn .u c _ h, hc]
  exact ⟨((s.takeRx_frame .u c).trans (State.reply_frame _ _ _ _)).markChanges s, by simp⟩

theorem State.tableRead_answered (s : State) (c : Instr) (tag k index : Byte)
    (contents : State → Except Reason ReadContents) (x : ReadContents) (h : s.inTurn .u c = true)
    (hc : contents (s.takeRx .u c) = .ok x) :
    Frame [.ports] s (s.tableRead c tag k index contents) ∧
      (s.tableRead c tag k index contents).ports = ((s.takeRx .u c).readReply tag k index x).ports := by
  rw [State.tableRead, s.taken_inTurn .u c _ h, hc]
  exact ⟨((s.takeRx_frame .u c).trans (State.readReply_frame _ _ _ _ _)).markChanges s, by simp⟩

/-- A command that is a TABLE-READ of contents with a range is answered by them. -/
theorem ReadAnswered.of_contents {s : State} {c : Instr} {tag k index : Byte} {ok : Bool}
    {x : ReadContents} {contents : State → Except Reason ReadContents}
    (he : exec c s = .next (s.tableRead c tag k index contents))
    (hc : contents (s.takeRx .u c) = inRange ok x) : ReadAnswered s c tag k index ok x := by
  refine fun h => ⟨_, he, ?_⟩
  cases ok with
  | true => exact s.tableRead_answered c tag k index contents x h hc
  | false => exact s.tableRead_refused c tag k index contents .range h hc

/-- R170: of a port whose oldest frame is freed, the receive queue and flow control change alone. -/
theorem PortRec.freeOldest_line (p : PortRec) : p.freeOldest.enabled = p.enabled ∧
    p.freeOldest.rate = p.rate ∧ p.freeOldest.hoReceived = p.hoReceived := by
  unfold PortRec.freeOldest PortRec.sendGo
  split <;> simp

/-- R170: what the taking of a frame on port U leaves of every port. -/
theorem State.takeRx_port_line (s : State) (c : Instr) (y : Port) :
    let p := (s.takeRx .u c).port y
    let q := s.port y
    p.state = q.state ∧ p.enabled = q.enabled ∧ p.rate = q.rate ∧ p.tx = q.tx ∧
      p.hoReceived = q.hoReceived ∧ p.count = q.count := by
  by_cases hy : y = .u
  · subst hy
    obtain ⟨htx, hstate, hcount⟩ := s.takeRx_port .u c
    obtain ⟨henabled, hrate, hho⟩ := (s.port .u).freeOldest_line
    refine ⟨hstate, ?_, ?_, htx, ?_, hcount⟩ <;>
      simp only [State.takeRx, State.port_updatePort_self] <;> split <;> simp_all
  · have hp : (s.takeRx .u c).port y = s.port y := s.port_updatePort_ne .u y _ hy
    simp [hp]

/-- R136: the row of a class, by its code, with the default that the table falls back to. -/
theorem State.actionEntry_of_classOf (s : State) {x : Byte} {k : AlarmClass} (h : classOf x = some k) :
    s.actionEntry k = s.tables.actions.getD x.toNat ((classOf x).getD .test).default := by
  rw [State.actionEntry, code_of_classOf h, h, Option.getD_some]

/-- R135: JAM and LINK-LOSS alone have SAFE-STOP for their minimum action. -/
theorem AlarmClass.minimum_eq (k : AlarmClass) :
    k.minimum = if k.code = 12 ∨ k.code = 15 then .safeStop else .note := by
  cases k <;> rfl

theorem readAction_answered (tag index : Byte) (s : State) :
    ReadAnswered s (.tableReadAction tag index) tag 6 index (index.toNat < 20)
      (.action (s.tables.actions.getD index.toNat ((classOf index).getD .test).default)
        (if index.toNat = 12 ∨ index.toNat = 15 then .safeStop else .note)) := by
  refine .of_contents rfl ?_
  cases hk : classOf index with
  | none =>
    have hn : ¬index.toNat < 20 := Nat.not_lt.mpr ((classOf_eq_none index).mp hk)
    simp only [inRange, hn, decide_false, Bool.false_eq_true, if_false]
  | some k =>
    have hn : index.toNat < 20 := by
      by_contra hn
      rw [(classOf_eq_none index).mpr (Nat.not_lt.mp hn)] at hk
      exact absurd hk (by simp)
    simp only [inRange, hn, decide_true, if_true, State.actionEntry_of_classOf _ hk, hk,
      AlarmClass.minimum_eq, code_of_classOf hk]
    rfl

theorem readNode_answered (tag index : Byte) (s : State) :
    ReadAnswered s (.tableReadNode tag index) tag 7 index (0 < index.toNat && index.toNat < 6)
      (.node (s.tables.node ((portOf index).getD .u))) := by
  refine .of_contents rfl ?_
  rcases downstreamOf_cases index with ⟨hx, hn⟩ | ⟨x, hx, hp, -, -, hpos, hle⟩
  · have hn : (decide (0 < index.toNat) && decide (index.toNat < 6)) = false := by
      simp only [Bool.and_eq_false_iff, decide_eq_false_iff_not]
      omega
    simp only [hx, hn]
    rfl
  · have hn : (decide (0 < index.toNat) && decide (index.toNat < 6)) = true := by
      simp only [Bool.and_eq_true, decide_eq_true_eq]
      omega
    simp only [hx, hn, hp]
    rfl

/-- R177: the counts and marks of a port, as they stand once the request's own frame is freed. -/
theorem readPortStatus_answered (tag index : Byte) (s : State) :
    let r := s.port ((portOf index).getD .u)
    let q := (s.takeRx .u (.tableReadPortStatus tag index)).port ((portOf index).getD .u)
    ReadAnswered s (.tableReadPortStatus tag index) tag 11 index (index.toNat < 6)
      (.portStatus r.state r.enabled r.rate q.wholeRx r.urgents r.normals q.hoSent r.hoReceived
        r.count) := by
  refine .of_contents rfl ?_
  cases hp : portOf index with
  | none =>
    have hn : ¬index.toNat < 6 := Nat.not_lt.mpr ((portOf_eq_none index).mp hp)
    simp only [inRange, hn, decide_false, Bool.false_eq_true, if_false]
  | some x =>
    have hn : index.toNat < 6 := by
      by_contra hn
      rw [(portOf_eq_none index).mpr (Nat.not_lt.mp hn)] at hp
      exact absurd hp (by simp)
    obtain ⟨hstate, henabled, hrate, htx, hho, hcount⟩ :=
      s.takeRx_port_line (.tableReadPortStatus tag index) x
    simp only [inRange, hn, decide_true, if_true, Option.getD_some, PortRec.urgents, PortRec.normals,
      hstate, henabled, hrate, htx, hho, hcount]

/-- R179: the rate of port U is that before the request was taken. -/
theorem readPartStatus_answered (tag : Byte) (s : State) :
    ReadAnswered s (.tableReadPartStatus tag) tag 12 0 true (.partStatus s.mgmt.run s.mgmt.time
      s.mgmt.cause s.mgmt.supervision s.mgmt.supTimer s.mgmt.warnHigh s.mgmt.supplyLow s.mgmt.own
      s.ports.u.rate) := by
  refine .of_contents rfl ?_
  obtain ⟨-, -, hrate, -⟩ := s.takeRx_port_line (.tableReadPartStatus tag) .u
  have hrate : (s.takeRx .u (.tableReadPartStatus tag)).ports.u.rate = s.ports.u.rate := hrate
  simp only [hrate, State.takeRx_mgmt]
  rfl

/-- R15: a run of 1 to 8 slots that ends at or below 256. -/
theorem readMapEntries_answered (tag index first count : Byte) (s : State) :
    let m := s.tables.map index.toNat
    ReadAnswered s (.tableReadMapEntries tag index first count) tag 3 index
      (decide (index.toNat < 8 ∧ 1 ≤ count.toNat ∧ count.toNat ≤ 8 ∧ first.toNat + count.toNat ≤ 256))
      (.mapEntries first.toNat ((m.slots.drop first.toNat).take count.toNat)) := by
  refine .of_contents rfl ?_
  simp only [Bool.decide_and, Bool.and_assoc]
  rfl

/-- Settles O54: the entry that each table answers with is the one that stands before the request. -/
theorem tableReadsAnswer : Obligations.TableReadsAnswer := by
  unfold Obligations.TableReadsAnswer
  intro tag index first count code s n T m reads r runIn head
  exact ⟨ReadAnswered.of_contents rfl rfl, ReadAnswered.of_contents rfl rfl,
    ReadAnswered.of_contents rfl rfl, readMapEntries_answered tag index first count s,
    ReadAnswered.of_contents rfl rfl, ReadAnswered.of_contents rfl rfl,
    ReadAnswered.of_contents rfl rfl, ReadAnswered.of_contents rfl rfl,
    readAction_answered tag index s, ReadAnswered.of_contents rfl rfl,
    readNode_answered tag index s, readPortStatus_answered tag index s, readPartStatus_answered tag s,
    fun h => ⟨_, rfl, s.tableRead_refused _ tag code 0 _ .unknownTable h rfl⟩⟩

/-! ## The state after a POWER-ON reset -/

/-- Settles O4: each block of the reset state is its own reset value. -/
theorem resetLeavesTheStatedValues : Obligations.ResetLeavesTheStatedValues := by
  unfold Obligations.ResetLeavesTheStatedValues
  exact ⟨rfl, rfl, rfl, rfl, rfl, rfl, rfl, rfl, rfl, rfl, rfl, rfl, rfl, rfl, rfl, rfl, rfl, rfl, rfl⟩

end Sys2Proof.Machine
end

section
/-! SUPPORT. What a raise, the end of a condition and an acknowledgement do to every block, said once and
block by block. -/

namespace Sys2Proof.Machine

/-! ## One head: the hold reasons and an abort cause (R40, R43, R143) -/

/-- R40: what an abort cause leaves of a head. -/
def HeadCtx.cut (c : HeadCtx) : HeadCtx :=
  match c.state with
  | .armed | .inBond => { c with state := .aborting, abortTimer := true }
  | _ => c

/-- R40: a head whose bond an abort cause takes back. -/
def HeadState.cuttable : HeadState → Bool
  | .armed | .inBond => true
  | _ => false

theorem HeadCtx.cut_of_cuttable (c : HeadCtx) (h : c.state.cuttable = true) :
    c.cut = { c with state := .aborting, abortTimer := true } := by
  unfold HeadCtx.cut
  cases hs : c.state <;> simp [hs, HeadState.cuttable] at h ⊢

theorem HeadCtx.cut_of_not_cuttable (c : HeadCtx) (h : c.state.cuttable = false) : c.cut = c := by
  unfold HeadCtx.cut
  cases hs : c.state <;> simp [hs, HeadState.cuttable] at h ⊢

theorem HeadState.cuttable_iff (x : HeadState) : x.cuttable = true ↔ x = .armed ∨ x = .inBond := by
  cases x <;> simp [HeadState.cuttable]

theorem HeadState.inFlight_of_cuttable (x : HeadState) (h : x.cuttable = true) : x.inFlight = true := by
  cases x <;> simp_all [HeadState.cuttable, HeadState.inFlight]

@[simp] theorem Holds.state_inFlight (x : Holds) : x.state.inFlight = false := by
  unfold Holds.state; split
  · rfl
  · split <;> rfl

@[simp] theorem Holds.state_cuttable (x : Holds) : x.state.cuttable = false := by
  unfold Holds.state; split
  · rfl
  · split <;> rfl

theorem HeadCtx.followHolds_of_flying (c : HeadCtx) (h : c.state.inFlight = true) : c.followHolds = c := by
  simp [HeadCtx.followHolds, h]

/-- R43: following the hold reasons changes the state alone, and leaves a flight one. -/
theorem HeadCtx.followHolds_eq (c : HeadCtx) : c.followHolds = { c with
    state := if c.state.inFlight then c.state else c.holds.state } := by
  unfold HeadCtx.followHolds
  split <;> rfl

/-- R143: hold reasons as the list has them judged. -/
def Holds.judged (x : Holds) (h : Head) (l : List AlarmEntry) : Holds :=
  { x with alarm := alarmStands l h, safeStop := safeStopStands l }

@[simp] theorem Holds.judged_judged (x : Holds) (h : Head) (l m : List AlarmEntry) :
    (x.judged h l).judged h m = x.judged h m := rfl

/-- R43, R143: the judgement of one head, field by field. -/
theorem HeadCtx.judge_fields (c : HeadCtx) (h : Head) (l : List AlarmEntry) : c.judge h l = { c with
    holds := c.holds.judged h l
    state := if c.state.inFlight then c.state else (c.holds.judged h l).state } :=
  HeadCtx.followHolds_eq _

/-- Judging leaves a head in or out of the states that an abort cause takes. -/
@[simp] theorem HeadCtx.judge_cuttable (c : HeadCtx) (h : Head) (l : List AlarmEntry) :
    (c.judge h l).state.cuttable = c.state.cuttable := by
  rw [HeadCtx.judge_fields]
  cases hc : c.state.cuttable with
  | true => simp [HeadState.inFlight_of_cuttable _ hc, hc]
  | false =>
    cases hs : c.state.inFlight
    · simp [Holds.state_cuttable]
    · simp [hc]

/-- R40, R143: a head that has been judged, and then taken by an abort cause, is not judged differently
again. -/
theorem HeadCtx.judge_cut_judge (c : HeadCtx) (h : Head) (l : List AlarmEntry) :
    (c.judge h l).cut.judge h l = (c.judge h l).cut := by
  cases hc : c.state.cuttable with
  | true =>
    rw [HeadCtx.cut_of_cuttable _ (by simpa using hc), HeadCtx.judge_fields, HeadCtx.judge_fields]
    simp [HeadState.inFlight]
  | false =>
    rw [HeadCtx.cut_of_not_cuttable _ (by simpa using hc), HeadCtx.judge_fields, HeadCtx.judge_fields]
    cases hs : c.state.inFlight <;> simp [hs]

/-- R40: an abort cause, block by block. -/
theorem State.abortCause_eq (s : State) (h : Head) : s.abortCause h = { s.updateHead h HeadCtx.cut with
    ports := if (s.head h).state.cuttable then s.ports.enqueue h.port false .abort else s.ports } := by
  unfold State.abortCause
  cases h <;> cases hs : (s.head _).state <;>
    simp_all [State.send, State.updateHead, State.setHead, State.head, HeadCtx.cut, HeadState.cuttable]

/-! ## A raise (R138, R139, R144), block by block -/

/-- R138, R144: the raise lists a pair whose action is SAFE-STOP. -/
def State.stops (s : State) (c : AlarmClass) (o : AlarmObject) : Bool :=
  (Alarms.find s.alarms.entries c o).isNone && (s.actionEntry c).action == .safeStop

/-- R138, R139: what a raise makes of the alarm list, over the action entry of its class. -/
def Alarms.raised (a : Alarms) (x : ActionEntry) (c : AlarmClass) (o : AlarmObject) : Alarms :=
  match Alarms.find a.entries c o with
  | none =>
    let n := nextInCycle a.lastSeq
    { entries := insertEntry ⟨c, o, x.level, x.rank, x.action, n, 1, .activeUnacked⟩ a.entries
      lastSeq := n
      safeStop := a.safeStop || x.action == .safeStop }
  | some _ => { a with entries := updateEntry a.entries c o fun y =>
      { y with count := satAdd 255 y.count 1, state := .activeUnacked } }

/-- R138, R143, R144: what a raise makes of head `k`, over the list `l` that it leaves. -/
def HeadCtx.raised (c : HeadCtx) (k : Head) (l : List AlarmEntry) (listed stops : Bool) : HeadCtx :=
  if listed then c else if stops then (c.judge k l).cut else c.judge k l

/-- R145: a note is queued, once port U has first been LIVE. -/
def Ports.noted (ps : Ports) (started : Bool) (c : AlarmClass) (o : AlarmObject) (level : Nat)
    (w : NoteEvent) : Ports :=
  if started then ps.enqueue .u true (.alarmNote c o level w) else ps

/-- R110, R144: the frames of the SAFE-STOP action. -/
def Ports.stopped (ps : Ports) (cutA cutB : Bool) (held : Option HeldRequest) : Ports :=
  let p := if cutA then ps.enqueue .ha false .abort else ps
  let p := (if cutB then p.enqueue .hb false .abort else p).enqueue .ix false .freeze
  held.elim p fun q => p.enqueue .u false (.indexRefused q.kind .stopped)

/-- R138, R139, R144: the frames that a raise queues. -/
def State.raisePorts (s : State) (c : AlarmClass) (o : AlarmObject) : Ports :=
  let level := (Alarms.find s.alarms.entries c o).elim (s.actionEntry c).level fun e => e.level
  let p := s.ports.noted s.mgmt.started c o level .raised
  if s.stops c o then
    p.stopped s.headA.state.cuttable s.headB.state.cuttable s.track.held
  else p

/-- R101, R102: a held request ends. -/
def Track.dropHeld (t : Track) : Track :=
  { t with held := none, holdTimer := if t.held.isSome then none else t.holdTimer }

theorem State.note_eq (s : State) (c : AlarmClass) (o : AlarmObject) (n : Nat) (w : NoteEvent) :
    s.note c o n w = { s with ports := s.ports.noted s.mgmt.started c o n w } := by
  unfold State.note Ports.noted
  split <;> rfl

theorem Track.dropHeld_none (t : Track) (h : t.held = none) : t.dropHeld = t := by
  cases t; subst h; rfl

theorem State.refuseHeld_eq (s : State) (r : Reason) : s.refuseHeld r = { s with
    track := s.track.dropHeld
    ports := s.track.held.elim s.ports fun q => s.ports.enqueue .u false (.indexRefused q.kind r) } := by
  unfold State.refuseHeld
  cases hq : s.track.held with
  | none => rw [Track.dropHeld_none _ hq]; rfl
  | some q => simp [Track.dropHeld, State.send, hq]

/-- R144: the SAFE-STOP action on heads that have just been judged. -/
theorem State.safeStopAction_judged (s : State) :
    s.judgeHolds.safeStopAction = { s with
      alarms := { s.alarms with safeStop := true }
      headA := (s.headA.judge .a s.alarms.entries).cut
      headB := (s.headB.judge .b s.alarms.entries).cut
      track := s.track.dropHeld
      ports := s.ports.stopped s.headA.state.cuttable s.headB.state.cuttable s.track.held } := by
  unfold State.safeStopAction
  simp only [State.refuseHeld_eq, State.abortCause_eq, State.send, State.updateHead, State.setHead,
    State.head, State.judgeHolds, HeadCtx.judge_cut_judge, HeadCtx.judge_cuttable, Ports.stopped, Head.port]

/-- R138, R139, R144, R151: all that a raise does. -/
theorem State.raise_eq (s : State) (c : AlarmClass) (o : AlarmObject) :
    s.raise c o =
      let a := s.alarms.raised (s.actionEntry c) c o
      let listed := (Alarms.find s.alarms.entries c o).isSome
      { s with
        alarms := a
        headA := s.headA.raised .a a.entries listed (s.stops c o)
        headB := s.headB.raised .b a.entries listed (s.stops c o)
        track := if s.stops c o then s.track.dropHeld else s.track
        ports := s.raisePorts c o
        term := s.term.listChanged a.entries.length } := by
  unfold State.raise
  cases hf : Alarms.find s.alarms.entries c o with
  | some e =>
    simp [State.mergeAlarm, State.note_eq, State.listChanged, State.setEntries, Alarms.raised, hf,
      HeadCtx.raised, State.stops, State.raisePorts]
  | none =>
    by_cases hx : (s.actionEntry c).action = .safeStop
    · simp only [State.listAlarm, State.note_eq, if_pos hx, State.safeStopAction_judged]
      simp [State.listChanged, Alarms.raised, hf, HeadCtx.raised, State.stops, State.raisePorts, hx]
    · simp [State.listAlarm, State.note_eq, State.listChanged, Alarms.raised, hf,
        HeadCtx.raised, State.stops, State.raisePorts, hx, State.judgeHolds]

/-! ## An alarm that leaves, a condition that ends (R140, R142), block by block -/

/-- R142: what the removal of an entry leaves of the alarm unit. -/
def Alarms.without (a : Alarms) (e : AlarmEntry) : Alarms :=
  let l := a.entries.filter fun y => !y.isPair e.cls e.obj
  { a with
    entries := l
    safeStop := if e.action = .safeStop ∧ safeStopStands l = false then false else a.safeStop }

/-- An entry takes a new state. -/
def Alarms.moved (a : Alarms) (e : AlarmEntry) (st : AlarmState) : Alarms :=
  { a with entries := updateEntry a.entries e.cls e.obj fun y => { y with state := st } }

theorem State.removeAlarm_eq (s : State) (e : AlarmEntry) : s.removeAlarm e =
    let a := s.alarms.without e
    { s with
      alarms := a
      headA := s.headA.judge .a a.entries
      headB := s.headB.judge .b a.entries
      ports := s.ports.noted s.mgmt.started e.cls e.obj e.level .removed
      term := s.term.listChanged a.entries.length } := by
  unfold State.removeAlarm
  simp only [State.note_eq, State.judgeHolds, State.setEntries, State.listChanged, Alarms.without]
  split <;> rfl

theorem State.moveAlarm_eq (s : State) (e : AlarmEntry) (st : AlarmState) (w : NoteEvent) :
    s.moveAlarm e st w = { s with
      alarms := s.alarms.moved e st
      ports := s.ports.noted s.mgmt.started e.cls e.obj e.level w
      term := s.term.listChanged (s.alarms.moved e st).entries.length } := by
  simp only [State.moveAlarm, State.note_eq, State.setEntries, State.listChanged, Alarms.moved]

/-- R140: what the end of a condition makes of the alarm unit, and the note that tells of it. -/
def Alarms.over (a : Alarms) (c : AlarmClass) (o : AlarmObject) : Alarms × Option (AlarmEntry × NoteEvent) :=
  match Alarms.find a.entries c o with
  | none => (a, none)
  | some e => match e.state with
    | .activeUnacked => (a.moved e .clearedUnacked, some (e, .cleared))
    | .activeAcked => (a.without e, some (e, .removed))
    | .clearedUnacked => (a, none)

/-- R142, R143: the heads are judged where an entry has left. -/
def HeadCtx.over (c : HeadCtx) (k : Head) (l : List AlarmEntry) :
    Option (AlarmEntry × NoteEvent) → HeadCtx
  | some (_, .removed) => c.judge k l
  | _ => c

/-- R140, R142, R151: all that the end of a condition does. -/
theorem State.conditionGone_eq (s : State) (c : AlarmClass) (o : AlarmObject) :
    s.conditionGone c o =
      let a := (s.alarms.over c o).1
      let n := (s.alarms.over c o).2
      { s with
        alarms := a
        headA := s.headA.over .a a.entries n
        headB := s.headB.over .b a.entries n
        ports := n.elim s.ports fun y =>
          s.ports.noted s.mgmt.started y.1.cls y.1.obj y.1.level y.2
        term := n.elim s.term fun _ => s.term.listChanged a.entries.length } := by
  unfold State.conditionGone Alarms.over
  cases Alarms.find s.alarms.entries c o with
  | none => rfl
  | some e =>
    dsimp only
    cases e.state with
    | activeUnacked => exact s.moveAlarm_eq e _ _
    | activeAcked => exact s.removeAlarm_eq e
    | clearedUnacked => rfl

end Sys2Proof.Machine
end

section
/-! SUPPORT. The moves of a head with its engine, and the operations that leave claims, bonds and units in
place. Each shared operation is judged once here, for every invariant about heads, engines and claims. -/

namespace Sys2Proof.Machine

open Relation

/-! ## Moves of a head -/

/-- A move of a head that leaves its claim, its bond and whether it is in flight. -/
inductive CalmMove : HeadCtx → HeadCtx → Prop
  | noted (c : HeadCtx) (pause : Option PauseMode) (weakRun stray : Nat) (last : Option LastBond)
      (results : Results) (efoDuration : Option Nat) :
      CalmMove c { c with
        pause := pause, weakRun := weakRun, stray := stray, last := last, results := results
        efoDuration := efoDuration }
  | held (c : HeadCtx) (x : Holds) : CalmMove c { c with holds := x }.followHolds
  | cut (c : HeadCtx) : CalmMove c c.cut
  | efo (c : HeadCtx) (x : EfoStatus) (start timer : Option Nat)
      (hs : start.isSome = true ↔ x = .timing) (ht : timer.isSome = true ↔ x = .timing) :
      CalmMove c { c with efo := x, efoStart := start, efoTimer := timer }
  | efoUsed (c : HeadCtx) (h : c.efo ≠ .timing) : CalmMove c { c with efo := .none }

/-- A move of a head with its engine. -/
inductive HeadMove : HeadCtx × Engine → HeadCtx × Engine → Prop
  | calm (c d : HeadCtx) (e : Engine) (h : CalmMove c d) : HeadMove (c, e) (d, e)
  | claim (c : HeadCtx) (e : Engine) (u : Option Nat) : HeadMove (c, e) ({ c with claim := u }, e)
  | armed (c : HeadCtx) (e : Engine) (u : Nat) (b : Bond) (l : Limits) (h : c.state = .idle) :
      HeadMove (c, e) ({ c with claim := some u, bond := some b, state := .armed }, e.arm l)
  | touched (c : HeadCtx) (e : Engine) (z n : Nat) (h : c.state = .armed) :
      HeadMove (c, e) ({ c with state := .inBond }, e.openWindow z n)
  | closed (c : HeadCtx) (e : Engine) (x : Holds) (n : Nat) (k : BondClass) (h : c.bond.isSome = true) :
      HeadMove (c, e)
        ({ c with bond := none, abortTimer := false, holds := x, state := x.state }, e.close n k)
  | sampled (c : HeadCtx) (e : Engine) (n : Nat) (xs : List Triple) (h : e.state = .opened) :
      HeadMove (c, e) (c, e.takeFrame n xs)
  | captures (c : HeadCtx) (e : Engine) (on : Bool) : HeadMove (c, e) (c, { e with capture := on })
  | released (c : HeadCtx) (e : Engine) : HeadMove (c, e) (c, e.release)
  | reset (c : HeadCtx) (e : Engine) : HeadMove (c, e) (HeadCtx.initial, Engine.initial)

/-! ## What the moves keep -/

@[simp] theorem HeadCtx.followHolds_claim (c : HeadCtx) : c.followHolds.claim = c.claim := by
  rw [c.followHolds_eq]
@[simp] theorem HeadCtx.followHolds_bond (c : HeadCtx) : c.followHolds.bond = c.bond := by
  rw [c.followHolds_eq]
@[simp] theorem HeadCtx.followHolds_holds (c : HeadCtx) : c.followHolds.holds = c.holds := by
  rw [c.followHolds_eq]
@[simp] theorem HeadCtx.followHolds_abortTimer (c : HeadCtx) :
    c.followHolds.abortTimer = c.abortTimer := by rw [c.followHolds_eq]
@[simp] theorem HeadCtx.followHolds_efo (c : HeadCtx) : c.followHolds.efo = c.efo := by
  rw [c.followHolds_eq]
@[simp] theorem HeadCtx.followHolds_efoStart (c : HeadCtx) : c.followHolds.efoStart = c.efoStart := by
  rw [c.followHolds_eq]
@[simp] theorem HeadCtx.followHolds_efoTimer (c : HeadCtx) : c.followHolds.efoTimer = c.efoTimer := by
  rw [c.followHolds_eq]
theorem HeadCtx.followHolds_state (c : HeadCtx) :
    c.followHolds.state = if c.state.inFlight then c.state else c.holds.state := by
  rw [c.followHolds_eq]
@[simp] theorem HeadCtx.followHolds_inFlight (c : HeadCtx) :
    c.followHolds.state.inFlight = c.state.inFlight := by
  rw [c.followHolds_state]; split <;> simp_all

/-- R40: an abort cause changes the state and the abort timer alone. -/
theorem HeadCtx.cut_fields (c : HeadCtx) : c.cut = { c with
    state := if c.state.cuttable then .aborting else c.state
    abortTimer := if c.state.cuttable then true else c.abortTimer } := by
  cases h : c.state.cuttable
  · rw [c.cut_of_not_cuttable h]; simp
  · rw [c.cut_of_cuttable h]; simp

@[simp] theorem HeadCtx.cut_inFlight (c : HeadCtx) : c.cut.state.inFlight = c.state.inFlight := by
  rw [c.cut_fields]
  cases h : c.state.cuttable
  · simp
  · exact (c.state.inFlight_of_cuttable h).symm

/-- R22: the hold reasons give no state in flight. -/
theorem Holds.state_still (x : Holds) : x.state ≠ .armed ∧ x.state ≠ .inBond ∧ x.state ≠ .aborting := by
  have h := x.state_inFlight
  refine ⟨?_, ?_, ?_⟩ <;> intro h0 <;> simp [h0, HeadState.inFlight] at h

theorem CalmMove.keeps {c d : HeadCtx} (h : CalmMove c d) :
    d.claim = c.claim ∧ d.bond = c.bond ∧ d.state.inFlight = c.state.inFlight := by
  cases h with
  | noted => exact ⟨rfl, rfl, rfl⟩
  | held => simp
  | cut => exact ⟨by rw [c.cut_fields], by rw [c.cut_fields], c.cut_inFlight⟩
  | efo => exact ⟨rfl, rfl, rfl⟩
  | efoUsed => exact ⟨rfl, rfl, rfl⟩

/-- R22, R40, R43, R37 to R39: what part 1 of the head invariants says of one head. -/
abbrev HeadOk (c : HeadCtx) : Prop := HeadInv c ∧ EfoInv c

theorem CalmMove.headOk {c d : HeadCtx} (m : CalmMove c d) (h : HeadOk c) : HeadOk d := by
  obtain ⟨⟨hb, ht, hs⟩, he1, he2⟩ := h
  cases m with
  | noted => exact ⟨⟨hb, ht, hs⟩, he1, he2⟩
  | held x =>
    refine ⟨⟨by simpa using hb, ?_, fun hf => ?_⟩, by simpa using he1, by simpa using he2⟩
    · rw [HeadCtx.followHolds_abortTimer, ht, HeadCtx.followHolds_state]
      cases hf : c.state.inFlight
      · have h1 : c.state ≠ .aborting := by intro h0; simp [h0, HeadState.inFlight] at hf
        simp [h1, x.state_still.2.2]
      · simp
    · rw [HeadCtx.followHolds_inFlight] at hf
      simpa [HeadCtx.followHolds_state] using fun h0 : c.state.inFlight = true => by simp [hf] at h0
  | cut =>
    refine ⟨⟨?_, ?_, fun hf => ?_⟩, ?_⟩
    · rw [c.cut_inFlight, c.cut_fields]; exact hb
    · rw [c.cut_fields]
      cases c.state.cuttable <;> simp [ht]
    · rw [c.cut_inFlight] at hf
      have hc : c.state.cuttable = false := by
        cases h0 : c.state.cuttable
        · rfl
        · rw [c.state.inFlight_of_cuttable h0] at hf; exact hf
      rw [c.cut_of_not_cuttable hc]; exact hs hf
    · rw [c.cut_fields]; exact ⟨he1, he2⟩
  | efo x start timer h1 h2 => exact ⟨⟨hb, ht, hs⟩, h1, h2⟩
  | efoUsed hne =>
    refine ⟨⟨hb, ht, hs⟩, ?_, ?_⟩
    · simpa [hne] using he1
    · simpa [hne] using he2

/-- Every move of a head keeps part 1 of the head invariants. -/
theorem HeadMove.headOk {x y : HeadCtx × Engine} (m : HeadMove x y) (h : HeadOk x.1) : HeadOk y.1 := by
  cases m with
  | calm c d e m => exact m.headOk h
  | claim => exact h
  | armed c e u b l hs =>
    obtain ⟨⟨hb, ht, -⟩, he⟩ := h
    refine ⟨⟨rfl, ?_, fun hf => Bool.noConfusion hf⟩, he⟩
    have : c.abortTimer ≠ true := fun h0 => by simp [hs] at ht; simp [ht] at h0
    simpa using this
  | touched c e z n hs =>
    obtain ⟨⟨hb, ht, -⟩, he⟩ := h
    refine ⟨⟨?_, ?_, fun hf => Bool.noConfusion hf⟩, he⟩
    · simpa [hs, HeadState.inFlight] using hb
    · simpa [hs] using ht
  | closed c e x n k hbond =>
    refine ⟨⟨by simp, ?_, fun _ => rfl⟩, h.2⟩
    simp [x.state_still.2.2]
  | sampled => exact h
  | captures => exact h
  | released => exact h
  | reset => decide

/-! ## Engines -/

/-- R49, R50, R57 to R59, R67 to R70: what the engine invariants say of one head with its engine. -/
abbrev EngineOk (x : HeadCtx × Engine) : Prop := EngineFollows x.1 x.2 ∧ EngineBounds x.2

theorem CalmMove.engineOk {c d : HeadCtx} {e : Engine} (m : CalmMove c d) (h : EngineOk (c, e)) :
    EngineOk (d, e) := by
  obtain ⟨⟨hb, hf, ha, hi, hl⟩, hr⟩ := h
  have same (hs : d.state = c.state) (hd : d.bond = c.bond) : EngineOk (d, e) := by
    refine ⟨⟨?_, ?_, ?_, ?_, ?_⟩, hr⟩ <;> simp only [hs, hd] <;> assumption
  have away (hs : d.state ≠ .armed ∧ d.state ≠ .inBond) : EngineOk (d, e) := by
    obtain ⟨-, h2, h3⟩ := m.keeps
    exact ⟨⟨by rw [h3, h2]; exact hb, by rw [h3]; exact hf, fun h0 => absurd h0 hs.1,
      fun h0 => absurd h0 hs.2, fun h0 => hl (h3 ▸ h0)⟩, hr⟩
  cases m with
  | noted => exact same rfl rfl
  | held x =>
    cases hs : c.state.inFlight
    · refine away ?_
      rw [HeadCtx.followHolds_state]
      simpa [hs] using ⟨x.state_still.1, x.state_still.2.1⟩
    · exact same (by simp [HeadCtx.followHolds_state, hs]) (by simp)
  | cut =>
    cases hs : c.state.cuttable
    · rw [c.cut_of_not_cuttable hs]; exact ⟨⟨hb, hf, ha, hi, hl⟩, hr⟩
    · exact away (by simp [c.cut_of_cuttable hs])
  | efo => exact same rfl rfl
  | efoUsed => exact same rfl rfl

theorem Engine.arm_bounds (e : Engine) (l : Limits) (h : EngineBounds e) : EngineBounds (e.arm l) := by
  obtain ⟨-, -, hr, hf⟩ := h
  refine ⟨by simp [Engine.arm], by simp [Engine.arm], ?_, ?_⟩
  · simp only [Engine.arm]; split
    · exact hr
    · simp
  · simp only [Engine.arm]; split
    · next h0 => simpa [h0] using hf
    · next h0 => simpa [h0] using hf

theorem Engine.close_bounds (e : Engine) (n : Nat) (k : BondClass) (h : EngineBounds e) :
    EngineBounds (e.close n k) ∧ (e.close n k).state = .disarmed := by
  obtain ⟨-, hp, hr, hf⟩ := h
  unfold Engine.close
  dsimp only
  split
  · exact ⟨⟨fun h0 => absurd rfl h0, hp, hr, by simp⟩, rfl⟩
  · exact ⟨⟨fun h0 => absurd rfl h0, hp, hr, hf⟩, rfl⟩

theorem Engine.release_state (e : Engine) : e.release.state = e.state := by
  unfold Engine.release; split <;> rfl

theorem Engine.release_limits (e : Engine) : e.release.limits = e.limits := by
  unfold Engine.release; split <;> rfl

theorem Engine.release_bounds (e : Engine) (h : EngineBounds e) : EngineBounds e.release := by
  obtain ⟨hn, hp, hr, hf⟩ := h
  unfold Engine.release
  split
  · refine ⟨hn, hp, by simp, ?_⟩
    dsimp only
    split <;> simp
  · exact ⟨hn, hp, hr, hf⟩

/-- R54, R57, R67: a sample keeps the counts, the ring and what the engine is armed with. -/
structure SampleKeeps (e f : Engine) : Prop where
  state : f.state = e.state
  limits : f.limits = e.limits
  bounds : EngineBounds e → EngineBounds f

theorem Engine.trace_eq (e : Engine) (x : TraceEntry) : e.trace x = { e with
    ring := if e.ringState = .following then
      (if e.ring.length < Config.ringSize then e.ring else e.ring.drop 1) ++ [x] else e.ring } := by
  unfold Engine.trace; split <;> simp_all

theorem Engine.takeSample_keeps (e : Engine) (x : Triple) : SampleKeeps e (e.takeSample x) := by
  unfold Engine.takeSample
  extract_lets p beyond f
  have ring : e.ring.length ≤ Config.ringSize → f.ring.length ≤ Config.ringSize := by
    intro h
    simp only [f, Engine.trace_eq]
    split
    · split <;> simp [Config.ringSize] at * <;> omega
    · exact h
  split
  · refine ⟨by simp [f, Engine.trace_eq], by simp [f, Engine.trace_eq], fun ⟨h1, h2, h3, h4⟩ => ?_⟩
    exact ⟨by simpa [f, Engine.trace_eq, Engine.windowLimit] using h1,
      by simpa [f, Engine.trace_eq] using h2, ring h3, by simpa [f, Engine.trace_eq] using h4⟩
  · next hb =>
    refine ⟨by simp [f, Engine.accumulate, Engine.trace_eq],
      by simp [f, Engine.accumulate, Engine.trace_eq], fun ⟨h1, h2, h3, h4⟩ => ?_⟩
    refine ⟨fun _ => ?_, ?_, ring h3, by simpa [f, Engine.accumulate, Engine.trace_eq] using h4⟩
    · simp only [beyond, decide_eq_true_eq, not_le] at hb
      simpa [f, Engine.accumulate, Engine.trace_eq, Engine.windowLimit] using hb
    · simp only [f, Engine.accumulate, Engine.trace_eq]
      split <;> omega

theorem SampleKeeps.trans {e f g : Engine} (h : SampleKeeps e f) (k : SampleKeeps f g) :
    SampleKeeps e g :=
  ⟨k.state.trans h.state, k.limits.trans h.limits, fun b => k.bounds (h.bounds b)⟩

/-- R53, R54: and so does a frame of samples. -/
theorem Engine.takeFrame_keeps (e : Engine) (n : Nat) (xs : List Triple) :
    SampleKeeps e (e.takeFrame n xs) := by
  have fold (xs : List Triple) : ∀ f, SampleKeeps f (xs.foldl Engine.takeSample f) := by
    induction xs with
    | nil => exact fun f => ⟨rfl, rfl, id⟩
    | cons x xs ih => exact fun f => (f.takeSample_keeps x).trans (ih _)
  unfold Engine.takeFrame
  extract_lets d f
  have gap : SampleKeeps e f := by
    simp only [f]; split
    · exact ⟨rfl, rfl, id⟩
    · exact ⟨rfl, rfl, id⟩
  exact (gap.trans (fold xs f)).trans ⟨rfl, rfl, id⟩

/-- Every move of a head with its engine keeps the engine invariants. -/
theorem HeadMove.engineOk {x y : HeadCtx × Engine} (m : HeadMove x y) (h : EngineOk x) : EngineOk y := by
  obtain ⟨⟨hb, hf, ha, hi, hl⟩, hr⟩ := id h
  cases m with
  | calm c d e m => exact m.engineOk h
  | claim => exact h
  | armed c e u b l hs =>
    exact ⟨⟨rfl, rfl, fun _ => rfl, fun h0 => by simp at h0, fun _ => rfl⟩, e.arm_bounds l hr⟩
  | touched c e z n hs =>
    have hopen : c.state.inFlight = true := by simp [hs, HeadState.inFlight]
    refine ⟨⟨?_, rfl, fun h0 => by simp at h0, fun _ => rfl, fun _ => hl hopen⟩, fun _ => ?_, hr.2⟩
    · exact hopen.symm.trans hb
    · exact hr.1 (by rw [ha hs]; simp)
  | closed c e x n k hbond =>
    obtain ⟨hr', hd⟩ := e.close_bounds n k hr
    refine ⟨⟨by simp, by simp [hd], fun h0 => ?_, fun h0 => ?_, fun h0 => ?_⟩, hr'⟩ <;>
      have := x.state_inFlight <;> simp_all [HeadState.inFlight]
  | sampled c e n xs hs =>
    have k := e.takeFrame_keeps n xs
    refine ⟨⟨hb, ?_, fun h0 => ?_, fun h0 => ?_, fun h0 => ?_⟩, k.bounds hr⟩
    · rw [k.state]; exact hf
    · rw [k.state]; exact ha h0
    · rw [k.state]; exact hi h0
    · rw [k.limits]; exact hl h0
  | captures c e on => exact ⟨⟨hb, hf, ha, hi, hl⟩, hr⟩
  | released c e =>
    refine ⟨⟨hb, ?_, fun h0 => ?_, fun h0 => ?_, fun h0 => ?_⟩, e.release_bounds hr⟩
    · rw [e.release_state]; exact hf
    · rw [e.release_state]; exact ha h0
    · rw [e.release_state]; exact hi h0
    · rw [e.release_limits]; exact hl h0
  | reset => decide

end Sys2Proof.Machine
end

section
/-! SUPPORT. Operations that leave claims, bonds and units in place, and what every step keeps of heads,
engines and claims. -/

namespace Sys2Proof.Machine

open Relation

/-! ## Calm operations -/

/-- A head moves, and keeps its claim and its bond. -/
abbrev CalmHead : HeadCtx → HeadCtx → Prop := ReflTransGen CalmMove

/-- What the claim invariants read of the track stays, but that a request in flight may end. -/
structure TrackCalm (t u : Track) : Prop where
  bond : u.bond = t.bond
  entry : u.entry.map Strip.units = t.entry.map Strip.units
  pull : u.pull.map Strip.units = t.pull.map Strip.units
  exit : u.exit.map Strip.units = t.exit.map Strip.units
  inFlight : u.inFlight.isSome = true → t.inFlight.isSome = true

/-- From `s` to `t` claims, bonds, units and engines stay as they are. -/
structure Calm (s t : State) : Prop where
  head : ∀ h, CalmHead (s.head h) (t.head h)
  engine : ∀ h, t.engine h = s.engine h
  window : ∀ x ∈ s.track.bond, t.tables.rowsOf x = s.tables.rowsOf x
  track : TrackCalm s.track t.track

theorem TrackCalm.refl (t : Track) : TrackCalm t t := ⟨rfl, rfl, rfl, rfl, id⟩

theorem TrackCalm.trans {t u v : Track} (h : TrackCalm t u) (k : TrackCalm u v) : TrackCalm t v :=
  ⟨k.bond.trans h.bond, k.entry.trans h.entry, k.pull.trans h.pull, k.exit.trans h.exit,
    fun f => h.inFlight (k.inFlight f)⟩

theorem Calm.refl (s : State) : Calm s s :=
  ⟨fun _ => .refl, fun _ => rfl, fun _ _ => rfl, TrackCalm.refl _⟩

theorem Calm.trans {s t u : State} (h : Calm s t) (k : Calm t u) : Calm s u :=
  ⟨fun x => (h.head x).trans (k.head x), fun x => (k.engine x).trans (h.engine x),
    fun x hx => (k.window x (h.track.bond ▸ hx)).trans (h.window x hx), h.track.trans k.track⟩

theorem Calm.foldl {α : Type} (f : State → α → State) (hf : ∀ s a, Calm s (f s a)) (xs : List α)
    (s : State) : Calm s (xs.foldl f s) := by
  induction xs generalizing s with
  | nil => exact Calm.refl s
  | cons a xs ih => exact (hf s a).trans (ih _)

theorem Calm.ite {c : Prop} [Decidable c] {s t u : State} (ht : Calm s t) (hu : Calm s u) :
    Calm s (if c then t else u) := by
  split
  · exact ht
  · exact hu

/-- The blocks that claims, bonds and units do not stand in. -/
abbrev idleBlocks : List Block := [.store, .puller, .alarms, .term, .ports, .mgmt]

/-- An operation that leaves heads, engines, tables and the track. -/
theorem Calm.of_same {s t : State} (ha : t.headA = s.headA) (hb : t.headB = s.headB)
    (ea : t.engineA = s.engineA) (eb : t.engineB = s.engineB) (ht : t.tables = s.tables)
    (hk : t.track = s.track) : Calm s t := by
  refine ⟨fun h => ?_, fun h => ?_, fun x _ => by rw [ht], hk ▸ TrackCalm.refl _⟩
  · cases h
    · simp only [State.head, ha]; exact .refl
    · simp only [State.head, hb]; exact .refl
  · cases h
    · exact ea
    · exact eb

theorem Calm.of_frame {l : List Block} {s t : State} (h : Frame l s t) (hl : ∀ b, b ∈ l → b ∈ idleBlocks) :
    Calm s t := by
  obtain ⟨-, ht, ha, hb, ea, eb, -, hk, -⟩ := h.mono (m := idleBlocks) hl
  exact Calm.of_same (ha (by simp)) (hb (by simp)) (ea (by simp)) (eb (by simp)) (ht (by simp))
    (hk (by simp))

/-- An operation on the track alone. -/
theorem Calm.of_track (s : State) (u : Track) (h : TrackCalm s.track u) : Calm s { s with track := u } :=
  ⟨fun h => by cases h <;> exact .refl, fun h => by cases h <;> rfl, fun _ _ => rfl, h⟩

/-- An operation on the tables that leaves the rows of the strip at BOND. -/
theorem Calm.of_tables (s : State) (u : Tables) (h : ∀ x ∈ s.track.bond, u.rowsOf x = s.tables.rowsOf x) :
    Calm s { s with tables := u } :=
  ⟨fun h => by cases h <;> exact .refl, fun h => by cases h <;> rfl, h, TrackCalm.refl _⟩

theorem State.setHead_calm (s : State) (h : Head) (c : HeadCtx) (hc : CalmHead (s.head h) c) :
    Calm s (s.setHead h c) := by
  refine ⟨fun k => ?_, fun k => by simp, fun _ _ => by simp, by simpa using TrackCalm.refl _⟩
  by_cases hk : k = h
  · subst hk; simpa using hc
  · have : k = otherHead h := by cases h <;> cases k <;> simp_all [otherHead]
    subst this; simpa using ReflTransGen.refl

theorem State.updateHead_calm (s : State) (h : Head) (f : HeadCtx → HeadCtx) (hf : ∀ c, CalmMove c (f c)) :
    Calm s (s.updateHead h f) := s.setHead_calm h _ (.single (hf _))

theorem State.markChanges_calm (s old : State) : Calm s (s.markChanges old) :=
  Calm.of_frame (s.markChanges_frame old []) (by simp)

theorem State.updatePort_calm (s : State) (x : Port) (f : PortRec → PortRec) : Calm s (s.updatePort x f) :=
  Calm.of_frame (s.updatePort_frame x f) (by simp)

theorem State.send_calm (s : State) (x : Port) (m : Msg) : Calm s (s.send x m) :=
  Calm.of_frame (s.send_frame x m) (by simp)

theorem State.forward_calm (s : State) (c : Instr) : Calm s (s.forward c) :=
  Calm.of_frame (s.forward_frame c) (by simp)

theorem State.takeRx_calm (s : State) (x : Port) (c : Instr) : Calm s (s.takeRx x c) :=
  s.updatePort_calm x _

/-! ## Alarms are calm -/

theorem HeadCtx.judge_calm (c : HeadCtx) (k : Head) (l : List AlarmEntry) : CalmHead c (c.judge k l) :=
  .single (.held c (c.holds.judged k l))

theorem HeadCtx.raised_calm (c : HeadCtx) (k : Head) (l : List AlarmEntry) (listed stops : Bool) :
    CalmHead c (c.raised k l listed stops) := by
  unfold HeadCtx.raised
  split
  · exact .refl
  · split
    · exact (c.judge_calm k l).tail (.cut _)
    · exact c.judge_calm k l

theorem HeadCtx.over_calm (c : HeadCtx) (k : Head) (l : List AlarmEntry)
    (n : Option (AlarmEntry × NoteEvent)) : CalmHead c (c.over k l n) := by
  unfold HeadCtx.over
  split
  · exact c.judge_calm k l
  · exact .refl

theorem Track.dropHeld_calm (t : Track) : TrackCalm t t.dropHeld := ⟨rfl, rfl, rfl, rfl, id⟩

theorem State.refuseHeld_calm (s : State) (r : Reason) : Calm s (s.refuseHeld r) := by
  rw [State.refuseHeld_eq]
  exact (Calm.of_track s _ s.track.dropHeld_calm).trans (Calm.of_same rfl rfl rfl rfl rfl rfl)

/-- R138, R139, R144: a raise is calm. -/
theorem State.raise_calm (s : State) (c : AlarmClass) (o : AlarmObject) : Calm s (s.raise c o) := by
  rw [State.raise_eq]
  refine ⟨fun h => ?_, fun h => by cases h <;> rfl, fun _ _ => rfl, ?_⟩
  · cases h
    · exact s.headA.raised_calm _ _ _ _
    · exact s.headB.raised_calm _ _ _ _
  · dsimp only
    split
    · exact s.track.dropHeld_calm
    · exact TrackCalm.refl _

theorem State.removeAlarm_calm (s : State) (e : AlarmEntry) : Calm s (s.removeAlarm e) := by
  rw [State.removeAlarm_eq]
  refine ⟨fun h => ?_, fun h => by cases h <;> rfl, fun _ _ => rfl, TrackCalm.refl _⟩
  cases h
  · exact s.headA.judge_calm _ _
  · exact s.headB.judge_calm _ _

theorem State.moveAlarm_calm (s : State) (e : AlarmEntry) (st : AlarmState) (w : NoteEvent) :
    Calm s (s.moveAlarm e st w) :=
  Calm.of_frame (s.moveAlarm_frame e st w) (by simp)

/-- R140: so is the end of a condition. -/
theorem State.conditionGone_calm (s : State) (c : AlarmClass) (o : AlarmObject) :
    Calm s (s.conditionGone c o) := by
  rw [State.conditionGone_eq]
  refine ⟨fun h => ?_, fun h => by cases h <;> rfl, fun _ _ => rfl, TrackCalm.refl _⟩
  cases h
  · exact s.headA.over_calm _ _ _
  · exact s.headB.over_calm _ _ _

theorem State.conditionsGone_calm (s : State) (f : AlarmEntry → Bool) : Calm s (s.conditionsGone f) :=
  Calm.foldl (fun (t : State) (e : AlarmEntry) => t.conditionGone e.cls e.obj)
    (fun t e => t.conditionGone_calm e.cls e.obj) _ s

/-- R141: and an acknowledgement. -/
theorem State.acknowledge_calm (s : State) (e : AlarmEntry) : Calm s (s.acknowledge e) := by
  unfold State.acknowledge
  split
  · split
    · exact s.removeAlarm_calm e
    · exact s.moveAlarm_calm e _ _
  · exact Calm.refl s
  · exact s.removeAlarm_calm e

theorem State.acknowledgeAll_calm (s : State) : Calm s s.acknowledgeAll :=
  Calm.foldl State.acknowledge State.acknowledge_calm _ s

theorem State.headFaultCleared_calm (s : State) (h : Head) : Calm s (s.headFaultCleared h) := by
  unfold State.headFaultCleared
  split
  · split
    · exact s.removeAlarm_calm _
    · exact Calm.refl s
  · exact Calm.refl s

/-! ## One head: stray events, choices of the operator, ball formation -/

theorem State.stray_calm (s : State) (h : Head) (n : Nat) : Calm s (s.stray h n) :=
  s.updateHead_calm h _ fun c => .noted c c.pause c.weakRun _ c.last c.results c.efoDuration

theorem State.abortCause_calm (s : State) (h : Head) : Calm s (s.abortCause h) := by
  rw [State.abortCause_eq]
  exact (s.updateHead_calm h _ .cut).trans (Calm.of_same rfl rfl rfl rfl rfl rfl)

theorem State.addOperator_calm (s : State) (h : Head) : Calm s (s.updateHead h HeadCtx.addOperator) :=
  s.updateHead_calm h _ fun c => .held c _

theorem State.pauseHead_calm (s : State) (h : Head) (m : PauseMode) : Calm s (s.pauseHead h m) := by
  have asked : Calm s (s.updateHead h fun c => { c with pause := some m }) :=
    s.updateHead_calm h _ fun c => .noted c _ c.weakRun c.stray c.last c.results c.efoDuration
  unfold State.pauseHead
  cases m with
  | now => exact (asked.trans (State.addOperator_calm _ h)).trans (State.abortCause_calm _ h)
  | afterBond => exact asked.trans (State.addOperator_calm _ h)
  | afterUnit => exact Calm.ite (asked.trans (State.addOperator_calm _ h)) asked

theorem State.resumeHead_calm (s : State) (h : Head) : Calm s (s.resumeHead h) :=
  (s.updateHead_calm h (fun c => { c with pause := none }) fun c =>
    .noted c _ c.weakRun c.stray c.last c.results c.efoDuration).trans
    (by
      have := State.updateHead_calm (s.updateHead h fun c => { c with pause := none }) h
        (fun c => { c with holds := { c.holds with operator := false } }.followHolds) fun c => .held c _
      cases h <;> exact this)

theorem State.retryHead_calm (s : State) (h : Head) : Calm s (s.retryHead h) := by
  unfold State.retryHead
  split
  · exact Calm.refl s
  · exact Calm.ite (s.conditionGone_calm _ _) (Calm.refl s)

theorem State.releasePull_calm (s : State) (h : Head) : Calm s (s.releasePull h) :=
  Calm.trans (t := { s with puller := s.puller.setRun h 0 }) (Calm.of_same rfl rfl rfl rfl rfl rfl)
    (State.conditionGone_calm _ _ _)

theorem State.clearResults_calm (s : State) (h : Head) : Calm s (s.updateHead h HeadCtx.clearResults) :=
  s.updateHead_calm h _ fun c => .noted c c.pause c.weakRun _ c.last _ c.efoDuration

theorem State.startEfo_calm (s : State) (h : Head) (n : Nat) : Calm s (s.startEfo h n) := by
  unfold State.startEfo
  split
  · exact s.updateHead_calm h _ fun c => .efo c _ _ _ (by simp) (by simp)
  · exact s.updateHead_calm h _ fun c => .efo c _ _ _ (by simp) (by simp)
  · exact s.stray_calm h 1

/-- R38, R39: a ball formation that ends. -/
theorem HeadCtx.efoEnded_calm (c : HeadCtx) (x : EfoStatus) (d : Option Nat) (hx : x ≠ .timing) :
    CalmHead c { c with efo := x, efoStart := none, efoTimer := none, efoDuration := d } :=
  (ReflTransGen.single (.noted c c.pause c.weakRun c.stray c.last c.results d)).tail
    (.efo _ x none none (by simp [hx]) (by simp [hx]))

theorem State.endEfo_calm (s : State) (h : Head) (n : Nat) : Calm s (s.endEfo h n) := by
  unfold State.endEfo
  extract_lets c d passed t
  split
  · have ended : Calm s t := s.setHead_calm h _ (c.efoEnded_calm _ _ (by split <;> simp))
    split
    · exact ended.trans (t.conditionGone_calm _ _)
    · exact ended.trans (t.raise_calm _ _)
  · exact s.stray_calm h 1

theorem State.expireEfo_calm (s : State) (h : Head) : Calm s (s.expireEfo h) := by
  unfold State.expireEfo
  extract_lets c
  split
  · exact (s.setHead_calm h _ (c.efoEnded_calm .failed c.efoDuration (by simp))).trans
      (State.raise_calm _ _ _)
  · exact Calm.refl s

theorem State.headPortLive_calm (s : State) (h : Head) : Calm s (s.headPortLive h) :=
  (s.updateHead_calm h _ fun c => .held c _).trans (State.headFaultCleared_calm _ h)

/-! ## Short frames and turns -/

theorem State.shortFrame_calm (s : State) (x : Port) (f : Sys2Proof.Frame) : Calm s (s.shortFrame x f) := by
  have stray (h : Head) (b : Bool) :
      Calm s (if b then (s.stray h 1).send .u (.forwarded f) else s.stray h 1) :=
    Calm.ite ((s.stray_calm h 1).trans (State.send_calm _ _ _)) (s.stray_calm h 1)
  unfold State.shortFrame
  cases x with
  | u => exact Calm.ite (Calm.of_frame (s.reply_frame _ _ _) (by simp)) (Calm.refl s)
  | ha => simpa using stray .a (f.kind = Kind.event)
  | hb => simpa using stray .b (f.kind = Kind.event)
  | ix => exact s.send_calm _ _
  | pt => exact Calm.of_same rfl rfl rfl rfl rfl rfl
  | ot => exact Calm.of_frame (s.denyKey_frame _ _ _) (by simp)

theorem State.takeShort_calm (s : State) (x : Port) (f : Sys2Proof.Frame) : Calm s (s.takeShort x f) :=
  ((s.updatePort_calm x _).trans (State.shortFrame_calm _ x f)).trans (State.markChanges_calm _ s)

theorem State.settleUpTo_calm (x : Port) (n : Nat) (s : State) : Calm s (State.settleUpTo x n s) := by
  induction n generalizing s with
  | zero => exact Calm.refl s
  | succ n ih =>
    unfold State.settleUpTo
    split
    · exact Calm.refl s
    · exact (s.takeShort_calm x _).trans (ih _)

theorem State.settle_calm (s : State) (x : Port) : Calm s (s.settle x) :=
  Calm.ite (Calm.refl s) (State.settleUpTo_calm x _ s)

theorem State.settleAll_calm (s : State) : Calm s s.settleAll :=
  Calm.foldl State.settle State.settle_calm _ s

end Sys2Proof.Machine
end

section
/-! SUPPORT. What every step keeps of heads, engines and claims: the close of a bond, the gate and the moves
of units. -/

namespace Sys2Proof.Machine

open Relation

/-! ## Claims, over both heads at once -/

theorem headsInv_iff (s : State) : HeadsInv s ↔ ∀ h, HeadOk (s.head h) := by
  constructor
  · intro ⟨a, b, c, d⟩ h
    cases h
    · exact ⟨a, c⟩
    · exact ⟨b, d⟩
  · intro k
    exact ⟨(k .a).1, (k .b).1, (k .a).2, (k .b).2⟩

theorem enginesInv_iff (s : State) : EnginesInv s ↔ ∀ h, EngineOk (s.head h, s.engine h) := by
  constructor
  · intro ⟨a, b, c, d⟩ h
    cases h
    · exact ⟨a, c⟩
    · exact ⟨b, d⟩
  · intro k
    exact ⟨(k .a).1, (k .b).1, (k .a).2, (k .b).2⟩

/-- R28, R29, R99: the claim invariants, head by head. -/
structure Claims (s : State) : Prop where
  stands : ∀ h, ClaimStands s h
  units : ∀ h, UnitsClaimed s h
  entry : NoClaim s.track.entry
  pull : NoClaim s.track.pull
  exit : NoClaim s.track.exit
  bond : ∀ h, BondOnClaim (s.head h)
  flight : s.track.inFlight.isSome = true → ∀ h, (s.head h).claim = none

theorem claimInv_iff (s : State) : ClaimInv s ↔ Claims s := by
  constructor
  · intro ⟨sa, sb, ua, ub, e, p, x, ba, bb, f⟩
    exact ⟨fun h => by cases h; exacts [sa, sb], fun h => by cases h; exacts [ua, ub], e, p, x,
      fun h => by cases h; exacts [ba, bb], fun k h => by cases h; exacts [(f k).1, (f k).2]⟩
  · intro c
    exact ⟨c.stands .a, c.stands .b, c.units .a, c.units .b, c.entry, c.pull, c.exit, c.bond .a,
      c.bond .b, fun k => ⟨c.flight k .a, c.flight k .b⟩⟩

/-- What the claim invariants read stays from `s` to `t`. -/
structure ClaimSame (s t : State) : Prop where
  claim : ∀ h, (t.head h).claim = (s.head h).claim
  bond : ∀ h, (t.head h).bond = (s.head h).bond
  flying : ∀ h, (t.head h).state.inFlight = (s.head h).state.inFlight
  window : ∀ x ∈ s.track.bond, t.tables.rowsOf x = s.tables.rowsOf x
  track : TrackCalm s.track t.track

theorem CalmHead.keeps {c d : HeadCtx} (h : CalmHead c d) :
    d.claim = c.claim ∧ d.bond = c.bond ∧ d.state.inFlight = c.state.inFlight := by
  induction h with
  | refl => exact ⟨rfl, rfl, rfl⟩
  | tail _ m ih =>
    obtain ⟨h1, h2, h3⟩ := ih
    obtain ⟨k1, k2, k3⟩ := m.keeps
    exact ⟨k1.trans h1, k2.trans h2, k3.trans h3⟩

theorem Calm.claimSame {s t : State} (h : Calm s t) : ClaimSame s t :=
  ⟨fun k => (h.head k).keeps.1, fun k => (h.head k).keeps.2.1, fun k => (h.head k).keeps.2.2, h.window,
    h.track⟩

theorem noClaim_iff (x : Option Strip) :
    NoClaim x ↔ ∀ l ∈ x.map Strip.units, ∀ r ∈ l, r.state.isClaim = false := by
  cases x <;> simp [NoClaim]

theorem ClaimSame.claims {s t : State} (h : ClaimSame s t) (k : Claims s) : Claims t := by
  have noClaim {x y : Option Strip} (e : y.map Strip.units = x.map Strip.units) (n : NoClaim x) :
      NoClaim y := by rw [noClaim_iff] at n ⊢; rwa [e]
  refine ⟨fun i u hu => ?_, fun i x hx y hy hc => ?_, noClaim h.track.entry k.entry,
    noClaim h.track.pull k.pull, noClaim h.track.exit k.exit, fun i => ?_, fun f i => ?_⟩
  · rw [h.claim i] at hu
    obtain ⟨h1, h2⟩ := k.stands i u hu
    rw [h.track.bond]
    refine ⟨h1, fun x hx => ⟨?_, (h2 x hx).2⟩⟩
    have := (h2 x hx).1
    unfold Tables.inWindow at this ⊢
    rwa [h.window x hx]
  · rw [h.claim i]
    rw [h.track.bond] at hx
    exact k.units i x hx y hy hc
  · obtain ⟨h1, h2⟩ := k.bond i
    exact ⟨by rw [h.flying, h.bond]; exact h1, by rw [h.bond, h.claim]; exact h2⟩
  · rw [h.claim i]
    exact k.flight (h.track.inFlight f) i

/-! ## What every step keeps -/

/-- From `s` to `t` each head has moved with its engine, and the claims are kept. -/
structure Kept (s t : State) : Prop where
  heads : ∀ h, ReflTransGen HeadMove (s.head h, s.engine h) (t.head h, t.engine h)
  claims : Claims s → Claims t

theorem Kept.refl (s : State) : Kept s s := ⟨fun _ => .refl, id⟩

theorem Kept.trans {s t u : State} (h : Kept s t) (k : Kept t u) : Kept s u :=
  ⟨fun x => (h.heads x).trans (k.heads x), fun c => k.claims (h.claims c)⟩

theorem Kept.ite {c : Prop} [Decidable c] {s t u : State} (ht : Kept s t) (hu : Kept s u) :
    Kept s (if c then t else u) := by
  split
  · exact ht
  · exact hu

theorem CalmHead.moves {c d : HeadCtx} (e : Engine) (h : CalmHead c d) :
    ReflTransGen HeadMove (c, e) (d, e) := by
  induction h with
  | refl => exact .refl
  | tail _ m ih => exact ih.tail (.calm _ _ e m)

theorem Calm.moves {s t : State} (h : Calm s t) (k : Head) :
    ReflTransGen HeadMove (s.head k, s.engine k) (t.head k, t.engine k) := by
  rw [h.engine k]
  exact (h.head k).moves _

theorem Calm.kept {s t : State} (h : Calm s t) : Kept s t := ⟨h.moves, h.claimSame.claims⟩

theorem Kept.headsInv {s t : State} (h : Kept s t) (k : HeadsInv s) : HeadsInv t := by
  rw [headsInv_iff] at k ⊢
  intro i
  have keep {x y : HeadCtx × Engine} (m : ReflTransGen HeadMove x y) (o : HeadOk x.1) : HeadOk y.1 := by
    induction m with
    | refl => exact o
    | tail _ m ih => exact m.headOk ih
  exact keep (h.heads i) (k i)

theorem Kept.enginesInv {s t : State} (h : Kept s t) (k : EnginesInv s) : EnginesInv t := by
  rw [enginesInv_iff] at k ⊢
  intro i
  have keep {x y : HeadCtx × Engine} (m : ReflTransGen HeadMove x y) (o : EngineOk x) : EngineOk y := by
    induction m with
    | refl => exact o
    | tail _ m ih => exact m.engineOk ih
  exact keep (h.heads i) (k i)

/-- A command in its turn keeps what its block's part keeps. -/
theorem State.turn_kept (s : State) (x : Port) (c : Instr) (act : State → State) (ha : ∀ u, Kept u (act u)) :
    Kept s (s.turn x c act) :=
  Kept.ite ((s.settle_calm x).kept.trans (ha _)) (s.settle_calm x).kept

theorem State.taken_kept (s : State) (x : Port) (c : Instr) (body : State → State)
    (hb : ∀ u, Kept u (body u)) : Kept s (s.taken x c body) :=
  s.turn_kept x c _ fun u => ((u.takeRx_calm x c).kept.trans (hb _)).trans (State.markChanges_calm _ u).kept

theorem State.request_kept (s : State) (c : Instr) (k t : Byte) (body : State → State × Reply)
    (hb : ∀ u, Kept u (body u).1) : Kept s (s.request c k t body) :=
  s.taken_kept .u c _ fun u => (hb u).trans (Calm.of_frame (State.reply_frame _ k t _) (by simp)).kept

theorem State.controlOn_kept {α : Type} (s : State) (c : Instr) (tag : Byte) (operand : Option α)
    (body : α → State → State × Reply) (hb : ∀ a u, Kept u (body a u).1) :
    Kept s (s.controlOn c tag operand body) := by
  unfold State.controlOn State.control
  refine s.request_kept c 3 tag _ fun u => ?_
  cases operand with
  | none => exact Kept.refl u
  | some a => exact hb a u

theorem State.happens_kept (s : State) (body : State → State) (hb : Kept s (body s)) :
    Kept s (s.happens body) := hb.trans (State.markChanges_calm _ s).kept

theorem State.beginKey_calm (s : State) : Calm s s.beginKey := Calm.of_same rfl rfl rfl rfl rfl rfl

theorem State.endKey_calm (s : State) (a b c : Byte) (o : KeyOutcome) : Calm s (s.endKey a b c o) := by
  cases o <;> exact Calm.of_same rfl rfl rfl rfl rfl rfl

theorem State.takeKey_kept {α : Type} (s : State) (level : Nat) (operand : Option α) (code x y : Byte)
    (body : α → State → State × KeyOutcome) (hb : ∀ a u, Kept u (body a u).1) :
    Kept s (s.takeKey level operand code x y body) := by
  have denied : Kept s (s.denyKey code x y) := (Calm.of_frame (s.denyKey_frame code x y) (by simp)).kept
  unfold State.takeKey
  split
  · exact denied
  · cases operand with
    | none => exact denied
    | some a => exact (s.beginKey_calm.kept.trans (hb a _)).trans (State.endKey_calm _ _ _ _ _).kept

/-! ## The track alone -/

/-- An operation that leaves heads, engines and tables, judged by what it does to the claims. -/
theorem Kept.of_track (s : State) (u : Track) (h : Claims s → Claims { s with track := u }) :
    Kept s { s with track := u } := ⟨fun k => by cases k <;> exact .refl, h⟩

theorem zipIdx_mem {α : Type} (l : List α) (a : α) (k : Nat) : (a, k) ∈ l.zipIdx ↔ l[k]? = some a := by
  rw [List.mk_mem_zipIdx_iff_getElem?]

/-- R28: with no claim made, no unit at BOND is claimed. -/
theorem Claims.noClaim_bond {s : State} (c : Claims s) (h : ∀ k, (s.head k).claim = none) :
    NoClaim s.track.bond := by
  intro x hx r hr
  obtain ⟨k, hk⟩ := List.mem_iff_getElem?.mp hr
  cases hs : r.state with
  | claimed i =>
    have := c.units i x hx (r, k) ((zipIdx_mem _ _ _).mpr hk) hs
    rw [h i] at this; cases this
  | pending => rfl
  | done => rfl
  | reject => rfl

/-- With no claim made, only the units on the track matter. -/
theorem Claims.of_none {s : State} (h : ∀ k, (s.head k).claim = none) (hb : ∀ k, BondOnClaim (s.head k))
    (e : NoClaim s.track.entry) (b : NoClaim s.track.bond) (p : NoClaim s.track.pull)
    (x : NoClaim s.track.exit) : Claims s := by
  refine ⟨fun k u hu => ?_, fun k y hy z hz hc => ?_, e, p, x, hb, fun _ => h⟩
  · rw [h k] at hu; cases hu
  · obtain ⟨r, i⟩ := z
    have := b y hy r (List.mem_of_getElem? ((zipIdx_mem _ _ _).mp hz))
    simp only at hc
    rw [hc] at this; cases this

/-- R97, R98, R99: a request with no blocking reason finds no claim. -/
theorem Claims.none_of_gate {s : State} (c : Claims s) (k : IndexKind)
    (h : (s.blockingReasons k).empty = true) (i : Head) : (s.head i).claim = none := by
  cases hc : (s.head i).claim with
  | none => rfl
  | some u =>
    obtain ⟨h1, h2⟩ := c.stands i u hc
    obtain ⟨x, hx⟩ := Option.isSome_iff_exists.mp h1
    obtain ⟨hw, hs⟩ := h2 x hx
    obtain ⟨r, hr, hr'⟩ := Option.map_eq_some_iff.mp hs
    rw [GateReasons.empty_iff, State.blockingReasons_eq] at h
    have h0 := congrArg GateReasons.claims h
    simp only [hx, Option.any_some, List.any_eq_false] at h0
    have := h0 (r, u) ((zipIdx_mem _ _ _).mpr hr)
    simp [hw, hr', UnitState.isClaim] at this

theorem State.forwardIndex_kept (s : State) (k : IndexKind) (h : Claims s → ∀ i, (s.head i).claim = none) :
    Kept s (s.forwardIndex k) := by
  unfold State.forwardIndex
  extract_lets i o t u
  split
  · refine (s.send_calm .ix (.index k i o)).kept.trans (Kept.of_track _ _ fun c => ?_)
    have none := h ((Calm.of_same rfl rfl rfl rfl rfl rfl :
      Calm (s.send .ix (.index k i o)) s).claimSame.claims c)
    exact ⟨c.stands, c.units, c.entry, c.pull, c.exit, c.bond, fun _ => none⟩
  · exact (s.send_calm _ _).kept

theorem State.holdIndex_calm (s : State) (k : IndexKind) (r : GateReasons) : Calm s (s.holdIndex k r) :=
  Calm.of_track s _ ⟨rfl, rfl, rfl, rfl, id⟩

theorem State.gateIndex_kept (s : State) (k : IndexKind) : Kept s (s.gateIndex k) := by
  unfold State.gateIndex
  extract_lets r
  split
  · next h => exact s.forwardIndex_kept k fun c => c.none_of_gate k h
  · exact (s.holdIndex_calm k r).kept

/-- R100: a release event forwards a held request only where no claim is left. -/
theorem State.releaseGate_kept (s : State) : Kept s s.releaseGate := by
  unfold State.releaseGate
  split
  · exact Kept.refl s
  · next q _ =>
    extract_lets r
    split
    · next h =>
      have freed : Calm s { s with track := { s.track with held := none, holdTimer := none } } :=
        Calm.of_track s _ ⟨rfl, rfl, rfl, rfl, id⟩
      exact freed.kept.trans (State.forwardIndex_kept _ _ fun c => c.none_of_gate q.kind h)
    · exact (Calm.of_track s { s.track with held := some ⟨q.kind, r⟩ } ⟨rfl, rfl, rfl, rfl, id⟩).kept

theorem State.claimEnded_kept (s : State) (h : Head) : Kept s (s.claimEnded h) := by
  have told : Calm s (s.updateHead h fun c => if c.pause = some .afterUnit then c.addOperator else c) := by
    refine s.setHead_calm h _ ?_
    dsimp only
    split
    · exact .single (.held _ _)
    · exact .refl
  exact told.kept.trans (State.releaseGate_kept _)

/-! ## One unit (R27, R28, R34, R35, R47) -/

theorem Strip.updateUnit_get (x : Strip) (u v : Nat) (g : UnitRecord → UnitRecord) :
    (x.updateUnit u g).units[v]? = if v = u then (x.units[v]?).map g else x.units[v]? := by
  simp only [Strip.updateUnit, List.getElem?_modify]
  by_cases h : u = v
  · subst h; simp
  · simp [h, Ne.symm h]

theorem Strip.updateUnit_inWindow (T : Tables) (x : Strip) (u v : Nat) (g : UnitRecord → UnitRecord) :
    T.inWindow (x.updateUnit u g) v = T.inWindow x v := by
  have rows : T.rowsOf (x.updateUnit u g) = T.rowsOf x := rfl
  have len : (x.updateUnit u g).units.length = x.units.length := by simp [Strip.updateUnit]
  simp only [Tables.inWindow, rows, len]
  rfl

/-- An operation on one unit and on the head whose claim it is. -/
structure UnitTurn (s : State) (h : Head) (u : Nat) (g : UnitRecord → UnitRecord) (c : HeadCtx)
    (t : State) : Prop where
  head : t.head h = c
  other : t.head (otherHead h) = s.head (otherHead h)
  tables : t.tables = s.tables
  track : t.track = (s.updateUnit u g).track

theorem head_eq_or_other (h k : Head) : k = h ∨ k = otherHead h := by
  cases h <;> cases k <;> simp [otherHead]

/-- R28: the state of a unit that no other head claims is changed together with the claim of its head. -/
theorem UnitTurn.claims {s t : State} {h : Head} {u : Nat} {g : UnitRecord → UnitRecord} {c : HeadCtx}
    (m : UnitTurn s h u g c t) (k : Claims s)
    (ho : ∀ x ∈ s.track.bond, ∀ r ∈ x.units[u]?, r.state ≠ .claimed (otherHead h) ∧
      (g r).state ≠ .claimed (otherHead h) ∧ ((g r).state = .claimed h ↔ c.claim = some u))
    (hn : ∀ v, (s.head h).claim = some v → v ≠ u → c.claim = some v)
    (hc : ∀ v, c.claim = some v → v ≠ u → (s.head h).claim = some v)
    (hu : c.claim = some u → s.track.bond.isSome = true ∧ ∀ x ∈ s.track.bond,
      s.tables.inWindow x u = true ∧ (x.units[u]?).isSome = true)
    (hb : BondOnClaim c) (hf : s.track.inFlight.isSome = true → c.claim = none) : Claims t := by
  have bond : t.track.bond = s.track.bond.map fun x => x.updateUnit u g := by rw [m.track]; rfl
  refine ⟨fun i v hv => ?_, fun i x hx y hy hs => ?_, ?_, ?_, ?_, fun i => ?_, fun f i => ?_⟩
  · have old (hv' : (s.head i).claim = some v) (ne : v ≠ u) : t.track.bond.isSome = true ∧
        ∀ x ∈ t.track.bond, t.tables.inWindow x v = true ∧
          (x.units[v]?).map (fun r => r.state) = some (.claimed i) := by
      obtain ⟨h1, h2⟩ := k.stands i v hv'
      rw [bond, m.tables]
      refine ⟨by simpa using h1, fun x hx => ?_⟩
      obtain ⟨y, hy, rfl⟩ := Option.map_eq_some_iff.mp hx
      rw [Strip.updateUnit_inWindow, Strip.updateUnit_get, if_neg ne]
      exact h2 y hy
    rcases head_eq_or_other h i with rfl | rfl
    · rw [m.head] at hv
      by_cases ne : v = u
      · subst ne
        obtain ⟨h1, h2⟩ := hu hv
        rw [bond, m.tables]
        refine ⟨by simpa using h1, fun x hx => ?_⟩
        obtain ⟨y, hy, rfl⟩ := Option.map_eq_some_iff.mp hx
        obtain ⟨hw, hr⟩ := h2 y hy
        obtain ⟨r, hr⟩ := Option.isSome_iff_exists.mp hr
        rw [Strip.updateUnit_inWindow, Strip.updateUnit_get, if_pos rfl, hr]
        exact ⟨hw, congrArg some ((ho y hy r hr).2.2.mpr hv)⟩
      · exact old (hc v hv ne) ne
    · rw [m.other] at hv
      refine old hv fun e => ?_
      subst e
      obtain ⟨h1, h2⟩ := k.stands _ v hv
      obtain ⟨x, hx⟩ := Option.isSome_iff_exists.mp h1
      obtain ⟨r, hr, hr'⟩ := Option.map_eq_some_iff.mp (h2 x hx).2
      exact (ho x hx r hr).1 hr'
  · rw [bond] at hx
    obtain ⟨z, hz, rfl⟩ := Option.map_eq_some_iff.mp hx
    obtain ⟨r, v⟩ := y
    have hget := (zipIdx_mem _ _ _).mp hy
    rw [Strip.updateUnit_get] at hget
    simp only at hs ⊢
    by_cases ne : v = u
    · subst ne
      rw [if_pos rfl] at hget
      obtain ⟨q, hq, rfl⟩ := Option.map_eq_some_iff.mp hget
      obtain ⟨-, h2, h3⟩ := ho z hz q hq
      rcases head_eq_or_other h i with rfl | rfl
      · rw [m.head]; exact h3.mp hs
      · exact absurd hs h2
    · rw [if_neg ne] at hget
      have := k.units i z hz (r, v) ((zipIdx_mem _ _ _).mpr hget) hs
      rcases head_eq_or_other h i with rfl | rfl
      · rw [m.head]; exact hn v this ne
      · rw [m.other]; exact this
  · rw [m.track]; exact k.entry
  · rw [m.track]; exact k.pull
  · rw [m.track]; exact k.exit
  · rcases head_eq_or_other h i with rfl | rfl
    · rw [m.head]; exact hb
    · rw [m.other]; exact k.bond _
  · rw [m.track] at f
    rcases head_eq_or_other h i with rfl | rfl
    · rw [m.head]; exact hf f
    · rw [m.other]; exact k.flight f _

end Sys2Proof.Machine
end

section
/-! SUPPORT. BOND-START: its checks as a list (R24, TABLE 1), and its acceptance (R26, R27, R49). -/

namespace Sys2Proof.Machine

open Relation

/-! ## The checks -/

/-- R24, TABLE 1: the checks of a BOND-START with their reasons, in their order. -/
def bondChecks (s : State) (head : Option Head) (strip u w : Nat) (kind : Option BondKind) :
    List (Bool × Reason) :=
  let h := head.getD .a
  let x := s.track.bond.getD ⟨0, 0, 0, [], false, .none, 0, 0⟩
  let r := (x.units[u]?).getD ⟨.pending, none, .ballDue, 0, 0, 0, 0⟩
  let k := kind.getD .ball
  let slot := (s.tables.wiresOf x).slot w
  [(s.mgmt.run, .notRunning),
    (head.isSome && (s.port h.port).state != .down && (s.head h).state != .offline, .portDown),
    ((s.head h).state != .hold, .held),
    ((s.head h).state == .idle, .busy),
    (s.track.inFlight.isNone, .moving),
    (s.track.bond.isSome, .noStrip),
    (x.id == strip, .strip),
    (s.tables.inWindow x u, .unitRange),
    (r.state != .done && r.state != .reject, .unitClosed),
    (r.state != .claimed (otherHead h), .claimed),
    ((s.head h).claim == none || (s.head h).claim == some u, .otherUnit),
    ((s.head h).pause != some .afterUnit || (s.head h).claim == some u, .held),
    (r.cursor == some w, .outOfOrder),
    (kind.isSome && r.phase == (if k = .ball then .ballDue else .stitchDue), .phase),
    ((s.tables.programOf (if k = .ball then slot.ball else slot.stitch) k).isSome, .table),
    (k != .ball || (s.head h).efo == .passed, .noBall),
    ((s.port h.port).tx.length < 8, .queueFull)]

/-- The first check of a list that fails. -/
abbrev firstFailed (l : List (Bool × Reason)) : Option (Bool × Reason) := l.find? fun y => !y.1

/-- One check: its reason where it fails, else what the later ones say. -/
theorem firstFailed_step {p : Prop} [Decidable p] {b : Bool} {r : Reason} {l : List (Bool × Reason)}
    {x : Option Reason} (hp : p ↔ b = false) (h : b = true → x = (firstFailed l).map fun y => y.2) :
    (if p then some r else x) = (firstFailed ((b, r) :: l)).map fun y => y.2 := by
  cases b
  · simp [firstFailed, hp]
  · simpa [firstFailed, hp] using h rfl

/-- A check that fails. -/
theorem firstFailed_fail {b : Bool} {r : Reason} {l : List (Bool × Reason)} (h : b = false) :
    some r = (firstFailed ((b, r) :: l)).map fun y => y.2 := by simp [firstFailed, h]

/-- A check that passes. -/
theorem firstFailed_pass {b : Bool} {r : Reason} {l : List (Bool × Reason)} {x : Option Reason}
    (h : b = true) (hx : x = (firstFailed l).map fun y => y.2) :
    x = (firstFailed ((b, r) :: l)).map fun y => y.2 := by simpa [firstFailed, h] using hx

theorem Tables.wireProgram_eq (t : Tables) (x : Strip) (w : Nat) (k : BondKind) : t.wireProgram x w k =
    t.programOf (if k = .ball then ((t.wiresOf x).slot w).ball else ((t.wiresOf x).slot w).stitch) k := by
  cases k <;> rfl

theorem PortRec.hasRoom_head (p : PortRec) (h : Head) : p.hasRoom h.port false = decide (p.tx.length < 8) := by
  cases h <;> exact Bool.and_true _

theorem Tables.inWindow_lt {t : Tables} {x : Strip} {u : Nat} (h : t.inWindow x u = true) :
    u < x.units.length := by
  simp only [Tables.inWindow, Bool.and_eq_true, decide_eq_true_eq] at h
  exact h.2

/-- R24: the reason of a BOND-START is that of the first check that fails. -/
theorem bondStartReason_eq (s : State) (head : Option Head) (strip u w : Nat) (kind : Option BondKind) :
    bondStartReason s head strip u w kind =
      (firstFailed (bondChecks s head strip u w kind)).map fun y => y.2 := by
  unfold bondStartReason bondChecks
  refine firstFailed_step Iff.rfl fun _ => ?_
  cases head with
  | none => exact firstFailed_fail rfl
  | some h =>
    dsimp only [Option.getD_some]
    refine firstFailed_step (by simp [or_iff_not_imp_left]) fun _ => ?_
    refine firstFailed_step (by simp) fun _ => ?_
    refine firstFailed_step (by simp) fun _ => ?_
    refine firstFailed_step (by cases s.track.inFlight <;> simp) fun _ => ?_
    cases s.track.bond with
    | none => exact firstFailed_fail rfl
    | some x =>
      dsimp only [Option.getD_some]
      refine firstFailed_pass rfl (firstFailed_step (by simp) fun _ => firstFailed_step Iff.rfl fun hw => ?_)
      rw [List.getElem?_eq_getElem (Tables.inWindow_lt hw)]
      dsimp only [Option.getD_some]
      generalize x.units[u]'(Tables.inWindow_lt hw) = r
      refine firstFailed_step (by simp [or_iff_not_imp_left]) fun _ => ?_
      refine firstFailed_step (by simp) fun _ => ?_
      refine firstFailed_step (by cases (s.head h).claim <;> simp) fun _ => ?_
      refine firstFailed_step (by simp) fun _ => ?_
      refine firstFailed_step (by simp) fun _ => ?_
      cases kind with
      | none => exact firstFailed_fail rfl
      | some k =>
        dsimp only [Option.getD_some]
        refine firstFailed_step (by cases k <;> simp [BondKind.phase]) fun _ => ?_
        refine firstFailed_step (by simp [Tables.wireProgram_eq]) fun _ => ?_
        refine firstFailed_step (by cases k <;> simp) fun _ => ?_
        exact firstFailed_step (by simp [PortRec.hasRoom_head]) fun _ => rfl

/-- R24: what holds when every check of a BOND-START passes. -/
structure MayBond (s : State) (h : Head) (x : Strip) (r : UnitRecord) (u : Nat) (k : BondKind) : Prop where
  idle : (s.head h).state = .idle
  still : s.track.inFlight = none
  bond : s.track.bond = some x
  window : s.tables.inWindow x u = true
  unit : x.units[u]? = some r
  opened : r.state ≠ .done ∧ r.state ≠ .reject
  free : r.state ≠ .claimed (otherHead h)
  own : (s.head h).claim = none ∨ (s.head h).claim = some u
  ball : k = .ball → (s.head h).efo = .passed

theorem bondStartReason_none {s : State} {head : Option Head} {strip u w : Nat} {kind : Option BondKind}
    (hr : bondStartReason s head strip u w kind = none) :
    ∃ h k x r p, head = some h ∧ kind = some k ∧ s.tables.wireProgram x w k = some p ∧
      MayBond s h x r u k := by
  rw [bondStartReason_eq, Option.map_eq_none_iff, firstFailed, List.find?_eq_none] at hr
  simp only [bondChecks, List.mem_cons, List.not_mem_nil, or_false, forall_eq_or_imp, forall_eq,
    Bool.not_eq_true, Bool.not_eq_false'] at hr
  obtain ⟨-, hh, -, hi, hm, hb, -, hw, ho, hf, hc, -, -, hk, hp, he, -⟩ := hr
  obtain ⟨x, hx⟩ := Option.isSome_iff_exists.mp hb
  have hh : head.isSome = true := by simp only [Bool.and_eq_true] at hh; exact hh.1.1
  have hk : kind.isSome = true := by simp only [Bool.and_eq_true] at hk; exact hk.1
  obtain ⟨h, rfl⟩ := Option.isSome_iff_exists.mp hh
  obtain ⟨k, rfl⟩ := Option.isSome_iff_exists.mp hk
  simp only [hx, Option.getD_some] at hi hw ho hf hc hp he
  have hu := List.getElem?_eq_getElem (Tables.inWindow_lt hw)
  rw [hu, Option.getD_some] at ho hf
  rw [← Tables.wireProgram_eq] at hp
  obtain ⟨p, hp⟩ := Option.isSome_iff_exists.mp hp
  refine ⟨h, k, x, _, p, rfl, rfl, hp, ⟨by simpa using hi, by simpa using hm, hx, hw, hu, ?_, ?_, ?_, ?_⟩⟩
  · simpa using ho
  · simpa using hf
  · simpa using hc
  · intro hk; subst hk; simpa using he

/-! ## The acceptance -/

theorem State.updateUnit_id (s : State) (u : Nat) : (s.updateUnit u id).track = s.track := by
  have : (fun x : Strip => x.updateUnit u id) = id := by
    funext x; simp [Strip.updateUnit, List.modify_id]
  simp [State.updateUnit, this]

/-- R27: what an accepted BOND-START leaves of the head. -/
def HeadCtx.accepted (c : HeadCtx) (u : Nat) (k : BondKind) (b : Bond) : HeadCtx := { c with
  claim := some u
  bond := some b
  efoDuration := if k = .ball then none else c.efoDuration
  efo := if k = .ball then .none else c.efo
  state := .armed }

/-- R27: the bond under construction that an accepted BOND-START makes. -/
def State.bondOf (s : State) (h : Head) (x : Strip) (u w : Nat) (k : BondKind) : Bond :=
  ⟨s.tables.wireProgramNumber x w k, k, s.store.nextRecord, x.id, u, w,
    (x.units[u]?).elim 0 fun r => r.rebond, if k = .ball then (s.head h).efoDuration else none⟩

/-- R26: what a claim leaves of a unit. -/
def UnitRecord.claimedBy (h : Head) (made : Bool) (r : UnitRecord) : UnitRecord :=
  if made then { r with state := .claimed h } else r

/-- R26, R27, R49: all that an accepted BOND-START does. -/
theorem State.acceptBond_eq (s : State) (h : Head) (x : Strip) (u w : Nat) (k : BondKind) (p : Program) :
    s.acceptBond h x u w k p =
      ((({ s with
          track := (s.updateUnit u (UnitRecord.claimedBy h (s.head h).claim.isNone)).track
          store := { s.store with nextRecord := nextInCycle s.store.nextRecord } } : State).setHead h
        ((s.head h).accepted u k (s.bondOf h x u w k))).setEngine h ((s.engine h).arm p.limits)).send h.port
        (.bondOrder k p.force p.us p.window s.store.nextRecord) := by
  have made : UnitRecord.claimedBy h true = fun r => { r with state := .claimed h } := rfl
  have kept : UnitRecord.claimedBy h false = id := rfl
  unfold State.acceptBond
  simp only [decide_eq_true_eq]
  cases hc : (s.head h).claim with
  | none => cases h <;> rfl
  | some v =>
    simp only [Option.isNone_some, kept, State.updateUnit_id]
    cases h <;> rfl

/-- R26, R28, R29: an accepted BOND-START makes a claim that stands. -/
theorem State.acceptBond_kept (s : State) (h : Head) (x : Strip) (r : UnitRecord) (u w : Nat)
    (k : BondKind) (p : Program) (m : MayBond s h x r u k) : Kept s (s.acceptBond h x u w k p) := by
  rw [State.acceptBond_eq]
  refine Kept.trans ?_ (State.send_calm _ _ _).kept
  refine ⟨fun i => ?_, fun c => ?_⟩
  · rcases head_eq_or_other h i with rfl | rfl
    · have used : CalmHead (s.head i) { s.head i with
          efoDuration := if k = .ball then none else (s.head i).efoDuration
          efo := if k = .ball then .none else (s.head i).efo } := by
        refine .trans (.single (.noted _ (s.head i).pause (s.head i).weakRun (s.head i).stray (s.head i).last
          (s.head i).results (if k = .ball then none else (s.head i).efoDuration))) ?_
        split
        · next hk => exact .single (.efoUsed _ (by simp [m.ball hk]))
        · exact .refl
      simpa [HeadCtx.accepted] using (used.moves (s.engine i)).tail
        (.armed _ _ u (s.bondOf i x u w k) p.limits m.idle)
    · cases h <;> exact .refl
  · have own (v : Nat) (hv : (s.head h).claim = some v) : v = u := by
      rcases m.own with h0 | h0 <;> rw [h0] at hv <;> cases hv
      rfl
    refine UnitTurn.claims (h := h) (u := u) (g := UnitRecord.claimedBy h (s.head h).claim.isNone)
      (c := (s.head h).accepted u k (s.bondOf h x u w k))
      ⟨by simp, by cases h <;> rfl, by simp, by simp⟩ c ?_ ?_ ?_ ?_ ⟨rfl, ?_⟩ ?_
    · intro y hy q hq
      rw [m.bond] at hy; cases hy
      rw [m.unit] at hq; cases hq
      have own : (UnitRecord.claimedBy h (s.head h).claim.isNone r).state = .claimed h := by
        rcases m.own with h0 | h0
        · rw [h0]; rfl
        · have := ((c.stands h u h0).2 x m.bond).2
          rw [m.unit] at this
          simpa [h0, UnitRecord.claimedBy] using this
      refine ⟨m.free, ?_, by simp [own, HeadCtx.accepted]⟩
      rw [own]
      intro h0
      exact otherHead_ne h (UnitState.claimed.inj h0).symm
    · exact fun v hv ne => absurd (own v hv) ne
    · exact fun v hv ne => absurd (Option.some.inj hv).symm ne
    · refine fun _ => ⟨by rw [m.bond]; rfl, fun y hy => ?_⟩
      rw [m.bond] at hy; cases hy
      exact ⟨m.window, by rw [m.unit]; rfl⟩
    · intro b hb; cases hb; rfl
    · rw [m.still]; exact fun f => absurd f (by simp)

end Sys2Proof.Machine
end

section
/-! SUPPORT. The close of a bond (R33 to R35, R59), stage by stage: what each leaves, and what the whole close
keeps of heads, engines and claims. -/

namespace Sys2Proof.Machine

open Relation

/-! ## The stages -/

/-- R33 steps 1 to 3: the engine is closed, the record is written and the result counted; the head stands as
ABORTING (log 20). -/
def State.closeBegun (s : State) (h : Head) (b : Bond) (f : Figures) (late link : Bool) : State :=
  (({ s with store := s.store.write (bondRecordOf s.mgmt.time h b f late link) } : State).setEngine h
    ((s.engine h).close b.record f.cls)).setHead h { s.head h with
      state := .aborting, abortTimer := false, results := (s.head h).results.countClass f.cls }

/-- R64, R65: the alarms of a close, but for REBOND-LIMIT. -/
def State.closeAlarmed (s : State) (h : Head) (b : Bond) (f : Figures) (limit : Nat) : State :=
  ((qualityAlarms b.kind f).foldl (fun (s : State) a => s.raise a (.head h)) s).weakRunStep h f limit

/-- R33: the BOND-REPORT of a close. -/
def bondReportOf (h : Head) (b : Bond) (f : Figures) (late link : Bool) : Msg :=
  .bondReport b.record h b.unit b.wire b.kind f.cls f.energy f.deformation
    ⟨f.limit, f.gap, f.long, late, link⟩

/-- R33 step 7: the head takes its last bond and follows its hold reasons. -/
def HeadCtx.closed (b : Bond) (f : Figures) (c : HeadCtx) : HeadCtx :=
  { c with last := some ⟨f.cls, b.kind, f.energy, f.deformation⟩, bond := none, state := c.holds.state }

/-- The weak run limit of the engine's program. -/
def Engine.weakLimit (e : Engine) : Nat := e.limits.elim 0 fun l => l.weakRun

/-- R33: a close up to its step 6. -/
def State.closeMoved (s : State) (h : Head) (b : Bond) (f : Figures) (late link : Bool) : State :=
  (((s.closeBegun h b f late link).closeAlarmed h b f (s.engine h).weakLimit).send .u
    (bondReportOf h b f late link)).moveUnit h b f.cls

/-- R33: a close up to its step 7. -/
def State.closeDone (s : State) (h : Head) (b : Bond) (f : Figures) (late link : Bool) : State :=
  (s.closeMoved h b f late link).updateHead h (HeadCtx.closed b f)

/-- R33: the close of the bond in flight, by its stages. -/
theorem State.closeBond_eq (s : State) (h : Head) (b : Bond) (lift late link : Bool)
    (hb : (s.head h).bond = some b) :
    s.closeBond h lift late link =
      let w := s.closeDone h b ((s.engine h).figures lift) late link
      if (s.head h).claim.isSome ∧ (w.head h).claim = none then w.claimEnded h else w := by
  unfold State.closeBond State.closeDone State.closeMoved State.closeAlarmed State.closeBegun
  dsimp only
  rw [hb]
  cases h <;> rfl

theorem State.closeBond_none (s : State) (h : Head) (lift late link : Bool) (hb : (s.head h).bond = none) :
    s.closeBond h lift late link = s := by
  unfold State.closeBond
  dsimp only
  rw [hb]

/-! ## The unit of a close -/

/-- R34, R35: the unit record after a close. -/
def UnitRecord.afterClose (r : UnitRecord) (m : WireMap) (b : Bond) (limit : Nat) :
    BondClass → UnitRecord
  | .good => r.completeHalf m b .good
  | .weak => r.completeHalf m b .weak
  | .overBond => r.completeHalf m b .overBond
  | .nonstick | .noData => { r with
      rebond := r.rebond + 1, state := if limit < r.rebond + 1 then .reject else r.state }
  | .aborted => r

/-- R34: the close completes the last wire of its unit. -/
def completesUnit (m : WireMap) (b : Bond) (c : BondClass) : Bool :=
  c.completes && b.kind == .stitch && (m.wireFrom (b.wire + 1)).isNone

/-- R35: the close rejects its unit, at `n` rebonds before it. -/
def rejectsUnit (limit n : Nat) : BondClass → Bool
  | .nonstick | .noData => limit < n + 1
  | _ => false

/-- The rebond count of a unit. -/
def Strip.rebonds (x : Strip) (u : Nat) : Nat := (x.units[u]?).elim 0 fun r => r.rebond

/-- R76: the close completes a wire whose final pair is to be pinned. -/
def pinsWire (t : Tables) (x : Strip) (b : Bond) (c : BondClass) : Bool :=
  c.completes && b.kind == .stitch && (x.pullDue && t.selects x b.unit b.wire)

/-- R76, R78: the records after a close. -/
def Store.afterClose (y : Store) (t : Tables) (x : Strip) (b : Bond) (c : BondClass) (limit : Nat) : Store :=
  if rejectsUnit limit (x.rebonds b.unit) c then
    { y with records := y.records.map fun r =>
        if r.strip == x.id && r.unit == b.unit then { r with pinned := false } else r }
  else if pinsWire t x b c then y.pinWire b
  else y

/-- R34, R35: the claim after a close. -/
def HeadCtx.dropClaim (ends : Bool) (c : HeadCtx) : HeadCtx := if ends then { c with claim := none } else c

/-- R29: the close ends the claim. -/
def endsClaim (t : Tables) (x : Strip) (b : Bond) (c : BondClass) (limit : Nat) : Bool :=
  completesUnit (t.wiresOf x) b c || rejectsUnit limit (x.rebonds b.unit) c

theorem Strip.updateUnit_congr (x : Strip) (u : Nat) (f g : UnitRecord → UnitRecord)
    (h : ∀ r ∈ x.units[u]?, f r = g r) : x.updateUnit u f = x.updateUnit u g := by
  have : x.units.modify u f = x.units.modify u g := by
    apply List.ext_getElem?
    intro v
    simp only [List.getElem?_modify]
    by_cases hv : u = v
    · subst hv
      cases hr : x.units[u]? with
      | none => rfl
      | some r => simp [h r hr]
    · simp [hv]
  simp [Strip.updateUnit, this]

theorem State.updateHead_id (s : State) (h : Head) (f : HeadCtx → HeadCtx) (hf : ∀ c, f c = c) :
    s.updateHead h f = s := by
  cases h <;> simp [State.updateHead, State.setHead, State.head, hf]

theorem State.updateUnit_eq (s : State) (u : Nat) (f : UnitRecord → UnitRecord) (x : Strip)
    (hx : s.track.bond = some x) :
    s.updateUnit u f = { s with track := { s.track with bond := some (x.updateUnit u f) } } := by
  simp [State.updateUnit, hx]

/-- R34, R35, R76, R78: the move of the unit, before any REBOND-LIMIT. -/
def State.unitMoved (s : State) (h : Head) (b : Bond) (c : BondClass) (x : Strip) : State :=
  ({ s with
    track := { s.track with bond := some (x.updateUnit b.unit fun r =>
      r.afterClose (s.tables.wiresOf x) b (s.rebondLimit b) c) }
    store := s.store.afterClose s.tables x b c (s.rebondLimit b) } : State).updateHead h
      (HeadCtx.dropClaim (endsClaim s.tables x b c (s.rebondLimit b)))

theorem State.completeStep_eq (s : State) (h : Head) (b : Bond) (c : BondClass) (x : Strip)
    (hc : c.completes = true) (hx : s.track.bond = some x) :
    s.completeStep h b c x = s.unitMoved h b c x := by
  have hr (n m : Nat) : rejectsUnit n m c = false := by
    cases c with
    | good | weak | overBond => rfl
    | nonstick | noData | aborted => exact absurd hc Bool.false_ne_true
  have hg : (fun r : UnitRecord => r.afterClose (s.tables.wiresOf x) b (s.rebondLimit b) c) =
      fun r => r.completeHalf (s.tables.wiresOf x) b c := by
    cases c with
    | good | weak | overBond => rfl
    | nonstick | noData | aborted => exact absurd hc Bool.false_ne_true
  unfold State.completeStep State.unitMoved
  simp only [hg, Store.afterClose, hr, pinsWire, endsClaim, completesUnit, hc, State.updateUnit_eq _ _ _ x hx,
    Bool.true_and, Bool.or_false]
  cases hk : b.kind with
  | ball => exact (State.updateHead_id _ h _ fun _ => rfl).symm
  | stitch =>
    cases hw : (s.tables.wiresOf x).wireFrom (b.wire + 1) <;>
      cases hp : (x.pullDue && s.tables.selects x b.unit b.wire) <;> cases h <;>
      rfl

theorem State.failStep_eq (s : State) (h : Head) (b : Bond) (c : BondClass) (x : Strip)
    (hc : c = .nonstick ∨ c = .noData) (hx : s.track.bond = some x) :
    s.failStep h b x = if rejectsUnit (s.rebondLimit b) (x.rebonds b.unit) c then
        (s.unitMoved h b c x).raise .rebondLimit (.head h)
      else s.unitMoved h b c x := by
  have hr : rejectsUnit (s.rebondLimit b) (x.rebonds b.unit) c =
      decide (s.rebondLimit b < x.rebonds b.unit + 1) := by
    rcases hc with rfl | rfl <;> rfl
  have hg (r : UnitRecord) : r.afterClose (s.tables.wiresOf x) b (s.rebondLimit b) c =
      { r with rebond := r.rebond + 1
               state := if s.rebondLimit b < r.rebond + 1 then .reject else r.state } := by
    rcases hc with rfl | rfl <;> rfl
  have hcc : c.completes = false := by rcases hc with rfl | rfl <;> rfl
  have hn (r : UnitRecord) (h0 : r ∈ x.units[b.unit]?) : x.rebonds b.unit = r.rebond := by
    simp [Strip.rebonds, Option.mem_def.mp h0]
  have hl (t : State) (ht : t.tables = s.tables) : t.rebondLimit b = s.rebondLimit b := by
    simp [State.rebondLimit, ht]
  unfold State.failStep
  extract_lets n s1 s2 s3
  have h1 : s1 = { s with track := { s.track with
      bond := some (x.updateUnit b.unit fun r => { r with rebond := x.rebonds b.unit + 1 }) } } :=
    s.updateUnit_eq _ _ x hx
  rw [hl s1 rfl]
  change (if s.rebondLimit b < x.rebonds b.unit + 1 then _ else _) = _
  by_cases hlt : s.rebondLimit b < x.rebonds b.unit + 1
  · have hrej : rejectsUnit (s.rebondLimit b) (x.rebonds b.unit) c = true := by rw [hr]; simpa using hlt
    have hs2 : s2 = { s with track := { s.track with bond := some (x.updateUnit b.unit fun r =>
        r.afterClose (s.tables.wiresOf x) b (s.rebondLimit b) c) } } := by
      have hb1 : s1.track.bond =
          some (x.updateUnit b.unit fun r => { r with rebond := x.rebonds b.unit + 1 }) := by rw [h1]
      have hmm : (x.updateUnit b.unit fun r => { r with rebond := x.rebonds b.unit + 1 }).updateUnit b.unit
          (fun r => { r with state := .reject }) = x.updateUnit b.unit fun r =>
            r.afterClose (s.tables.wiresOf x) b (s.rebondLimit b) c := by
        rw [Strip.updateUnit, Strip.updateUnit, List.modify_modify_eq]
        refine Strip.updateUnit_congr x b.unit _ _ fun r h0 => ?_
        rw [hg, ← hn r h0, if_pos hlt]
        rfl
      simp only [s2]
      rw [State.updateUnit_eq _ _ _ _ hb1, hmm, h1]
    rw [if_pos hlt, if_pos hrej]
    simp only [s3, hs2, State.unitMoved, endsClaim, completesUnit, hcc, hrej, Store.afterClose,
      Bool.false_and, Bool.false_or, if_true]
    cases h <;> rfl
  · have hrej : rejectsUnit (s.rebondLimit b) (x.rebonds b.unit) c = false := by rw [hr]; simpa using hlt
    rw [if_neg hlt, hrej, h1]
    have hmm : (x.updateUnit b.unit fun r => { r with rebond := x.rebonds b.unit + 1 }) =
        x.updateUnit b.unit fun r => r.afterClose (s.tables.wiresOf x) b (s.rebondLimit b) c := by
      refine Strip.updateUnit_congr x b.unit _ _ fun r h0 => ?_
      rw [hg, ← hn r h0, if_neg hlt]
    rw [hmm]
    simp only [State.unitMoved, endsClaim, completesUnit, hcc, hrej, Store.afterClose, pinsWire,
      Bool.false_and, Bool.or_false, Bool.false_eq_true, if_false]
    exact (State.updateHead_id _ h _ fun _ => rfl).symm

/-- R33 step 6: the move of the unit at a close, with its REBOND-LIMIT. -/
theorem State.moveUnit_eq (s : State) (h : Head) (b : Bond) (c : BondClass) (x : Strip)
    (hx : s.track.bond = some x) :
    s.moveUnit h b c = if rejectsUnit (s.rebondLimit b) (x.rebonds b.unit) c then
        (s.unitMoved h b c x).raise .rebondLimit (.head h)
      else s.unitMoved h b c x := by
  unfold State.moveUnit
  rw [hx]
  cases c with
  | good => exact s.completeStep_eq h b _ x rfl hx
  | weak => exact s.completeStep_eq h b _ x rfl hx
  | overBond => exact s.completeStep_eq h b _ x rfl hx
  | nonstick => exact s.failStep_eq h b _ x (.inl rfl) hx
  | noData => exact s.failStep_eq h b _ x (.inr rfl) hx
  | aborted =>
    have hu : x.updateUnit b.unit (fun r => r) = x := by
      simp [Strip.updateUnit, show (fun r : UnitRecord => r) = id from rfl, List.modify_id]
    change s = State.unitMoved s h b .aborted x
    simp only [State.unitMoved, UnitRecord.afterClose, hu, ← hx]
    exact (State.updateHead_id _ h _ fun _ => rfl).symm

theorem State.moveUnit_none (s : State) (h : Head) (b : Bond) (c : BondClass) (hx : s.track.bond = none) :
    s.moveUnit h b c = s := by
  unfold State.moveUnit
  rw [hx]

end Sys2Proof.Machine
end

section
/-! SUPPORT. What the close of a bond keeps of heads, engines and claims. -/

namespace Sys2Proof.Machine

open Relation

/-! ## The closing head -/

/-- A closing head, which stands as ABORTING: its hold reasons, its weak run and its claim alone move. -/
def Lingers (c d : HeadCtx) : Prop := d = { c with holds := d.holds, weakRun := d.weakRun, claim := d.claim }

theorem Lingers.refl (c : HeadCtx) : Lingers c c := rfl

theorem Lingers.trans {c d e : HeadCtx} (h : Lingers c d) (k : Lingers d e) : Lingers c e := by
  unfold Lingers at *
  rw [k, h]

/-- R138, R143: what a raise leaves of a head that is ABORTING. -/
theorem HeadCtx.raised_aborting (c : HeadCtx) (k : Head) (l : List AlarmEntry) (listed stops : Bool)
    (hc : c.state = .aborting) : c.raised k l listed stops =
      { c with holds := if listed then c.holds else c.holds.judged k l } := by
  have hj : c.judge k l = { c with holds := c.holds.judged k l } := by
    rw [HeadCtx.judge_fields]; simp [hc, HeadState.inFlight]
  unfold HeadCtx.raised
  rw [hj, HeadCtx.cut_of_not_cuttable _ (by simp [hc, HeadState.cuttable])]
  cases listed <;> simp

theorem State.raise_head (s : State) (c : AlarmClass) (o : AlarmObject) (k : Head) :
    (s.raise c o).head k = (s.head k).raised k (s.raise c o).alarms.entries
      (Alarms.find s.alarms.entries c o).isSome (s.stops c o) := by
  rw [State.raise_eq]; cases k <;> rfl

theorem State.raise_lingers (s : State) (c : AlarmClass) (o : AlarmObject) (h : Head)
    (hs : (s.head h).state = .aborting) : Lingers (s.head h) ((s.raise c o).head h) := by
  rw [s.raise_head, HeadCtx.raised_aborting _ _ _ _ _ hs]
  rfl

/-- A head that lingers stays ABORTING. -/
theorem Lingers.aborting {c d : HeadCtx} (h : Lingers c d) (hc : c.state = .aborting) :
    d.state = .aborting := by rw [h]; exact hc

theorem Lingers.bond {c d : HeadCtx} (h : Lingers c d) : d.bond = c.bond := by rw [h]

/-- From `s` to `t` head `h` lingers, and all else is calm. -/
structure Closing (h : Head) (s t : State) : Prop where
  calm : Calm s t
  head : Lingers (s.head h) (t.head h)

theorem Closing.refl (h : Head) (s : State) : Closing h s s := ⟨Calm.refl s, rfl⟩

theorem Closing.trans {h : Head} {s t u : State} (k : Closing h s t) (l : Closing h t u) : Closing h s u :=
  ⟨k.calm.trans l.calm, k.head.trans l.head⟩

theorem State.raise_closing (s : State) (c : AlarmClass) (o : AlarmObject) (h : Head)
    (hs : (s.head h).state = .aborting) : Closing h s (s.raise c o) :=
  ⟨s.raise_calm c o, s.raise_lingers c o h hs⟩

theorem State.raises_closing (l : List AlarmClass) (o : AlarmObject) (h : Head) (s : State)
    (hs : (s.head h).state = .aborting) :
    Closing h s (l.foldl (fun (s : State) a => s.raise a o) s) := by
  induction l generalizing s with
  | nil => exact Closing.refl h s
  | cons a l ih =>
    have first := s.raise_closing a o h hs
    exact first.trans (ih _ (first.head.aborting hs))

theorem State.setWeakRun_closing (s : State) (h : Head) (n : Nat) :
    Closing h s (s.updateHead h fun c => { c with weakRun := n }) :=
  ⟨s.updateHead_calm h _ fun c => .noted c c.pause n c.stray c.last c.results c.efoDuration, by simp [Lingers]⟩

theorem State.weakRunStep_closing (s : State) (h : Head) (f : Figures) (limit : Nat)
    (hs : (s.head h).state = .aborting) : Closing h s (s.weakRunStep h f limit) := by
  unfold State.weakRunStep
  extract_lets n t
  have counted : Closing h s t := s.setWeakRun_closing h n
  split
  · exact counted.trans (t.raise_closing _ _ h (counted.head.aborting hs))
  · exact counted

/-- R64, R65: the alarms of a close leave the closing head ABORTING. -/
theorem State.closeAlarmed_closing (s : State) (h : Head) (b : Bond) (f : Figures) (limit : Nat)
    (hs : (s.head h).state = .aborting) : Closing h s (s.closeAlarmed h b f limit) := by
  have raised := State.raises_closing (qualityAlarms b.kind f) (.head h) h s hs
  exact raised.trans (State.weakRunStep_closing _ h f limit (raised.head.aborting hs))

theorem State.send_head (s : State) (x : Port) (m : Msg) (h : Head) : (s.send x m).head h = s.head h := by
  cases h <;> rfl

theorem State.send_closing (s : State) (x : Port) (m : Msg) (h : Head) : Closing h s (s.send x m) :=
  ⟨s.send_calm x m, by rw [State.send_head]; rfl⟩

theorem HeadCtx.dropClaim_lingers (ends : Bool) (c : HeadCtx) : Lingers c (c.dropClaim ends) := by
  unfold HeadCtx.dropClaim
  split <;> rfl

theorem State.unitMoved_head (s : State) (h : Head) (b : Bond) (c : BondClass) (x : Strip) :
    (s.unitMoved h b c x).head h =
      (s.head h).dropClaim (endsClaim s.tables x b c (s.rebondLimit b)) := by
  cases h <;> rfl

theorem State.unitMoved_other (s : State) (h : Head) (b : Bond) (c : BondClass) (x : Strip) :
    (s.unitMoved h b c x).head (otherHead h) = s.head (otherHead h) := by cases h <;> rfl

/-- R33 step 6: the closing head, the other head and the engines at the move of the unit. -/
theorem State.moveUnit_heads (s : State) (h : Head) (b : Bond) (c : BondClass)
    (hs : (s.head h).state = .aborting) :
    Lingers (s.head h) ((s.moveUnit h b c).head h) ∧
      CalmHead (s.head (otherHead h)) ((s.moveUnit h b c).head (otherHead h)) ∧
      ∀ k, (s.moveUnit h b c).engine k = s.engine k := by
  cases hx : s.track.bond with
  | none => rw [s.moveUnit_none h b c hx]; exact ⟨rfl, .refl, fun _ => rfl⟩
  | some x =>
    have hm : Lingers (s.head h) ((s.unitMoved h b c x).head h) := by
      rw [s.unitMoved_head]; exact HeadCtx.dropClaim_lingers _ _
    have ho : CalmHead (s.head (otherHead h)) ((s.unitMoved h b c x).head (otherHead h)) := by
      rw [s.unitMoved_other]
    have he (k : Head) : (s.unitMoved h b c x).engine k = s.engine k := by cases h <;> cases k <;> rfl
    rw [s.moveUnit_eq h b c x hx]
    split
    · have r := State.raise_closing (s.unitMoved h b c x) .rebondLimit (.head h) h (hm.aborting hs)
      exact ⟨hm.trans r.head, ho.trans (r.calm.head _), fun k => (r.calm.engine k).trans (he k)⟩
    · exact ⟨hm, ho, he⟩

/-- R33, R59: how both heads and their engines move at a close, up to its step 7. -/
theorem State.closeMoved_heads (s : State) (h : Head) (b : Bond) (f : Figures) (late link : Bool) :
    Lingers { s.head h with
        state := .aborting, abortTimer := false, results := (s.head h).results.countClass f.cls }
      ((s.closeMoved h b f late link).head h) ∧
    CalmHead (s.head (otherHead h)) ((s.closeMoved h b f late link).head (otherHead h)) ∧
    (s.closeMoved h b f late link).engine h = (s.engine h).close b.record f.cls ∧
    (s.closeMoved h b f late link).engine (otherHead h) = s.engine (otherHead h) := by
  have hb : (s.closeBegun h b f late link).head h = { s.head h with
      state := .aborting, abortTimer := false, results := (s.head h).results.countClass f.cls } := by
    simp [State.closeBegun]
  have hs : ((s.closeBegun h b f late link).head h).state = .aborting := by rw [hb]
  have alarmed := State.closeAlarmed_closing _ h b f (s.engine h).weakLimit hs
  have told := alarmed.trans (State.send_closing _ .u (bondReportOf h b f late link) h)
  obtain ⟨m1, m2, m3⟩ := State.moveUnit_heads _ h b f.cls (told.head.aborting hs)
  refine ⟨hb ▸ told.head.trans m1, ?_, ?_, ?_⟩
  · exact (told.calm.head (otherHead h)).trans m2 |> fun k => by
      have : (s.closeBegun h b f late link).head (otherHead h) = s.head (otherHead h) := by cases h <;> rfl
      rwa [this] at k
  · exact (m3 h).trans ((told.calm.engine h).trans (by cases h <;> rfl))
  · exact (m3 _).trans ((told.calm.engine _).trans (by cases h <;> rfl))

/-- R33, R59: a close moves its head with its engine, and the other head calmly. -/
theorem State.closeDone_moves (s : State) (h : Head) (b : Bond) (f : Figures) (late link : Bool)
    (hb : (s.head h).bond = some b) (k : Head) :
    ReflTransGen HeadMove (s.head k, s.engine k)
      ((s.closeDone h b f late link).head k, (s.closeDone h b f late link).engine k) := by
  obtain ⟨m1, m2, m3, m4⟩ := s.closeMoved_heads h b f late link
  rcases head_eq_or_other h k with rfl | rfl
  · have noted := HeadMove.calm _ _ (s.engine k) (.noted (s.head k) (s.head k).pause
      ((s.closeMoved k b f late link).head k).weakRun (s.head k).stray
      (some ⟨f.cls, b.kind, f.energy, f.deformation⟩) ((s.head k).results.countClass f.cls)
      (s.head k).efoDuration)
    have claimed := (ReflTransGen.single noted).tail
      (.claim _ _ ((s.closeMoved k b f late link).head k).claim)
    have closed := claimed.tail (.closed _ _ ((s.closeMoved k b f late link).head k).holds b.record f.cls
      (by simp [hb]))
    have head : (s.closeDone k b f late link).head k =
        HeadCtx.closed b f ((s.closeMoved k b f late link).head k) := by simp [State.closeDone]
    have eng : (s.closeDone k b f late link).engine k = (s.engine k).close b.record f.cls := by
      rw [← m3]; cases k <;> rfl
    rw [head, eng, m1]
    exact closed
  · have head : (s.closeDone h b f late link).head (otherHead h) =
        (s.closeMoved h b f late link).head (otherHead h) := by simp [State.closeDone]
    have eng : (s.closeDone h b f late link).engine (otherHead h) = s.engine (otherHead h) := by
      rw [← m4]; cases h <;> rfl
    rw [head, eng]
    exact m2.moves _

/-! ## The claims at a close -/

/-- R34, R35: the state of the unit after a close. -/
theorem UnitRecord.afterClose_state (r : UnitRecord) (m : WireMap) (b : Bond) (limit : Nat) (c : BondClass) :
    (r.afterClose m b limit c).state = if completesUnit m b c then .done
      else if rejectsUnit limit r.rebond c then .reject else r.state := by
  have half (c : BondClass) (hc : c.completes = true) : (r.completeHalf m b c).state =
      if completesUnit m b c then .done else r.state := by
    unfold UnitRecord.completeHalf completesUnit
    cases hk : b.kind <;> cases hw : m.wireFrom (b.wire + 1) <;> simp [hc]
  cases c with
  | good => exact half _ rfl
  | weak => exact half _ rfl
  | overBond => exact half _ rfl
  | nonstick => simp [UnitRecord.afterClose, completesUnit, BondClass.completes, rejectsUnit]
  | noData => simp [UnitRecord.afterClose, completesUnit, BondClass.completes, rejectsUnit]
  | aborted => rfl

/-- R28, R33, R34, R35: the unit moves together with the claim of the closing head. -/
theorem Claims.unitMoved {s t : State} {h : Head} {b : Bond} {f : Figures} {x : Strip} (k : Claims s)
    (hb : (s.head h).bond = some b) (hx : s.track.bond = some x)
    (ht : t = (s.unitMoved h b f.cls x).updateHead h (HeadCtx.closed b f)) : Claims t := by
  have hclaim : (s.head h).claim = some b.unit := (k.bond h).2 b hb
  obtain ⟨-, h2⟩ := k.stands h b.unit hclaim
  obtain ⟨hw, hr⟩ := h2 x hx
  obtain ⟨r, hr, hrs⟩ := Option.map_eq_some_iff.mp hr
  have hn : x.rebonds b.unit = r.rebond := by simp [Strip.rebonds, hr]
  set ends := endsClaim s.tables x b f.cls (s.rebondLimit b) with hends
  have claim : (HeadCtx.closed b f ((s.head h).dropClaim ends)).claim = if ends then none else some b.unit := by
    unfold HeadCtx.closed HeadCtx.dropClaim
    split <;> simp [hclaim]
  refine UnitTurn.claims (s := s) (h := h) (u := b.unit)
    (g := fun r => r.afterClose (s.tables.wiresOf x) b (s.rebondLimit b) f.cls)
    (c := HeadCtx.closed b f ((s.head h).dropClaim ends)) ⟨?_, ?_, ?_, ?_⟩ k ?_ ?_ ?_ ?_ ⟨?_, ?_⟩ ?_
  · rw [ht, State.head_updateHead_self, State.unitMoved_head]
  · rw [ht, State.head_updateHead_other, State.unitMoved_other]
  · rw [ht]; cases h <;> rfl
  · rw [ht, State.updateHead_track, State.updateUnit_eq _ _ _ x hx]; cases h <;> rfl
  · intro y hy q hq
    rw [hx] at hy; cases hy
    rw [hr] at hq; cases hq
    have state : (r.afterClose (s.tables.wiresOf x) b (s.rebondLimit b) f.cls).state =
        if completesUnit (s.tables.wiresOf x) b f.cls then .done
        else if rejectsUnit (s.rebondLimit b) r.rebond f.cls then .reject else .claimed h := by
      rw [UnitRecord.afterClose_state, hrs]
    have other : UnitState.claimed h ≠ .claimed (otherHead h) := fun h0 =>
      otherHead_ne h (UnitState.claimed.inj h0).symm
    refine ⟨by rw [hrs]; exact other, ?_, ?_⟩
    · rw [state]
      split
      · simp
      · split
        · simp
        · exact other
    · rw [claim, state, hends, endsClaim, hn]
      cases completesUnit (s.tables.wiresOf x) b f.cls <;>
        cases rejectsUnit (s.rebondLimit b) r.rebond f.cls <;> simp
  · intro v hv ne; rw [hclaim] at hv; exact absurd (Option.some.inj hv).symm ne
  · intro v hv ne
    rw [claim] at hv
    split at hv
    · cases hv
    · exact absurd (Option.some.inj hv).symm ne
  · refine fun _ => ⟨by rw [hx]; rfl, fun y hy => ?_⟩
    rw [hx] at hy; cases hy
    exact ⟨hw, by rw [hr]; rfl⟩
  · exact Holds.state_inFlight _
  · exact fun b hb => absurd hb (by simp [HeadCtx.closed])
  · intro f0
    have := k.flight f0 h
    rw [hclaim] at this; cases this

/-- A calm operation ahead of the end of a close is one behind it, for the claims. -/
theorem Calm.closedHead {s t : State} (m : Calm s t) (h : Head) (b : Bond) (f : Figures) :
    ClaimSame (s.updateHead h (HeadCtx.closed b f)) (t.updateHead h (HeadCtx.closed b f)) := by
  have c := m.claimSame
  refine ⟨fun k => ?_, fun k => ?_, fun k => ?_, by simpa using c.window, by simpa using c.track⟩ <;>
    rcases head_eq_or_other h k with rfl | rfl <;> simp [HeadCtx.closed, c.claim, c.bond, c.flying]

/-- R28, R33: a close keeps the claims. -/
theorem Claims.closeDone {s : State} (k : Claims s) (h : Head) (b : Bond) (f : Figures) (late link : Bool)
    (hb : (s.head h).bond = some b) : Claims (s.closeDone h b f late link) := by
  have hfly : (s.head h).state.inFlight = true := by rw [(k.bond h).1, hb]; rfl
  have begun : ClaimSame s (s.closeBegun h b f late link) := by
    refine ⟨fun i => ?_, fun i => ?_, fun i => ?_, fun _ _ => by cases h <;> rfl, ?_⟩
    · rcases head_eq_or_other h i with rfl | rfl
      · simp [State.closeBegun]
      · cases h <;> rfl
    · rcases head_eq_or_other h i with rfl | rfl
      · simp [State.closeBegun]
      · cases h <;> rfl
    · rcases head_eq_or_other h i with rfl | rfl
      · rw [hfly]; simp [State.closeBegun, HeadState.inFlight]
      · cases h <;> rfl
    · simpa [State.closeBegun] using TrackCalm.refl _
  have hs : ((s.closeBegun h b f late link).head h).state = .aborting := by simp [State.closeBegun]
  have told := (State.closeAlarmed_closing _ h b f (s.engine h).weakLimit hs).trans
    (State.send_closing _ .u (bondReportOf h b f late link) h)
  have ku := told.calm.claimSame.claims (begun.claims k)
  have hbu := told.head.bond.trans ((begun.bond h).trans hb)
  have hsu := told.head.aborting hs
  unfold State.closeDone State.closeMoved
  generalize State.send _ .u (bondReportOf h b f late link) = u at ku hbu hsu
  have standing := (ku.stands h b.unit ((ku.bond h).2 b hbu)).1
  obtain ⟨x, hx⟩ := Option.isSome_iff_exists.mp standing
  have moved := ku.unitMoved (f := f) hbu hx rfl
  rw [u.moveUnit_eq h b f.cls x hx]
  split
  · exact ((State.raise_calm _ _ _).closedHead h b f).claims moved
  · exact moved

/-- R33, R42: the close of a bond keeps heads, engines and claims. -/
theorem State.closeBond_kept (s : State) (h : Head) (lift late link : Bool) :
    Kept s (s.closeBond h lift late link) := by
  cases hb : (s.head h).bond with
  | none => rw [s.closeBond_none h lift late link hb]; exact Kept.refl s
  | some b =>
    have done : Kept s (s.closeDone h b ((s.engine h).figures lift) late link) :=
      ⟨s.closeDone_moves h b _ late link hb, fun k => k.closeDone h b _ late link hb⟩
    rw [s.closeBond_eq h b lift late link hb]
    exact Kept.ite (done.trans (State.claimEnded_kept _ h)) done

end Sys2Proof.Machine
end

section
/-! SUPPORT. What every step keeps of heads, engines and claims: the rest of the operations, and the commands
chapter by chapter. -/

namespace Sys2Proof.Machine

open Relation

/-! ## A track without claims -/

/-- No unit is claimed, and no head has a claim. -/
structure Vacant (s : State) : Prop where
  claim : ∀ k, (s.head k).claim = none
  bonds : ∀ k, BondOnClaim (s.head k)
  entry : NoClaim s.track.entry
  bond : NoClaim s.track.bond
  pull : NoClaim s.track.pull
  exit : NoClaim s.track.exit

theorem Vacant.claims {s : State} (v : Vacant s) : Claims s :=
  Claims.of_none v.claim v.bonds v.entry v.bond v.pull v.exit

theorem Claims.vacant {s : State} (c : Claims s) (h : ∀ k, (s.head k).claim = none) : Vacant s :=
  ⟨h, c.bond, c.entry, c.noClaim_bond h, c.pull, c.exit⟩

/-- From `s` to `t` each head has moved with its engine, and where `p` holds a track without claims stays
one. -/
structure Shifts (p : Prop) (s t : State) : Prop where
  heads : ∀ h, ReflTransGen HeadMove (s.head h, s.engine h) (t.head h, t.engine h)
  vacant : p → Vacant s → Vacant t

section
variable {p : Prop} {s t u : State}

theorem Shifts.refl (s : State) : Shifts p s s := ⟨fun _ => .refl, fun _ => id⟩

theorem Shifts.trans (h : Shifts p s t) (k : Shifts p t u) : Shifts p s u :=
  ⟨fun x => (h.heads x).trans (k.heads x), fun hp c => k.vacant hp (h.vacant hp c)⟩

theorem Shifts.mono {q : Prop} (h : Shifts p s t) (hq : q → p) : Shifts q s t :=
  ⟨h.heads, fun k => h.vacant (hq k)⟩

theorem Calm.shifts (h : Calm s t) : Shifts p s t := by
  refine ⟨h.moves, fun _ v => ?_⟩
  have c := h.claimSame
  exact Claims.vacant (c.claims v.claims) fun k => (c.claim k).trans (v.claim k)

/-- What a shift of strips keeps where a request is in flight, or no claim is made. -/
theorem Shifts.kept (h : Shifts True s t) (hs : Claims s → ∀ k, (s.head k).claim = none) :
    Kept s t := ⟨h.heads, fun c => (h.vacant trivial (c.vacant (hs c))).claims⟩

theorem Shifts.happens {body : State → State} (h : Shifts p s (body s)) :
    Shifts p s (s.happens body) := h.trans (State.markChanges_calm _ s).shifts

theorem Shifts.foldl {α : Type} (f : State → α → State) (xs : List α)
    (hf : ∀ a ∈ xs, ∀ s, Shifts p s (f s a)) (s : State) : Shifts p s (xs.foldl f s) := by
  induction xs generalizing s with
  | nil => exact Shifts.refl s
  | cons a xs ih => exact (hf a (by simp) s).trans (ih (fun b hb => hf b (by simp [hb])) _)

/-- A shift of strips. -/
theorem Shifts.of_track (s : State) (u : Track)
    (h : p → Vacant s → NoClaim u.entry ∧ NoClaim u.bond ∧ NoClaim u.pull ∧ NoClaim u.exit) :
    Shifts p s { s with track := u } := by
  refine ⟨fun k => by cases k <;> exact .refl, fun hp v => ?_⟩
  obtain ⟨h1, h2, h3, h4⟩ := h hp v
  exact ⟨v.claim, v.bonds, h1, h2, h3, h4⟩

end

theorem NoClaim.of_none : NoClaim none := fun _ h => by cases h

theorem NoClaim.map {x : Option Strip} (h : NoClaim x) (f : Strip → Strip) (hf : ∀ y, (f y).units = y.units) :
    NoClaim (x.map f) := by
  rw [noClaim_iff] at h ⊢
  simpa [Function.comp_def, hf] using h

/-- R89: a new strip has no claimed unit. -/
theorem Tables.newStrip_noClaim (t : Tables) (id dev first : Nat) (due : Bool) :
    NoClaim (some (t.newStrip id dev first due)) := by
  intro x hx r hr
  cases hx
  simp only [Tables.newStrip, List.mem_map] at hr
  obtain ⟨u, -, rfl⟩ := hr
  generalize (if (t.device dev).isSome = true then _ else WireMap.cleared) = m
  split <;> rfl

/-! ## Pull testing is calm, but for the gate -/

theorem State.pullWake_calm (s : State) : Calm s s.pullWake :=
  Calm.of_frame s.pullWake_frame (by simp)

theorem State.updatePullStrip_calm (s : State) (f : Strip → Strip) (hf : ∀ x, (f x).units = x.units) :
    Calm s (s.updatePullStrip f) :=
  Calm.of_track s _ ⟨rfl, rfl, by simp [Function.comp_def, hf], rfl, id⟩

theorem State.endPull_kept (s : State) : Kept s s.endPull := by
  unfold State.endPull
  extract_lets timedOut a s1 s2 s3
  have h1 : Calm s s1 := Calm.of_same rfl rfl rfl rfl rfl rfl
  have h2 : Calm s s2 := h1.trans (State.updatePullStrip_calm _ _ fun _ => rfl)
  have h3 : Calm s s3 := Calm.ite h2 (h2.trans (State.conditionGone_calm _ _ _))
  exact h3.kept.trans (State.releaseGate_kept s3)

theorem State.writePull_calm (s : State) (k : Nat) (v : Verdict) (f : Option Nat) (m : Option PullMode) :
    Calm s (s.writePull k v f m) := by
  unfold State.writePull
  split
  · exact Calm.refl s
  · split
    · exact Calm.refl s
    · extract_lets h n r run a p q s1 s2 s3
      have h1 : Calm s s1 := Calm.of_same rfl rfl rfl rfl rfl rfl
      have h2 : Calm s s2 := h1.trans (State.updatePullStrip_calm _ _ fun x => by cases v <;> rfl)
      exact (Calm.ite (h2.trans (State.raise_calm _ _ _)) h2).trans (State.send_calm s3 _ _)

theorem State.giveNoResults_calm (s : State) : Calm s s.giveNoResults := by
  unfold State.giveNoResults
  split
  · exact Calm.refl s
  · exact Calm.foldl _ (fun t k => Calm.ite (t.writePull_calm _ _ _ _) (Calm.refl t)) _ s

theorem State.strayPull_calm (s : State) : Calm s s.strayPull := Calm.of_same rfl rfl rfl rfl rfl rfl

theorem State.takeResult_kept (s : State) (strip unit wire force : Nat) (mode : Option PullMode) :
    Kept s (s.takeResult strip unit wire force mode) := by
  unfold State.takeResult
  split
  · split
    · split
      · exact s.strayPull_calm.kept
      · extract_lets f loop t
        have written : Calm s t := s.writePull_calm _ _ _ _
        exact Kept.ite (written.kept.trans t.endPull_kept) written.kept
    · exact s.strayPull_calm.kept
  · exact s.strayPull_calm.kept

theorem State.takePullAbort_kept (s : State) (strip : Nat) : Kept s (s.takePullAbort strip) := by
  unfold State.takePullAbort
  split
  · exact s.strayPull_calm.kept
  · exact Kept.ite (s.giveNoResults_calm.kept.trans (State.endPull_kept _)) s.strayPull_calm.kept

theorem State.startPull_kept (s : State) : Kept s s.startPull := by
  have opened (t : State) : Kept t t.openPull :=
    Kept.ite t.endPull_kept ((t.updatePullStrip_calm (fun x => { x with pullState := .waiting })
      fun _ => rfl).trans (State.pullWake_calm _)).kept
  unfold State.startPull
  split
  · exact Kept.refl s
  · next x _ =>
    have taken : Calm s (s.takePull x) := Calm.of_same rfl rfl rfl rfl rfl rfl
    exact Kept.ite ((s.happens_kept _ taken.kept).trans (State.happens_kept _ _ (opened _))) (Kept.refl s)

theorem State.queueOrder_calm (s : State) : Calm s s.queueOrder := by
  unfold State.queueOrder
  split
  · exact Calm.refl s
  · extract_lets l first s1 a s2
    have h2 : Calm s s2 := Calm.of_same rfl rfl rfl rfl rfl rfl
    exact Calm.ite (Calm.ite (h2.trans (s2.updatePullStrip_calm _ fun _ => rfl)) h2) (Calm.refl s)

/-! ## Heads: ports that are lost, and the choices of the operator -/

/-- R42: what the loss of its port makes of a head, before the state follows. -/
def HeadCtx.lost (c : HeadCtx) : HeadCtx :=
  { c with holds := { c.holds with link := true }, efo := .none, efoTimer := none, efoStart := none }

theorem HeadCtx.lost_calm (c : HeadCtx) : CalmHead c c.lost.followHolds :=
  (ReflTransGen.single (.efo c .none none none (by simp) (by simp))).tail (.held _ _)

theorem State.headPortLost_eq (s : State) (h : Head) : s.headPortLost h =
    if (s.head h).state.inFlight then (s.updateHead h HeadCtx.lost).closeBond h false false true
    else s.updateHead h fun c => c.lost.followHolds := by
  unfold State.headPortLost
  cases h <;> rfl

/-- R42: the loss of a head's port. -/
theorem State.headPortLost_kept (s : State) (h : Head) : Kept s (s.headPortLost h) := by
  rw [State.headPortLost_eq]
  split
  · next hf =>
    have flying : (s.head h).lost.followHolds = (s.head h).lost := HeadCtx.followHolds_of_flying _ hf
    have lost : Calm s (s.updateHead h HeadCtx.lost) :=
      s.setHead_calm h _ (flying ▸ (s.head h).lost_calm)
    exact lost.kept.trans (State.closeBond_kept _ h _ _ _)
  · exact (s.setHead_calm h _ (s.head h).lost_calm).kept

/-- R47, R29: REJECT-UNIT out of flight. -/
theorem State.rejectHeadUnit_kept (s : State) (h : Head) (hs : (s.head h).state.inFlight = false) :
    Kept s (s.rejectHeadUnit h) := by
  unfold State.rejectHeadUnit
  split
  · exact (s.retryHead_calm h).kept
  · next u hu =>
    extract_lets s1 s2 s3
    have moves : ∀ k, ReflTransGen HeadMove (s.head k, s.engine k) (s2.head k, s2.engine k) := by
      intro k
      rcases head_eq_or_other h k with rfl | rfl
      · have : s2.head k = { s.head k with claim := none } ∧ s2.engine k = s.engine k := by
          cases k <;> exact ⟨rfl, rfl⟩
        rw [this.1, this.2]
        exact .single (.claim _ _ none)
      · have : s2.head (otherHead h) = s.head (otherHead h) ∧
            s2.engine (otherHead h) = s.engine (otherHead h) := by cases h <;> exact ⟨rfl, rfl⟩
        rw [this.1, this.2]
    have claims : Claims s → Claims s2 := fun c => by
      have hb := (c.bond h).1
      rw [hs] at hb
      refine UnitTurn.claims (s := s) (h := h) (u := u) (g := fun r => { r with state := .reject })
        (c := { s.head h with claim := none }) ⟨by cases h <;> rfl,
          by cases h <;> rfl, by cases h <;> rfl, by cases h <;> rfl⟩ c ?_ ?_ ?_ ?_
          ⟨c.bond h |>.1, ?_⟩ ?_
      · intro x hx r hr
        obtain ⟨-, h2⟩ := c.stands h u hu
        have := (h2 x hx).2
        rw [Option.mem_def.mp hr] at this
        have own : r.state = .claimed h := by simpa using this
        refine ⟨?_, by simp, by simp⟩
        rw [own]
        exact fun h0 => otherHead_ne h (UnitState.claimed.inj h0).symm
      · intro v hv ne; rw [hu] at hv; exact absurd (Option.some.inj hv).symm ne
      · intro v hv; cases hv
      · intro h0; cases h0
      · intro b h0
        rw [Option.mem_def.mp h0] at hb; cases hb
      · intro _; rfl
    have freed : Kept s s3 := by
      refine Kept.trans ⟨moves, claims⟩ ?_
      simp only [s3]
      cases s2.track.bond with
      | none => exact Kept.refl s2
      | some x =>
        have released : Calm s2 (s2.releaseUnit x.id u) := Calm.of_same rfl rfl rfl rfl rfl rfl
        exact released.kept
    exact (freed.trans (s3.claimEnded_kept h)).trans (State.retryHead_calm _ h).kept

/-- R30, R50: TOUCHDOWN in ARMED. -/
theorem State.touch_kept (s : State) (h : Head) (z n : Nat) (hs : (s.head h).state = .armed) :
    Kept s ((s.updateHead h fun c => { c with state := .inBond }).updateEngine h fun e => e.openWindow z n) := by
  refine ⟨fun k => ?_, fun c => ClaimSame.claims ?_ c⟩
  · rcases head_eq_or_other h k with rfl | rfl
    · have : ((s.updateHead k fun c => { c with state := .inBond }).updateEngine k
          fun e => e.openWindow z n).head k = { s.head k with state := .inBond } := by cases k <;> rfl
      rw [this]
      simpa [State.updateHead] using ReflTransGen.single (.touched (s.head k) (s.engine k) z n hs)
    · cases h <;> exact .refl
  · refine ⟨fun k => ?_, fun k => ?_, fun k => ?_, fun _ _ => by cases h <;> rfl,
      by cases h <;> exact TrackCalm.refl _⟩ <;>
    rcases head_eq_or_other h k with rfl | rfl
    · cases k <;> rfl
    · cases h <;> rfl
    · cases k <;> rfl
    · cases h <;> rfl
    · rw [hs]; cases k <;> rfl
    · cases h <;> rfl

/-- An operation on one engine alone. -/
theorem State.updateEngine_kept (s : State) (h : Head) (f : Engine → Engine)
    (m : HeadMove (s.head h, s.engine h) (s.head h, f (s.engine h))) : Kept s (s.updateEngine h f) := by
  refine ⟨fun k => ?_, fun c => ClaimSame.claims ?_ c⟩
  · rcases head_eq_or_other h k with rfl | rfl
    · have : (s.updateEngine k f).head k = s.head k := by cases k <;> rfl
      rw [this, State.engine_updateEngine_self]
      exact .single m
    · cases h <;> exact .refl
  · exact ⟨fun k => by cases h <;> cases k <;> rfl, fun k => by cases h <;> cases k <;> rfl,
      fun k => by cases h <;> cases k <;> rfl, fun _ _ => by cases h <;> rfl,
      by cases h <;> exact TrackCalm.refl _⟩

end Sys2Proof.Machine
end

section
/-! SUPPORT. Every command keeps heads, engines and claims; the statements on the invariants of heads,
engines and claims. -/

namespace Sys2Proof.Machine

open Relation

/-! ## Track and magazines (chapter 5) -/

/-- An operation on the track that the claims do not read. -/
theorem Kept.idle_track (s : State) (u : Track) (h : TrackCalm s.track u) : Kept s { s with track := u } :=
  (Calm.of_track s u h).kept

/-- R97, R98: PENDING units that become REJECT were no claim. -/
theorem State.rejectPending_kept (s : State) (f : Nat → Bool) : Kept s (s.rejectPending f) := by
  unfold State.rejectPending
  split
  · exact Kept.refl s
  · next x hx =>
    extract_lets hit gone
    refine Kept.trans ?_ (Calm.of_frame (State.releasePins_frame _ _) (by simp)).kept
    refine Kept.of_track s _ fun c => ?_
    have get (v : Nat) : (x.units.zipIdx.map fun y : UnitRecord × Nat =>
        if hit y then { y.1 with state := .reject } else y.1)[v]? = (x.units[v]?).map fun r =>
          if hit (r, v) then { r with state := .reject } else r := by
      rw [List.getElem?_map, List.getElem?_zipIdx]
      cases x.units[v]? <;> simp
    have free {r : UnitRecord} {v : Nat} {h : Head} (hr : r.state = .claimed h) : hit (r, v) = false := by
      simp [hit, hr]
    refine ⟨fun h u hu => ⟨rfl, fun y hy => ?_⟩, fun h y hy z hz hs => ?_, c.entry, c.pull, c.exit, c.bond,
      c.flight⟩
    · cases hy
      obtain ⟨-, h2⟩ := c.stands h u hu
      obtain ⟨hw, hr⟩ := h2 x hx
      obtain ⟨r, hr, hs⟩ := Option.map_eq_some_iff.mp hr
      refine ⟨?_, by rw [get, hr]; simp [free hs, hs]⟩
      have len : (x.units.zipIdx.map fun y : UnitRecord × Nat =>
        if hit y then { y.1 with state := .reject } else y.1).length = x.units.length := by simp
      unfold Tables.inWindow at hw ⊢
      rw [len]
      exact hw
    · cases hy
      obtain ⟨r, v⟩ := z
      have hget := (zipIdx_mem _ _ _).mp hz
      rw [get] at hget
      obtain ⟨q, hq, rfl⟩ := Option.map_eq_some_iff.mp hget
      refine c.units h x hx (q, v) ((zipIdx_mem _ _ _).mpr hq) ?_
      simp only at hs
      split at hs
      · cases hs
      · exact hs

theorem State.stepChecks_kept (s : State) (skip : Bool) : Kept s (s.stepChecks skip) := by
  unfold State.stepChecks
  split
  · exact (s.send_calm _ _).kept
  · exact Kept.ite (s.send_calm _ _).kept (Kept.ite (s.send_calm _ _).kept
      ((s.rejectPending_kept _).trans (State.gateIndex_kept _ _)))

theorem State.transferChecks_kept (s : State) (skip : Bool) : Kept s (s.transferChecks skip) :=
  Kept.ite (s.send_calm _ _).kept ((s.rejectPending_kept _).trans (State.gateIndex_kept _ _))

/-- R109: a jam ends the request in flight. -/
theorem State.jam_kept (s : State) : Kept s s.jam := by
  have ended : Calm s { s with track := { s.track with inFlight := none, doneTimer := none, known := false } } :=
    Calm.of_track s _ ⟨rfl, rfl, rfl, rfl, fun h => by cases h⟩
  exact (((ended.trans (State.refuseHeld_calm _ _)).trans (State.raise_calm _ _ _)).trans
    (State.raise_calm _ _ _)).kept

/-- R28, R99: with a request in flight no claim is made. -/
theorem Claims.none_in_flight {s : State} (c : Claims s) {q : FlightRequest} (h : s.track.inFlight = some q)
    (k : Head) : (s.head k).claim = none := c.flight (by rw [h]; rfl) k

/-- R105: the window column moves with no claim made. -/
theorem State.stepDone_kept (s : State) (q : FlightRequest) (h : s.track.inFlight = some q) :
    Kept s s.stepDone := by
  have moved : Shifts True s s.stepDone := Shifts.of_track s _ fun _ v =>
    ⟨v.entry, v.bond.map (fun x => { x with window := x.window + 1 }) fun _ => rfl, v.pull, v.exit⟩
  exact moved.kept fun c => c.none_in_flight h

section
variable {p : Prop}

theorem State.deliver_shifts (s : State) (r : Nat) : Shifts p s (s.deliver r) := by
  unfold State.deliver
  split
  · exact Shifts.refl s
  · extract_lets m a s1 s2 b s3
    have h1 : Calm s s1 := Calm.of_track s _ ⟨rfl, rfl, rfl, rfl, id⟩
    have h2 : Calm s s2 := Calm.ite (h1.trans (State.raise_calm _ _ _)) h1
    have h3 : Shifts p s2 s3 := Shifts.of_track s2 _ fun _ v => ⟨v.entry, v.bond, v.pull, NoClaim.of_none⟩
    exact (h2.shifts.trans h3).trans (State.send_calm _ _ _).shifts

/-- R107 steps 2 to 4: a strip without claims moves on. -/
theorem State.moveStrips_shifts (s : State) : Shifts p s s.moveStrips := by
  have exits (t : State) : Shifts p t t.pullToExit := by
    unfold State.pullToExit
    extract_lets x a u
    have h : Shifts p t u := Shifts.of_track t _ fun _ v => ⟨v.entry, v.bond, NoClaim.of_none, v.pull⟩
    cases x with
    | none => exact h
    | some y => exact h.trans (Calm.of_frame (u.releasePins_frame _) (by simp)).shifts
  have pulls (t : State) : Shifts p t t.bondToPull :=
    Shifts.of_track t _ fun _ v => ⟨v.entry, NoClaim.of_none, v.bond, v.exit⟩
  have bonds (t : State) : Shifts p t t.entryToBond :=
    Shifts.of_track t _ fun _ v => ⟨NoClaim.of_none, v.entry.map (fun x => { x with window := 0 })
      fun _ => rfl, v.pull, v.exit⟩
  exact ((exits s).happens.trans (pulls _).happens).trans (bonds _).happens

theorem State.takeStrip_shifts (s : State) (k : Nat) : Shifts p s (s.takeStrip k) :=
  Shifts.of_track s _ fun _ v => ⟨s.tables.newStrip_noClaim _ _ _ _, v.bond, v.pull, v.exit⟩

theorem State.drawStrip_shifts (s : State) (q : FlightRequest) (i : Option Nat) :
    Shifts p s (s.drawStrip q i) := by
  unfold State.drawStrip
  split
  · exact Shifts.refl s
  · split
    · exact Shifts.refl s
    · next k _ =>
      extract_lets m a t u
      have calm : Calm s t := Calm.of_track s _ ⟨rfl, rfl, rfl, rfl, id⟩
      have passed : Shifts p s t := calm.shifts
      have drawn : Shifts p s u := by
        simp only [u]
        split
        · exact passed
        · exact passed.trans (t.takeStrip_shifts k)
      split
      · exact drawn.trans (State.raise_calm _ _ _).shifts
      · exact drawn

end

theorem State.transferDone_kept (s : State) (c : Instr) (q : FlightRequest) (i o : Option Nat)
    (h : s.track.inFlight = some q) : Kept s (s.transferDone c q i o) := by
  unfold State.transferDone
  extract_lets a s1 s2
  have calm : Calm s s1 := Calm.of_track s _ ⟨rfl, rfl, rfl, rfl, fun h => by cases h⟩
  have ended : Shifts True s s1 := calm.shifts
  have delivered : Shifts True s s2 := by
    refine ended.trans ?_
    cases o with
    | none => exact Shifts.refl s1
    | some r => exact Shifts.happens (body := fun s => s.deliver r) (s1.deliver_shifts r)
  have drawn := (delivered.trans s2.moveStrips_shifts).trans
    (Shifts.happens (body := fun s => s.drawStrip q i) (s2.moveStrips.drawStrip_shifts q i))
  exact ((drawn.trans (State.forward_calm _ c).shifts).kept fun k => k.none_in_flight h).trans
    (State.startPull_kept _)

theorem Track.setMagIn_calm (t : Track) (m : MagIn) : TrackCalm t (t.setMagIn m) :=
  ⟨rfl, rfl, rfl, rfl, by simp [Track.setMagIn]⟩

theorem Track.setMagOut_calm (t : Track) (m : MagOut) : TrackCalm t (t.setMagOut m) :=
  ⟨rfl, rfl, rfl, rfl, by simp [Track.setMagOut]⟩

theorem State.magOutGone_kept (s : State) : Kept s s.magOutGone :=
  (Kept.idle_track s _ (s.track.setMagOut_calm _)).trans (State.releaseGate_kept _)

/-! ## TRACK-SET (R112) -/

/-- R112 step 1: every claim ends, with no head in flight. -/
theorem State.endClaims_moves (s : State) (h : Head) : ReflTransGen HeadMove (s.head h, s.engine h)
    (s.endClaims.head h, s.endClaims.engine h) := by
  have told (c : HeadCtx) (e : Engine) : ReflTransGen HeadMove (c, e)
      (if c.claim.isSome then
        if c.pause = some .afterUnit then ({ c with claim := none } : HeadCtx).addOperator
        else { c with claim := none }
      else c, e) := by
    split
    · have dropped : ReflTransGen HeadMove (c, e) ({ c with claim := none }, e) := .single (.claim c e none)
      split
      · exact dropped.tail (.calm _ _ e (.held _ _))
      · exact dropped
    · exact .refl
  cases h
  · exact told s.headA s.engineA
  · exact told s.headB s.engineB

theorem State.endClaims_vacant (s : State) (c : Claims s) (hs : ∀ k, (s.head k).state.inFlight = false) :
    Vacant s.endClaims := by
  have told (c : HeadCtx) (hb : c.state.inFlight = c.bond.isSome) (hf : c.state.inFlight = false) :
      let d := if c.claim.isSome then
          if c.pause = some .afterUnit then ({ c with claim := none } : HeadCtx).addOperator
          else { c with claim := none }
        else c
      d.claim = none ∧ BondOnClaim d := by
    have none {d : HeadCtx} (h1 : d.state.inFlight = c.state.inFlight) (h2 : d.bond = c.bond) :
        BondOnClaim d := by
      refine ⟨by rw [h1, h2]; exact hb, fun b h0 => ?_⟩
      rw [h2] at h0
      rw [hf, Option.mem_def.mp h0] at hb; cases hb
    dsimp only
    split
    · split
      · exact ⟨by simp [HeadCtx.addOperator], none (by simp [HeadCtx.addOperator])
          (by simp [HeadCtx.addOperator])⟩
      · exact ⟨rfl, none rfl rfl⟩
    · next h0 => exact ⟨by simpa using h0, none rfl rfl⟩
  have both (k : Head) := told (s.head k) (c.bond k).1 (hs k)
  refine ⟨fun k => ?_, fun k => ?_, c.entry, ?_, c.pull, c.exit⟩
  · cases k
    · exact (both .a).1
    · exact (both .b).1
  · cases k
    · exact (both .a).2
    · exact (both .b).2
  · intro y hy r hr
    obtain ⟨x, -, rfl⟩ := Option.map_eq_some_iff.mp
      (show (s.track.bond.map fun x => { x with units := x.units.map fun r =>
        if r.state.isClaim then { r with state := .pending } else r }) = some y from hy)
    simp only [List.mem_map] at hr
    obtain ⟨q, -, rfl⟩ := hr
    split
    · rfl
    · next h0 => simpa using h0

theorem State.dropStrip_calm (s : State) (x : Strip) : Calm s (s.dropStrip x) := by
  unfold State.dropStrip
  extract_lets s1 s2
  have h1 : Calm s s1 := Calm.of_same rfl rfl rfl rfl rfl rfl
  have h2 : Calm s s2 := Calm.ite (h1.trans (Calm.of_same rfl rfl rfl rfl rfl rfl)) h1
  exact h2.trans (Calm.of_track s2 _ ⟨rfl, rfl, rfl, rfl, id⟩)

/-- The strips of a list of moves have no claimed unit. -/
def FreeMoves (l : List StripMove) : Prop := ∀ m ∈ l, NoClaim (some m.strip)

theorem State.dropOthers_shifts (s : State) (ids : List Nat) (l : List StripMove) :
    Shifts (FreeMoves l) s (s.dropOthers ids l) := by
  have kept (hl : FreeMoves l) (k : Nat) :
      NoClaim ((l.find? fun m => m.was == k).map fun m => m.strip) := by
    intro x hx
    obtain ⟨m, hm, rfl⟩ := Option.map_eq_some_iff.mp (show _ = some x from hx)
    exact hl m (List.mem_of_find?_eq_some hm) _ rfl
  unfold State.dropOthers
  extract_lets gone keep t
  have dropped : Calm s t := Calm.foldl (fun (s : State) (y : Strip × Nat) => s.dropStrip y.1)
    (fun t y => t.dropStrip_calm y.1) gone s
  exact dropped.shifts.trans (Shifts.of_track t _ fun hl _ => ⟨kept hl 0, kept hl 1, kept hl 2, kept hl 3⟩)

theorem Track.setPosition_noClaim {t : Track} (k : Nat) (x : Option Strip) (hx : NoClaim x)
    (h : NoClaim t.entry ∧ NoClaim t.bond ∧ NoClaim t.pull ∧ NoClaim t.exit) :
    NoClaim (t.setPosition k x).entry ∧ NoClaim (t.setPosition k x).bond ∧
      NoClaim (t.setPosition k x).pull ∧ NoClaim (t.setPosition k x).exit := by
  obtain ⟨he, hb, hp, hx'⟩ := h
  rw [Track.setPosition_eq]
  exact ⟨by dsimp only; split <;> assumption, by dsimp only; split <;> assumption,
    by dsimp only; split <;> assumption, by dsimp only; split <;> assumption⟩

theorem State.moveExisting_shifts (s : State) (m : StripMove) :
    Shifts (NoClaim (some m.strip)) s (s.moveExisting m) := by
  unfold State.moveExisting
  split
  · exact Shifts.refl s
  · extract_lets s1 s2 y x
    have h1 : Calm s s1 := Calm.ite (Calm.of_frame s.discardPull_frame (by simp)) (Calm.refl s)
    have h2 : Calm s s2 := Calm.ite (h1.trans (Calm.of_frame (s1.releasePins_frame _) (by simp))) h1
    refine h2.shifts.trans (Shifts.of_track s2 _ fun hm v => ?_)
    have hx : NoClaim (some x) := by
      have : x.units = m.strip.units := by simp only [x]; split <;> rfl
      rw [noClaim_iff] at hm ⊢
      simpa [this] using hm
    exact Track.setPosition_noClaim m.now _ hx
      (Track.setPosition_noClaim m.was none NoClaim.of_none ⟨v.entry, v.bond, v.pull, v.exit⟩)

theorem State.introduce_shifts {p : Prop} (s : State) (y : PosSpec × Nat) : Shifts p s (s.introduce y) := by
  unfold State.introduce
  split
  · next i d f _ =>
    exact Shifts.of_track s _ fun _ v => Track.setPosition_noClaim y.2 _
      (s.tables.newStrip_noClaim i d f false) ⟨v.entry, v.bond, v.pull, v.exit⟩
  · exact Shifts.refl s
  · exact Shifts.refl s

theorem State.setWindow_shifts {p : Prop} (s : State) (w : Option Nat) : Shifts p s (s.setWindow w) :=
  Shifts.of_track s _ fun _ v => ⟨v.entry, v.bond.map (fun x => { x with window := w.getD x.window })
    fun _ => rfl, v.pull, v.exit⟩

theorem State.trackKnown_calm (s : State) : Calm s s.trackKnown :=
  (Calm.of_track s { s.track with known := true } ⟨rfl, rfl, rfl, rfl, id⟩).trans
    (State.conditionsGone_calm _ _)

/-- Strips found on a track without claims have none. -/
theorem Track.find_noClaim {t : Track} {i : Nat} {y : Strip × Nat} (h : t.find i = some y)
    (hc : NoClaim t.entry ∧ NoClaim t.bond ∧ NoClaim t.pull ∧ NoClaim t.exit) : NoClaim (some y.1) := by
  obtain ⟨he, hb, hp, hx⟩ := hc
  have hm := List.mem_of_find?_eq_some h
  simp only [Track.placed, List.mem_filterMap] at hm
  obtain ⟨⟨x, k⟩, hx', hy⟩ := hm
  obtain ⟨z, hz, rfl⟩ := Option.map_eq_some_iff.mp hy
  simp only at hz
  have hz' := (zipIdx_mem _ _ _).mp hx'
  have : x ∈ t.positions := List.mem_of_getElem? hz'
  simp only [Track.positions, List.mem_cons, List.not_mem_nil, or_false] at this
  rcases this with h0 | h0 | h0 | h0 <;> rw [h0] at hz
  · exact hz ▸ he
  · exact hz ▸ hb
  · exact hz ▸ hp
  · exact hz ▸ hx

theorem State.acceptTrackSet_kept (s : State) (tag : Byte) (specs : List PosSpec) (window : Option Nat)
    (hs : ∀ k, (s.head k).state.inFlight = false) : Kept s (s.acceptTrackSet tag specs window) := by
  unfold State.acceptTrackSet
  extract_lets s1 moves s2 s3 s4 s5
  have start : ∀ h, ReflTransGen HeadMove (s.head h, s.engine h) (s1.head h, s1.engine h) := fun h =>
    (s.endClaims_moves h).trans ((State.markChanges_calm _ s).moves h)
  have vacant (c : Claims s) : Vacant s1 :=
    (State.markChanges_calm s.endClaims s).shifts.vacant trivial (s.endClaims_vacant c hs)
  have free (v : Vacant s1) : FreeMoves moves := by
    intro m hm
    simp only [moves, List.mem_filterMap] at hm
    obtain ⟨⟨p, k⟩, -, hp⟩ := hm
    cases p with
    | existing i =>
      obtain ⟨z, hz, rfl⟩ := Option.map_eq_some_iff.mp hp
      exact Track.find_noClaim hz ⟨v.entry, v.bond, v.pull, v.exit⟩
    | empty => cases hp
    | new => cases hp
  have shifted : Shifts (FreeMoves moves) s1 s5 := by
    have h2 : Shifts (FreeMoves moves) s1 s2 := (s1.dropOthers_shifts _ moves).happens
    have h3 : Shifts (FreeMoves moves) s2 s3 := Shifts.foldl _ _ (fun m hm t =>
      ((t.moveExisting_shifts m).mono fun hf => hf m (by simpa using hm)).happens) s2
    have h4 : Shifts (FreeMoves moves) s3 s4 :=
      Shifts.foldl _ _ (fun y _ t => (t.introduce_shifts y).happens) s3
    have h5 : Calm (s4.setWindow window) s5 := ((s4.setWindow window).trackKnown_calm.trans
      (State.markChanges_calm _ _)).trans (Calm.of_frame (State.reply_frame _ 7 tag .accepted) (by simp))
    exact ((h2.trans h3).trans h4).trans ((s4.setWindow_shifts window).trans h5.shifts)
  have done : Kept s s5 := ⟨fun h => (start h).trans (shifted.heads h),
    fun c => (shifted.vacant (free (vacant c)) (vacant c)).claims⟩
  exact Kept.ite (done.trans (State.startPull_kept _)) done

end Sys2Proof.Machine
end

section
/-! SUPPORT. Every command keeps heads, engines and claims; the statements on the invariants of heads,
engines and claims. -/

namespace Sys2Proof.Machine

open Relation

/-! ## The bond link and the resets -/

theorem State.poisonCopies_calm (s : State) : Calm s s.poisonCopies :=
  Calm.of_frame s.poisonCopies_frame (by simp)

theorem State.enterDown_kept (s : State) (x : Port) (joined : Bool) : Kept s (s.enterDown x joined) := by
  unfold State.enterDown
  split
  · exact Kept.refl s
  · extract_lets t
    have down : Calm s t := s.updatePort_calm x _
    cases x with
    | u => exact (down.trans t.poisonCopies_calm).kept
    | ha => exact down.kept.trans (t.headPortLost_kept .a)
    | hb => exact down.kept.trans (t.headPortLost_kept .b)
    | ix => exact (down.trans (t.refuseHeld_calm _)).kept
    | pt => exact down.kept
    | ot =>
      have left : Calm t { t with term := { t.term with screenQueued := 0 } } :=
        Calm.of_same rfl rfl rfl rfl rfl rfl
      exact (down.trans left).kept

theorem State.hold_kept (s : State) : Kept s s.hold := by
  have each (l : List Port) (t : State) :
      Kept t (l.foldl (fun (s : State) x => s.enterDown x false) t) := by
    induction l generalizing t with
    | nil => exact Kept.refl t
    | cons x l ih => exact (t.enterDown_kept x false).trans (ih _)
  exact each allPorts s

theorem State.toldQuiet_calm (s : State) (x : Port) : Calm s (s.toldQuiet x) :=
  Calm.of_frame (s.toldQuiet_frame x) (by simp)

theorem State.leaveDown_calm (s : State) (x : Port) : Calm s (s.leaveDown x) := by
  unfold State.leaveDown
  extract_lets t a u
  have woken : Calm s t := s.updatePort_calm x _
  have told : Calm s u := Calm.ite (woken.trans (Calm.of_same rfl rfl rfl rfl rfl rfl)) woken
  exact told.trans (u.toldQuiet_calm x)

theorem State.tryLeaveDown_calm (s : State) (x : Port) : Calm s (s.tryLeaveDown x) :=
  Calm.ite (s.leaveDown_calm x) (Calm.refl s)

theorem State.enterLive_calm (s : State) (x : Port) : Calm s (s.enterLive x) := by
  unfold State.enterLive
  extract_lets t u v
  have woken : Calm s t := s.updatePort_calm x _
  have started : Calm s u := Calm.ite (woken.trans (Calm.of_frame t.startedOnce_frame (by simp))) woken
  have begun : Calm s v := started.trans (u.updatePort_calm x _)
  cases x with
  | ha => exact begun.trans (v.headPortLive_calm .a)
  | hb => exact begun.trans (v.headPortLive_calm .b)
  | _ => exact begun

theorem State.wakeFailed_calm (s : State) (x : Port) (o : WakeOrigin) : Calm s (s.wakeFailed x o) :=
  Calm.of_frame (s.wakeFailed_frame x o) (by simp)

theorem State.judgeTraining_calm (s : State) (x : Port) (o : WakeOrigin) (l : List W32) :
    Calm s (s.judgeTraining x o l) := Calm.ite (s.enterLive_calm x) (s.wakeFailed_calm x o)

theorem State.countError_calm (s : State) (x : Port) (f : Counters → Counters) : Calm s (s.countError x f) := by
  unfold State.countError
  extract_lets t
  have counted : Calm s t := s.updatePort_calm x _
  exact Calm.ite (counted.trans (t.raise_calm _ _)) counted

theorem State.failFrame_calm (s : State) (x : Port) (f : Counters → Counters) : Calm s (s.failFrame x f) :=
  (Calm.of_frame (s.abandonFrame_frame x) (by simp)).trans (State.countError_calm _ x f)

theorem State.cutOff_calm (s : State) (x : Port) : Calm s (s.cutOff x) := by
  unfold State.cutOff
  split
  · exact Calm.refl s
  · exact Calm.ite (Calm.refl s) ((s.failFrame_calm x _).trans (State.updatePort_calm _ x _))

theorem State.receiveHeader_calm (s : State) (x : Port) (h : Header) : Calm s (s.receiveHeader x h) := by
  unfold State.receiveHeader
  split
  · exact Calm.refl s
  · extract_lets t route u v
    have start : Calm s t := (s.cutOff_calm x).trans (State.updatePort_calm _ x _)
    have stored : Calm s u := start.trans (t.updatePort_calm x _)
    have routed : Calm s v := Calm.ite (stored.trans (u.updatePort_calm x _)) stored
    exact Calm.ite ((start.trans (t.updatePort_calm x _)).trans (State.countError_calm _ x _))
      (Calm.ite (start.trans (t.updatePort_calm x _))
        (routed.trans (Calm.foldl (fun (s : State) (y : Port) => s.send y (.arriving h))
          (fun t y => t.send_calm y _) _ v)))

theorem State.supervise_calm (s : State) : Calm s s.supervise := by
  have started (m : Mgmt) : Calm s { s with mgmt := m } := Calm.of_same rfl rfl rfl rfl rfl rfl
  exact (started _).trans (State.conditionGone_calm _ _ _)

theorem State.goodFrame_calm (s : State) (x : Port) (r : Receiving) (l : List Byte) :
    Calm s (s.goodFrame x r l) := by
  unfold State.goodFrame
  extract_lets t u
  have ended : Calm s t := s.updatePort_calm x _
  have supervised : Calm s u := Calm.ite (ended.trans t.supervise_calm) ended
  cases r.fate with
  | stored => exact supervised.trans (u.updatePort_calm x _)
  | passing =>
    exact (supervised.trans (u.updatePort_calm x _)).trans
      (Calm.of_frame (State.completeCopies_frame _ l) (by simp))
  | dropped => exact supervised
  | overrun => exact supervised
  | passedOver => exact supervised

theorem State.receiveEnd_calm (s : State) (x : Port) (tail : List Bool) : Calm s (s.receiveEnd x tail) := by
  unfold State.receiveEnd
  split
  · exact Calm.refl s
  · refine Calm.trans ?_ (State.updatePort_calm _ x _)
    split
    · exact s.countError_calm x _
    · next r _ =>
      refine Calm.ite (s.updatePort_calm x _) ?_
      cases judgeTail r.hdr tail with
      | good l => exact s.goodFrame_calm x r l
      | overlong => exact s.failFrame_calm x _
      | framing => exact s.failFrame_calm x _
      | crc => exact s.failFrame_calm x _

theorem State.frameSent_calm (s : State) (x : Port) : Calm s (s.frameSent x) := by
  unfold State.frameSent
  extract_lets screen t
  have sent : Calm s t := s.updatePort_calm x _
  exact Calm.ite (sent.trans (Calm.of_same rfl rfl rfl rfl rfl rfl)) sent

theorem State.judgeSupply_calm (s : State) : Calm s s.judgeSupply := by
  have set (t : State) (b : Bool) : Calm t (t.setSupplyLow b) := Calm.of_same rfl rfl rfl rfl rfl rfl
  exact Calm.ite (Calm.ite (Calm.refl s) ((set s true).trans (State.raise_calm _ _ _)))
    (Calm.ite (Calm.ite ((set s false).trans (State.conditionGone_calm _ _ _)) (Calm.refl s)) (Calm.refl s))

/-- R182: a reset. -/
theorem State.takeReset_kept (s : State) (x : Straps) (cause : ResetCause) (keep : Bool) :
    Kept s (s.takeReset x cause keep) := by
  unfold State.takeReset
  extract_lets r t a u
  have reset : Kept s r := by
    refine ⟨fun h => by cases h <;> exact .single (.reset _ _), fun _ => ?_⟩
    have empty : r.track.entry = none ∧ r.track.bond = none ∧ r.track.pull = none ∧ r.track.exit = none := by
      cases keep <;> exact ⟨rfl, rfl, rfl, rfl⟩
    obtain ⟨he, hb, hp, hx⟩ := empty
    exact Claims.of_none (fun k => by cases k <;> rfl)
      (fun k => by cases k <;> exact (by decide : BondOnClaim HeadCtx.initial))
      (he ▸ NoClaim.of_none) (hb ▸ NoClaim.of_none) (hp ▸ NoClaim.of_none) (hx ▸ NoClaim.of_none)
  have judged : Calm r t := (r.raise_calm _ _).trans (State.judgeSupply_calm _)
  have unmarked : Calm t u := Calm.of_same rfl rfl rfl rfl rfl rfl
  exact reset.trans ((judged.trans unmarked).trans (u.tryLeaveDown_calm .u)).kept

/-- Another value of the management unit alone. -/
theorem Calm.of_mgmt (s : State) (m : Mgmt) : Calm s { s with mgmt := m } :=
  Calm.of_same rfl rfl rfl rfl rfl rfl

/-- Another value of the terminal server alone. -/
theorem Calm.of_term (s : State) (m : Terminal) : Calm s { s with term := m } :=
  Calm.of_same rfl rfl rfl rfl rfl rfl

/-- Another value of the pull controller alone. -/
theorem Calm.of_puller (s : State) (p : Puller) : Calm s { s with puller := p } :=
  Calm.of_same rfl rfl rfl rfl rfl rfl

/-- Another value of the record store alone. -/
theorem Calm.of_store (s : State) (y : Store) : Calm s { s with store := y } :=
  Calm.of_same rfl rfl rfl rfl rfl rfl

/-! ## Management requests -/

theorem State.tableRead_kept (s : State) (c : Instr) (tag code index : Byte)
    (contents : State → Except Reason ReadContents) : Kept s (s.tableRead c tag code index contents) := by
  refine s.taken_kept .u c _ fun u => ?_
  split
  · exact (u.send_calm _ _).kept
  · exact (u.send_calm _ _).kept

/-- A write that leaves the rows of the device type of the strip at BOND. -/
theorem State.tableWrite_kept {α : Type} (s : State) (range used : Bool) (w : WriteOp α)
    (store : WriteOp α → Except Reason (Tables × Bool))
    (h : used = false → ∀ t c, store w = .ok (t, c) → ∀ x ∈ s.track.bond, t.rowsOf x = s.tables.rowsOf x) :
    Kept s (s.tableWrite range used w store).1 := by
  unfold State.tableWrite
  split
  · exact Kept.refl s
  · split
    · exact Kept.refl s
    · next hu =>
      split
      · exact Kept.refl s
      · next t c hs => exact (Calm.of_tables s t (h (by simpa using hu) t c hs)).kept

theorem Tables.rowsOf_of_devices {t u : Tables} (h : u.devices = t.devices) (x : Strip) :
    u.rowsOf x = t.rowsOf x := by simp [Tables.rowsOf, Tables.device, h]

/-- A write that leaves the device types. -/
theorem State.tableWrite_kept_of_devices {α : Type} (s : State) (range used : Bool) (w : WriteOp α)
    (store : WriteOp α → Except Reason (Tables × Bool))
    (h : ∀ t c, store w = .ok (t, c) → t.devices = s.tables.devices) :
    Kept s (s.tableWrite range used w store).1 :=
  s.tableWrite_kept range used w store fun _ t c ht x _ => Tables.rowsOf_of_devices (h t c ht) x

theorem writeProgram_devices {T t : Tables} {n : Nat} {w : WriteOp ProgramBody} {c : Bool}
    (h : writeProgram T n w = .ok (t, c)) : t.devices = T.devices := by
  unfold writeProgram at h
  split at h
  · cases h; rfl
  · split at h
    · cases h
    · dsimp only at h
      split at h
      · cases h; rfl
      · cases h

theorem writeMapLength_devices {T t : Tables} {n : Nat} {w : WriteOp W16} {c : Bool}
    (h : writeMapLength T n w = .ok (t, c)) : t.devices = T.devices := by
  unfold writeMapLength at h
  split at h <;> cases h <;> rfl

theorem writeMapEntries_devices {T t : Tables} {n : Nat} {w : WriteOp (Byte × Byte × List SlotBody)} {c : Bool}
    (h : writeMapEntries T n w = .ok (t, c)) : t.devices = T.devices := by
  unfold writeMapEntries at h
  split at h
  · cases h
  · dsimp only at h
    split at h
    · cases h
    · cases h; rfl

theorem writePlan_devices {T t : Tables} {n : Nat} {w : WriteOp PlanBody} {c : Bool}
    (h : writePlan T n w = .ok (t, c)) : t.devices = T.devices := by
  unfold writePlan at h
  split at h <;> cases h <;> rfl

theorem writeLimits_devices {T t : Tables} {n : Nat} {w : WriteOp LimitsBody} {c : Bool}
    (h : writeLimits T n w = .ok (t, c)) : t.devices = T.devices := by
  unfold writeLimits at h
  split at h
  · cases h; rfl
  · dsimp only at h
    split at h
    · cases h
    · cases h; rfl

theorem writeAction_devices {T t : Tables} {k : AlarmClass} {w : WriteOp ActionBody} {c : Bool}
    (h : writeAction T k w = .ok (t, c)) : t.devices = T.devices := by
  unfold writeAction at h
  split at h
  · cases h; rfl
  · split at h <;> cases h
    rfl

theorem writeNode_devices {T t : Tables} {n : Nat} {w : WriteOp NodeBody} {c : Bool}
    (h : writeNode T n w = .ok (t, c)) : t.devices = T.devices := by
  unfold writeNode at h
  split at h
  · cases h; rfl
  · split at h <;> cases h
    rfl

/-- R9, R10: a device-type write leaves the other device types. -/
theorem writeDevice_device {T t : Tables} {n : Nat} {w : WriteOp DeviceBody} {c : Bool}
    (h : writeDevice T n w = .ok (t, c)) (m : Nat) (hm : m ≠ n) : t.device m = T.device m := by
  have set (d : Option DeviceType) : (T.setDevice n d).device m = T.device m := by
    simp [Tables.setDevice, Tables.device, hm.symm]
  unfold writeDevice at h
  split at h
  · cases h; exact set _
  · split at h
    · cases h
    · cases h; exact set _

theorem execTableWriteDeviceType_kept (tag index : Byte) (w : WriteOp DeviceBody) (s : State) :
    Kept s (s.request (.tableWriteDeviceType tag index w) 0 tag fun s =>
      s.tableWrite (index.toNat < 8) (deviceOnTrack s index.toNat || inputErased s index.toNat w) w
        (writeDevice s.tables index.toNat)) := by
  refine s.request_kept _ 0 tag _ fun u => u.tableWrite_kept _ _ w _ fun hu t c ht x hx => ?_
  have used : deviceOnTrack u index.toNat = false := (Bool.or_eq_false_iff.mp hu).1
  have free : x.device ≠ index.toNat := by
    intro h0
    have hm : x ∈ u.track.strips := by simp [Track.strips, Option.mem_def.mp hx]
    simp only [deviceOnTrack, List.any_eq_false] at used
    exact used x hm (by simp [h0])
  simp only [Tables.rowsOf, writeDevice_device ht _ free]

theorem State.setStop_calm (s : State) (k : Nat) (set : Bool) : Calm s (s.setStop k set).1 := by
  have stop (m : MagIn) : Calm s { s with track := { s.track with magIn := m } } :=
    Calm.of_track s _ ⟨rfl, rfl, rfl, rfl, id⟩
  unfold State.setStop
  extract_lets m
  split
  · exact Calm.refl s
  · split
    · exact Calm.refl s
    · split
      · split
        · exact (stop _).trans (State.raise_calm _ _ _)
        · exact stop _
      · exact Calm.refl s
      · exact Calm.refl s
      · split
        · exact stop _
        · exact Calm.refl s
      · exact Calm.refl s
      · exact Calm.refl s

theorem State.keyAcknowledge_calm (s : State) : Calm s s.keyAcknowledge.1 := by
  unfold State.keyAcknowledge
  split
  · exact s.acknowledge_calm _
  · exact Calm.refl s

theorem State.startFetch_calm (s : State) (tag : Byte) (ok : Bool) (count : Byte) (f : Fetch) :
    Calm s (s.startFetch tag ok count f) :=
  Calm.ite (s.send_calm _ _) (Calm.ite (s.send_calm _ _) (Calm.of_store s _))

theorem State.queueReply_kept (s : State) (f : Fetch) : Kept s (s.queueReply f) := by
  have told (m : Msg) (y : Store) : Calm s { s.send .u m with store := y } :=
    Calm.of_same rfl rfl rfl rfl rfl rfl
  unfold State.queueReply
  cases f with
  | bond tag next remaining => exact (told _ _).kept
  | pull tag next remaining => exact (told _ _).kept
  | trace tag h record next frames =>
    exact Kept.ite ((told _ _).kept.trans (State.updateEngine_kept _ h _ (.released _ _))) (told _ _).kept

theorem State.standDown_kept (s : State) (x : Port) : Kept s (s.standDown x).1 :=
  (s.updatePort_calm x _).kept.trans (State.enterDown_kept _ x true)

end Sys2Proof.Machine
end

section
/-! SUPPORT. Every command keeps heads, engines and claims; the statements on the invariants of heads,
engines and claims. -/

namespace Sys2Proof.Machine

open Relation

/-! ## The commands that do more than a shared operation -/

theorem execBondStart_kept (head : Byte) (strip : W16) (unit wire kind : Byte) (s : State) :
    Kept s (s.taken .u (.bondStart head strip unit wire kind) fun s =>
      match bondStartReason s (headOf head) strip.toNat unit.toNat wire.toNat (bondKindOf kind) with
      | some r => s.send .u (.bondRefused head strip unit wire r)
      | none =>
        match headOf head, s.track.bond, bondKindOf kind with
        | some h, some x, some k =>
          match s.tables.wireProgram x wire.toNat k with
          | some p => s.acceptBond h x unit.toNat wire.toNat k p
          | none => s
        | _, _, _ => s) := by
  refine s.taken_kept .u _ _ fun u => ?_
  split
  · exact (u.send_calm _ _).kept
  · next hr =>
    obtain ⟨h, k, x, r, p, hh, hk, hp, m⟩ := bondStartReason_none hr
    simp only [hh, hk, m.bond, hp]
    exact u.acceptBond_kept h x r unit.toNat wire.toNat k p m

theorem State.closeThenAlarm_kept (s : State) (h : Head) :
    Kept s (((s.closeBond h false false false).raise .headFault (.head h)).updateHead h fun c =>
      { c with pause := some .now }.addOperator) := by
  refine Kept.trans ((s.closeBond_kept h false false false).trans
    (State.raise_calm _ .headFault (.head h)).kept) (Calm.kept (State.setHead_calm _ h _ ?_))
  generalize State.head _ h = c
  exact (ReflTransGen.single (.noted c (some .now) c.weakRun c.stray c.last c.results c.efoDuration)).tail
    (.held _ _)

theorem State.lift_kept (s : State) (h : Head) : Kept s (match (s.head h).state with
    | .armed => s.closeBond h true false false
    | .inBond => s.closeBond h true false false
    | .aborting => s.closeBond h true true false
    | .offline | .idle | .hold => s.stray h 1) := by
  cases (s.head h).state with
  | armed => exact s.closeBond_kept h _ _ _
  | inBond => exact s.closeBond_kept h _ _ _
  | aborting => exact s.closeBond_kept h _ _ _
  | offline => exact (s.stray_calm h 1).kept
  | idle => exact (s.stray_calm h 1).kept
  | hold => exact (s.stray_calm h 1).kept

theorem State.sample_kept (s : State) (h : Head) (stamp : Byte) (xs : List Triple) :
    Kept s (if xs.length = 0 ∨ 6 < xs.length then s.stray h 1
      else if (s.engine h).state ≠ .opened then s.stray h xs.length
      else if (s.engine h).ahead stamp.toNat < 128 then
        s.updateEngine h fun e => e.takeFrame stamp.toNat xs
      else s.stray h xs.length) := by
  have stray (n : Nat) : Kept s (s.stray h n) := (s.stray_calm h n).kept
  split
  · exact stray 1
  · split
    · exact stray _
    · next ho =>
      exact Kept.ite (s.updateEngine_kept h _ (.sampled _ _ _ xs (not_not.mp ho))) (stray _)

theorem State.rejectKey_kept (s : State) (h : Head) : Kept s
    (if (s.head h).state.inFlight then (s, KeyOutcome.denied) else (s.rejectHeadUnit h, .done)).1 := by
  split
  · exact Kept.refl s
  · next hf => exact s.rejectHeadUnit_kept h (by simpa using hf)

theorem State.rejectControl_kept (s : State) (h : Head) : Kept s
    (if (s.head h).state.inFlight then (s, Reply.refused .busy) else (s.rejectHeadUnit h, .accepted)).1 := by
  split
  · exact Kept.refl s
  · next hf => exact s.rejectHeadUnit_kept h (by simpa using hf)

/-- R111: a TRACK-SET that passes finds no head in flight. -/
theorem trackSetReason_none {s : State} {raw : List PosEntry} {w : Option Nat}
    (h : trackSetReason s raw w = none) (k : Head) : (s.head k).state.inFlight = false := by
  unfold trackSetReason at h
  extract_lets at h
  split at h
  · cases h
  · next hb =>
    simp only [Bool.or_eq_true, not_or, Bool.not_eq_true] at hb
    cases k
    · exact hb.1.2
    · exact hb.2

/-! ## Every command -/

/-- What a command answers keeps heads, engines and claims. -/
def AnswerKept (s : State) (a : Answer) : Prop := ∀ t, a = .next t → Kept s t

theorem AnswerKept.next {s t : State} (h : Kept s t) : AnswerKept s (.next t) := fun u hu => by
  cases hu; exact h

theorem AnswerKept.calm {s t : State} (h : Calm s t) : AnswerKept s (.next t) := .next h.kept

/-- A management request whose block stays calm. -/
theorem AnswerKept.request {s : State} {c : Instr} {k t : Byte} {body : State → State × Reply}
    (hb : ∀ u, Calm u (body u).1) : AnswerKept s (.next (s.request c k t body)) :=
  .next (s.request_kept c k t body fun u => (hb u).kept)

/-- A CONTROL request whose block stays calm. -/
theorem AnswerKept.controlOn {α : Type} {s : State} {c : Instr} {t : Byte} {o : Option α}
    {body : α → State → State × Reply} (hb : ∀ a u, Calm u (body a u).1) :
    AnswerKept s (.next (s.controlOn c t o body)) :=
  .next (s.controlOn_kept c t o body fun a u => (hb a u).kept)

/-- A frame whose block stays calm. -/
theorem AnswerKept.taken {s : State} {x : Port} {c : Instr} {body : State → State}
    (hb : ∀ u, Calm u (body u)) : AnswerKept s (.next (s.taken x c body)) :=
  .next (s.taken_kept x c body fun u => (hb u).kept)

/-- A key whose block stays calm. -/
theorem AnswerKept.key {α : Type} {s : State} {c : Instr} {n : Nat} {o : Option α} {a b d : Byte}
    {body : α → State → State × KeyOutcome} (hb : ∀ x u, Calm u (body x u).1) :
    AnswerKept s (.next (s.taken .ot c fun s => s.takeKey n o a b d body)) :=
  .next (s.taken_kept .ot c _ fun u => u.takeKey_kept n o a b d body fun x v => (hb x v).kept)

/-- An event whose effect stays calm. -/
theorem AnswerKept.happens {s : State} {body : State → State} (hb : Calm s (body s)) :
    AnswerKept s (.next (s.happens body)) := .next (s.happens_kept body hb.kept)

/-- Every command keeps heads, engines and claims. -/
theorem exec_kept (c : Instr) (s : State) : AnswerKept s (exec c s) := by
  cases c with
  | powerOnReset x mv => exact .next ((Calm.of_mgmt s _).kept.trans (State.takeReset_kept _ _ _ _))
  | pinReset x =>
    exact .next ((Calm.of_mgmt s { s.mgmt with pinLow := false }).kept.trans
      (Kept.ite (Kept.refl _) (State.takeReset_kept _ _ _ _)))
  | supplyReset x mv => exact .next ((Calm.of_mgmt s _).kept.trans (State.takeReset_kept _ _ _ _))
  | resetPinLow => exact .next (s.happens_kept _ ((Calm.of_mgmt s _).kept.trans (State.hold_kept _)))
  | supplyBelowResetLevel mv =>
    exact .next (s.happens_kept _ ((Calm.of_mgmt s _).kept.trans (State.hold_kept _)))
  | supplyBelowRetentionLevel mv =>
    exact .next (s.happens_kept _ ((Calm.of_mgmt s _).kept.trans (State.hold_kept _)))
  | supplyFallsBelowWarning mv =>
    exact .happens ((Calm.of_mgmt s { s.mgmt with supplyMv := mv.toNat }).trans (Calm.ite (Calm.refl _)
      ((Calm.of_mgmt _ _).trans (State.raise_calm _ _ _))))
  | supplyRisesAboveWarning mv =>
    exact .happens ((Calm.of_mgmt s { s.mgmt with supplyMv := mv.toNat }).trans (Calm.ite
      ((Calm.of_mgmt _ _).trans (State.conditionGone_calm _ _ _)) (Calm.refl _)))
  | reset x => exact .next (s.turn_kept .u _ _ fun u => u.takeReset_kept _ _ _)
  | partTimeTick => exact .calm (Calm.of_mgmt s _)
  | supervisionTimerExpiry =>
    exact .next (Kept.ite (s.happens_kept _ ((Calm.of_mgmt s _).trans (State.raise_calm _ _ _)).kept)
      (Kept.refl s))
  | lineReady p => exact .happens ((s.updatePort_calm p _).trans (State.tryLeaveDown_calm _ p))
  | lineNotReady p =>
    exact .next (s.happens_kept _ ((s.updatePort_calm p _).kept.trans (State.enterDown_kept _ p false)))
  | wakeTrainingReceived p l =>
    exact .next (Kept.ite (s.happens_kept _ (s.judgeTraining_calm p _ l).kept) (Kept.refl s))
  | wakeAnswerTimeout p =>
    exact .next (Kept.ite (s.happens_kept _ (s.wakeFailed_calm p _).kept) (Kept.refl s))
  | farEndWake p l =>
    refine .next ?_
    split
    · exact (s.updatePort_calm p _).kept
    · exact s.happens_kept _ ((s.updatePort_calm p _).trans (State.judgeTraining_calm _ p _ _)).kept
    · exact s.happens_kept _ (s.judgeTraining_calm p _ _).kept
    · exact (s.updatePort_calm p _).kept
    · exact s.happens_kept _ ((s.updatePort_calm p _).trans (State.judgeTraining_calm _ p _ _)).kept
    · exact Kept.refl s
    · exact Kept.refl s
    · exact Kept.refl s
  | wakeRetryTimerExpiry p => exact .calm (s.updatePort_calm p _)
  | sleepTimerExpiry p =>
    exact .calm (Calm.ite ((s.updatePort_calm p _).trans (State.toldQuiet_calm _ p)) (Calm.refl s))
  | frameHeaderReceived p h => exact .happens (s.receiveHeader_calm p h)
  | frameEndReceived p tail => exact .happens (s.receiveEnd_calm p tail)
  | holdOff p => exact .taken fun u => u.updatePort_calm p _
  | go p => exact .taken fun u => u.updatePort_calm p _
  | holdOffTimerExpiry p => exact .calm (s.updatePort_calm p _)
  | frameSent p => exact .calm (s.frameSent_calm p)
  | downstreamFrameForwarded p f =>
    exact .taken fun u => Calm.ite (Calm.refl u) (Calm.ite (u.send_calm _ _) (u.updatePort_calm p _))
  | bondStart head strip unit wire kind => exact .next (execBondStart_kept head strip unit wire kind s)
  | bondAbort head =>
    refine .taken fun u => ?_
    split
    · exact Calm.refl u
    · exact u.abortCause_calm _
  | abortTimerExpiry h =>
    exact .next (Kept.ite (s.happens_kept _ (s.closeThenAlarm_kept h)) (Kept.refl s))
  | touchdown h e z stamp =>
    refine .next (s.taken_kept h.port _ _ fun u => Kept.trans ?_ (State.forward_calm _ _).kept)
    split
    · next hs => exact u.touch_kept h _ _ hs
    · exact (u.stray_calm h 1).kept
  | lift h e =>
    exact .next (s.taken_kept h.port _ _ fun u => (u.lift_kept h).trans (State.forward_calm _ _).kept)
  | aborted h e =>
    exact .next (s.taken_kept h.port _ _ fun u => (Kept.ite (u.closeBond_kept h _ _ _)
      (u.stray_calm h 1).kept).trans (State.forward_calm _ _).kept)
  | headFault h e code => exact .taken fun u => (u.raise_calm _ _).trans (State.forward_calm _ _)
  | strayEvent h e code => exact .taken fun u => (u.stray_calm h 1).trans (State.forward_calm _ _)
  | sample h stamp xs => exact .next (s.taken_kept h.port _ _ fun u => u.sample_kept h stamp xs)
  | efoStart h e time => exact .taken fun u => (u.startEfo_calm h _).trans (State.forward_calm _ _)
  | efoEnd h e time => exact .taken fun u => (u.endEfo_calm h _).trans (State.forward_calm _ _)
  | efoTimerExpiry h => exact .happens (s.expireEfo_calm h)
  | indexStep skip =>
    refine .next (s.taken_kept .u _ _ fun u => ?_)
    split
    · exact (u.send_calm _ _).kept
    · exact u.stepChecks_kept skip
  | indexTransfer skip =>
    refine .next (s.taken_kept .u _ _ fun u => ?_)
    split
    · exact (u.send_calm _ _).kept
    · exact u.transferChecks_kept skip
  | holdTimerExpiry =>
    exact .next (Kept.ite (s.happens_kept _ ((s.refuseHeld_calm _).trans (State.raise_calm _ _ _)).kept)
      (Kept.refl s))
  | indexDoneStep e code i o =>
    refine .next (s.taken_kept .ix _ _ fun u => Kept.trans ?_ (State.forward_calm _ _).kept)
    split
    · exact Kept.refl u
    · next q hq => exact Kept.ite (u.stepDone_kept q hq) u.jam_kept
  | indexDoneTransfer e i o =>
    refine .next (s.taken_kept .ix _ _ fun u => ?_)
    split
    · exact (u.forward_calm _).kept
    · next q hq =>
      exact Kept.ite (u.jam_kept.trans (State.forward_calm _ _).kept) (u.transferDone_kept _ q _ _ hq)
  | completionTimerExpiry => exact .next (Kept.ite (s.happens_kept _ s.jam_kept) (Kept.refl s))
  | jam e position =>
    exact .next (s.taken_kept .ix _ _ fun u => u.jam_kept.trans (State.forward_calm _ _).kept)
  | magInLoaded e count =>
    exact .taken fun u => (Calm.ite (Calm.of_track u _ (u.track.setMagIn_calm _))
      ((Calm.of_track u { u.track.setMagIn (MagIn.loaded (min count.toNat 40)) with
        loadCount := satAdd maxU32 u.track.loadCount 1 } ⟨rfl, rfl, rfl, rfl,
          (u.track.setMagIn_calm (MagIn.loaded (min count.toNat 40))).inFlight⟩).trans
            (State.conditionGone_calm _ _ _))).trans
      (State.forward_calm _ _)
  | magInRemoved e =>
    exact .taken fun u => (Calm.of_track u _ (u.track.setMagIn_calm _)).trans (State.forward_calm _ _)
  | magOutLoaded e count =>
    exact .next (s.taken_kept .ix _ _ fun u => (Kept.ite u.magOutGone_kept
      (((Calm.of_track u _ (u.track.setMagOut_calm (MagOut.loaded (min count.toNat 40)))).trans
        (State.conditionGone_calm _ _ _)).kept.trans (State.releaseGate_kept _))).trans
      (State.forward_calm _ _).kept)
  | magOutRemoved e =>
    exact .next (s.taken_kept .ix _ _ fun u => u.magOutGone_kept.trans (State.forward_calm _ _).kept)
  | trackSet tag b =>
    refine .next (s.taken_kept .u _ _ fun u => ?_)
    split
    · exact (u.send_calm _ _).kept
    · next hr => exact u.acceptTrackSet_kept tag _ _ (trackSetReason_none hr)
  | pullOrderQueued => exact .happens s.queueOrder_calm
  | pullResult e strip unit wire force mode =>
    exact .next (s.taken_kept .pt _ _ fun u => (u.forward_calm _).kept.trans
      (State.takeResult_kept _ _ _ _ _ _))
  | pullAbort e strip =>
    exact .next (s.taken_kept .pt _ _ fun u => (u.forward_calm _).kept.trans (State.takePullAbort_kept _ _))
  | pullStationTimerExpiry =>
    exact .next (Kept.ite (s.happens_kept _ ((((Calm.of_puller s _).trans
      (State.giveNoResults_calm _)).trans (State.raise_calm _ _ _)).kept.trans (State.endPull_kept _)))
      (Kept.refl s))
  | screenFrameQueued =>
    refine .calm (Calm.ite (Calm.ite ?_ ?_) (Calm.refl s))
    · exact (s.send_calm .ot _).trans (Calm.of_term _ _)
    · exact (s.send_calm .ot _).trans (Calm.of_term _ _)
  | refreshTimerExpiry => exact .calm (Calm.of_term s _)
  | keyPage page =>
    refine .key fun _ u => ?_
    split
    · exact Calm.of_term u _
    · exact Calm.refl u
  | keyScrollUp => exact .key fun _ u => Calm.of_term u _
  | keyScrollDown => exact .key fun _ u => Calm.of_term u _
  | keyAck => exact .key fun _ u => u.keyAcknowledge_calm
  | keyPause head mode => exact .key fun x u => u.pauseHead_calm x.1 x.2
  | keyResume head => exact .key fun h u => u.resumeHead_calm h
  | keyRetry head => exact .key fun h u => u.retryHead_calm h
  | keyRejectUnit head =>
    exact .next (s.taken_kept .ot _ _ fun u => u.takeKey_kept _ _ _ _ _ _ fun h v => v.rejectKey_kept h)
  | keyReleasePull head => exact .key fun h u => u.releasePull_calm h
  | keyUnknown code => exact .taken fun u => Calm.of_frame (u.denyKey_frame code 0 0) (by simp)
  | terminalLevel tag level =>
    refine .request fun u => ?_
    split
    · exact Calm.refl u
    · exact Calm.of_term u _
  | managementRequestRefused kind tag op => exact .request fun u => Calm.refl u
  | alarmAck tag cls obj =>
    refine .request fun u => ?_
    split
    · split
      · next c o _ _ _ =>
        cases Alarms.find u.alarms.entries c o with
        | none => exact Calm.refl u
        | some e => exact u.acknowledge_calm e
      · exact Calm.refl u
    · exact Calm.refl u
  | alarmAckAll tag => exact .request fun u => u.acknowledgeAll_calm
  | forceTest tag => exact .request fun u => u.raise_calm _ _
  | keepalive tag => exact .taken fun u => Calm.refl u
  | tableWriteProgram tag index w =>
    exact .next (s.request_kept _ _ _ _ fun u => u.tableWrite_kept_of_devices _ _ w _
      fun _ _ h => writeProgram_devices h)
  | tableWriteDeviceType tag index w => exact .next (execTableWriteDeviceType_kept tag index w s)
  | tableWriteMapLength tag index w =>
    exact .next (s.request_kept _ _ _ _ fun u => u.tableWrite_kept_of_devices _ _ w _
      fun _ _ h => writeMapLength_devices h)
  | tableWriteMapEntries tag index w =>
    exact .next (s.request_kept _ _ _ _ fun u => u.tableWrite_kept_of_devices _ _ w _
      fun _ _ h => writeMapEntries_devices h)
  | tableWritePullPlan tag index w =>
    exact .next (s.request_kept _ _ _ _ fun u => u.tableWrite_kept_of_devices _ _ w _
      fun _ _ h => writePlan_devices h)
  | tableWritePullLimits tag index w =>
    exact .next (s.request_kept _ _ _ _ fun u => u.tableWrite_kept_of_devices _ _ w _
      fun _ _ h => writeLimits_devices h)
  | tableWriteAction tag index w =>
    refine .next (s.request_kept _ _ _ _ fun u => ?_)
    split
    · exact Kept.refl u
    · exact u.tableWrite_kept_of_devices _ _ w _ fun _ _ h => writeAction_devices h
  | tableWriteNode tag index w =>
    refine .next (s.request_kept _ _ _ _ fun u => ?_)
    split
    · exact Kept.refl u
    · exact u.tableWrite_kept_of_devices _ _ w _ fun _ _ h => writeNode_devices h
  | tableWriteUnknownTable tag code => exact .request fun u => Calm.refl u
  | tableReadProgram tag index => exact .next (s.tableRead_kept _ _ _ _ _)
  | tableReadDeviceType tag index => exact .next (s.tableRead_kept _ _ _ _ _)
  | tableReadMapLength tag index => exact .next (s.tableRead_kept _ _ _ _ _)
  | tableReadMapEntries tag index first count => exact .next (s.tableRead_kept _ _ _ _ _)
  | tableReadSummary tag => exact .next (s.tableRead_kept _ _ _ _ _)
  | tableReadPullPlan tag index => exact .next (s.tableRead_kept _ _ _ _ _)
  | tableReadPullLimits tag index => exact .next (s.tableRead_kept _ _ _ _ _)
  | tableReadPullStatus tag => exact .next (s.tableRead_kept _ _ _ _ _)
  | tableReadAction tag index => exact .next (s.tableRead_kept _ _ _ _ _)
  | tableReadAlarmList tag index => exact .next (s.tableRead_kept _ _ _ _ _)
  | tableReadNode tag index => exact .next (s.tableRead_kept _ _ _ _ _)
  | tableReadPortStatus tag index => exact .next (s.tableRead_kept _ _ _ _ _)
  | tableReadPartStatus tag => exact .next (s.tableRead_kept _ _ _ _ _)
  | tableReadUnknownTable tag code => exact .next (s.tableRead_kept _ _ _ _ _)
  | recordFetchBond tag first count => exact .taken fun u => u.startFetch_calm _ _ _ _
  | recordFetchTrace tag head first count => exact .taken fun u => u.startFetch_calm _ _ _ _
  | recordFetchPull tag first count => exact .taken fun u => u.startFetch_calm _ _ _ _
  | recordFetchUnknownStore tag store => exact .taken fun u => u.send_calm _ _
  | recordReplyQueued =>
    refine .next ?_
    split
    · exact Kept.refl s
    · exact Kept.ite (s.queueReply_kept _) (Kept.refl s)
  | controlRun tag =>
    refine .request fun u => ?_
    split
    · exact u.conditionGone_calm _ _
    · split
      · exact (Calm.of_mgmt u _).trans (State.conditionGone_calm _ _ _)
      · exact u.raise_calm _ _
  | controlConfig tag =>
    refine .request fun u => ?_
    split
    · exact Calm.refl u
    · exact Calm.of_mgmt u _
  | controlSupervision tag steps => exact .request fun u => Calm.of_mgmt u _
  | controlSupplyLevel tag code =>
    exact .controlOn fun x u => (Calm.of_mgmt u _).trans (State.judgeSupply_calm _)
  | controlInputType tag device =>
    refine .request fun u => ?_
    dsimp only
    split
    · exact Calm.refl u
    · split
      · exact Calm.refl u
      · exact Calm.of_track u _ ⟨rfl, rfl, rfl, rfl, id⟩
  | controlIndexTimers tag hold done =>
    exact .request fun u => Calm.of_track u _ ⟨rfl, rfl, rfl, rfl, id⟩
  | controlMagStop tag slot on => exact .request fun u => u.setStop_calm _ on
  | controlPause tag head mode => exact .controlOn fun x u => u.pauseHead_calm x.1 x.2
  | controlResume tag head => exact .controlOn fun h u => u.resumeHead_calm h
  | controlRetry tag head => exact .controlOn fun h u => u.retryHead_calm h
  | controlRejectUnit tag head => exact .next (s.controlOn_kept _ _ _ _ fun h u => u.rejectControl_kept h)
  | controlTraceCapture tag head on =>
    exact .next (s.controlOn_kept _ _ _ _ fun h u =>
      u.updateEngine_kept h (fun e => { e with capture := on }) (.captures _ _ on))
  | controlTraceRelease tag head =>
    exact .next (s.controlOn_kept _ _ _ _ fun h u => u.updateEngine_kept h Engine.release (.released _ _))
  | controlClearResults tag head =>
    exact .controlOn fun l u => Calm.foldl (fun (s : State) h => s.updateHead h HeadCtx.clearResults)
      (fun t h => t.clearResults_calm h) l u
  | controlPullTimer tag seconds => exact .request fun u => Calm.of_puller u _
  | controlPullCancel tag =>
    refine .next (s.request_kept _ _ _ _ fun u => ?_)
    split
    · exact u.giveNoResults_calm.kept.trans (State.endPull_kept _)
    · exact Kept.refl u
  | controlClearPullStats tag head => exact .controlOn fun l u => Calm.of_puller u _
  | controlReleasePull tag head => exact .controlOn fun h u => u.releasePull_calm h
  | controlScreenRefresh tag steps => exact .request fun u => Calm.of_term u _
  | controlPortEnable tag port =>
    exact .controlOn fun x u => (u.updatePort_calm x _).trans (State.tryLeaveDown_calm _ x)
  | controlPortDisable tag port force =>
    refine .next (s.controlOn_kept _ _ _ _ fun x u => ?_)
    have forced (r : Reply) : Kept u (if force then u.standDown x else (u, r)).1 := by
      split
      · exact u.standDown_kept x
      · exact Kept.refl u
    split
    · exact u.standDown_kept x
    · exact u.standDown_kept x
    · exact forced _
    · exact forced _
    · exact forced _
  | controlPortRate tag port rate =>
    refine .controlOn fun y u => ?_
    split
    · exact u.updatePort_calm y.1 _
    · exact u.updatePort_calm y.1 _
    · exact Calm.refl u
    · exact Calm.refl u
  | controlLinkThreshold tag threshold => exact .request fun u => Calm.of_mgmt u _
  | controlClearCounters tag port =>
    exact .controlOn fun l u => (Calm.foldl (fun (s : State) x =>
      s.updatePort x fun p => { p with count := Counters.zero }) (fun t x => t.updatePort_calm x _) l u).trans
      (State.conditionsGone_calm _ _)

/-- Every step keeps heads, engines and claims. -/
theorem step_kept {s t : State} (h : step s = .next t) : Kept s t := by
  unfold step at h
  split at h
  · cases h; exact s.settleAll_calm.kept
  · next c rest _ =>
    have taken : Calm s { s with pending := rest } := Calm.of_same rfl rfl rfl rfl rfl rfl
    exact taken.kept.trans (exec_kept c _ t h)

/-! ## The statements -/

/-- Settles O6: every step moves each head with its engine, and every such move keeps both invariants. -/
theorem stepsKeepHeadsAndEngines : Obligations.StepsKeepHeadsAndEngines := by
  unfold Obligations.StepsKeepHeadsAndEngines
  exact ⟨fun _ _ hi h => (step_kept h).headsInv hi, fun _ _ hi h => (step_kept h).enginesInv hi⟩

/-- Settles O9: every command keeps claims and unit records in agreement. -/
theorem stepsKeepClaims : Obligations.StepsKeepClaims := by
  unfold Obligations.StepsKeepClaims
  intro s t hi h
  rw [claimInv_iff] at hi ⊢
  exact (step_kept h).claims hi

/-- Settles O5: each invariant is evaluated at the reset state. -/
theorem resetMeetsTheInvariants : Obligations.ResetMeetsTheInvariants := by
  unfold Obligations.ResetMeetsTheInvariants
  refine ⟨?_, ?_, ?_, ?_, ?_, ?_, ?_, ?_, ?_⟩ <;> decide

end Sys2Proof.Machine
end

section
/-! SUPPORT. BOND-START, TOUCHDOWN, stray events, HEAD-FAULT and BOND-ABORT: the statements (R24 to R27, R30,
R36, R37, R40). -/

namespace Sys2Proof.Machine

/-- R170: taking a frame leaves the transmit queue and the state of every port. -/
theorem State.takeRx_lines (s : State) (x y : Port) (c : Instr) :
    ((s.takeRx x c).port y).tx = (s.port y).tx ∧ ((s.takeRx x c).port y).state = (s.port y).state := by
  by_cases h : y = x
  · subst h
    obtain ⟨ht, hs, -⟩ := s.takeRx_port y c
    exact ⟨ht, hs⟩
  · rw [show (s.takeRx x c).port y = s.port y from State.port_updatePort_ne _ _ _ _ h]
    exact ⟨rfl, rfl⟩

@[simp] theorem State.takeRx_head (s : State) (x : Port) (c : Instr) (h : Head) :
    (s.takeRx x c).head h = s.head h := by cases h <;> rfl

@[simp] theorem State.takeRx_engine (s : State) (x : Port) (c : Instr) (h : Head) :
    (s.takeRx x c).engine h = s.engine h := by cases h <;> rfl

@[simp] theorem State.send_engine (s : State) (x : Port) (m : Msg) (h : Head) :
    (s.send x m).engine h = s.engine h := by cases h <;> rfl

@[simp] theorem State.markChanges_head (s old : State) (h : Head) :
    (s.markChanges old).head h = s.head h := by cases h <;> simp [State.head]

@[simp] theorem State.markChanges_engine (s old : State) (h : Head) :
    (s.markChanges old).engine h = s.engine h := by cases h <;> simp [State.engine]

/-! ## BOND-START -/

/-- R24, R170: taking the frame of a BOND-START moves no check. -/
theorem bondChecks_takeRx (s : State) (x : Port) (c : Instr) (head : Option Head) (strip u w : Nat)
    (kind : Option BondKind) :
    bondChecks (s.takeRx x c) head strip u w kind = bondChecks s head strip u w kind := by
  obtain ⟨ht, hs⟩ := s.takeRx_lines x (head.getD .a).port c
  simp only [bondChecks, ht, hs, State.takeRx_head, State.takeRx_mgmt, State.takeRx_track,
    State.takeRx_tables]

/-- R24: a BOND-START some check of which fails is refused with the reason of the first. -/
theorem execBondStart_refused {head : Byte} {strip : W16} {unit wire kind : Byte} {s : State}
    {y : Bool × Reason}
    (hy : firstFailed (bondChecks s (headOf head) strip.toNat unit.toNat wire.toNat (bondKindOf kind)) = some y)
    (ht : s.inTurn .u (.bondStart head strip unit wire kind) = true) :
    exec (.bondStart head strip unit wire kind) s =
      .next (((s.takeRx .u (.bondStart head strip unit wire kind)).send .u
        (.bondRefused head strip unit wire y.2)).markChanges s) := by
  have hr : bondStartReason (s.takeRx .u (.bondStart head strip unit wire kind)) (headOf head) strip.toNat
      unit.toNat wire.toNat (bondKindOf kind) = some y.2 := by
    rw [bondStartReason_eq, bondChecks_takeRx, hy]; rfl
  change Host.Outcome.next (State.taken _ _ _ _) = _
  simp only [State.taken_inTurn _ _ _ _ ht, hr]

/-- R22, R24: while a SAFE-STOP alarm is listed some check of every BOND-START fails. -/
theorem bondChecks_safeStop {s : State} (ha : AlarmInv s) (hh : HeadsInv s)
    (hs : safeStopStands s.alarms.entries = true) (head : Option Head) (strip u w : Nat)
    (kind : Option BondKind) : (firstFailed (bondChecks s head strip u w kind)).isSome = true := by
  cases hr : bondStartReason s head strip u w kind with
  | some r =>
    rw [bondStartReason_eq] at hr
    obtain ⟨y, hy, -⟩ := Option.map_eq_some_iff.mp hr
    simp [hy]
  | none =>
    obtain ⟨h, k, x, r, p, -, -, -, m⟩ := bondStartReason_none hr
    obtain ⟨-, -, fa, fb⟩ := ha
    obtain ⟨ia, ib, -, -⟩ := hh
    have stop : (s.head h).holds.safeStop = true := by
      cases h
      · exact fa.2.trans hs
      · exact fb.2.trans hs
    have still : (s.head h).state = (s.head h).holds.state := by
      cases h
      · exact ia.2.2 (by rw [show s.headA.state = .idle from m.idle]; rfl)
      · exact ib.2.2 (by rw [show s.headB.state = .idle from m.idle]; rfl)
    have idle := m.idle
    rw [still] at idle
    cases hl : (s.head h).holds.link <;> simp [Holds.state, Holds.any, hl, stop] at idle

/-- Settles O31: the reason is that of the first failed check of the list, and a head that a SAFE-STOP
holds is not IDLE. -/
theorem bondStartChecksInOrder : Obligations.BondStartChecksInOrder := by
  unfold Obligations.BondStartChecksInOrder
  intro head strip unit wire kind s
  refine ⟨fun y hy ht => ⟨_, execBondStart_refused hy ht, ?_, ?_⟩,
    fun ha hh hs => bondChecks_safeStop ha hh hs _ _ _ _ _⟩
  · exact ((s.takeRx_frame _ _).trans (State.send_frame _ _ _)).markChanges s
  · exact State.markChanges_ports _ s

/-- R24: no check of a BOND-START fails. -/
theorem bondChecks_pass {s : State} {h : Head} {k : BondKind} {strip u w : Nat} {x : Strip} {r : UnitRecord}
    {p : Program} (hrun : s.mgmt.run = true) (hport : (s.port h.port).state ≠ .down)
    (hidle : (s.head h).state = .idle) (hstill : s.track.inFlight = none) (hbond : s.track.bond = some x)
    (hid : x.id = strip) (hwin : s.tables.inWindow x u = true) (hunit : x.units[u]? = some r)
    (hown : r.state = .pending ∧ (s.head h).claim = none ∧ (s.head h).pause ≠ some .afterUnit ∨
      r.state = .claimed h ∧ (s.head h).claim = some u)
    (hcur : r.cursor = some w) (hphase : r.phase = k.phase) (hp : s.tables.wireProgram x w k = some p)
    (hefo : k = .ball → (s.head h).efo = .passed) (hroom : (s.port h.port).tx.length < 8) :
    firstFailed (bondChecks s (some h) strip u w (some k)) = none := by
  rw [Tables.wireProgram_eq] at hp
  have hk : k.phase = if k = .ball then .ballDue else .stitchDue := by cases k <;> rfl
  have he : (k != .ball || (s.head h).efo == .passed) = true := by cases k <;> simp [hefo]
  have hne : h ≠ otherHead h := (otherHead_ne h).symm
  rcases hown with ⟨hr, hc, hpause⟩ | ⟨hr, hc⟩ <;>
    simp_all [firstFailed, bondChecks]

/-- R24, R26: a BOND-START no check of which fails is accepted. -/
theorem execBondStart_accepted {head : Byte} {strip : W16} {unit wire kind : Byte} {s : State} {h : Head}
    {k : BondKind} {x : Strip} {p : Program} (hh : headOf head = some h) (hk : bondKindOf kind = some k)
    (hx : s.track.bond = some x) (hp : s.tables.wireProgram x wire.toNat k = some p)
    (hc : firstFailed (bondChecks s (some h) strip.toNat unit.toNat wire.toNat (some k)) = none)
    (ht : s.inTurn .u (.bondStart head strip unit wire kind) = true) :
    exec (.bondStart head strip unit wire kind) s =
      .next (((s.takeRx .u (.bondStart head strip unit wire kind)).acceptBond h x unit.toNat wire.toNat k
        p).markChanges s) := by
  have hr : bondStartReason (s.takeRx .u (.bondStart head strip unit wire kind)) (some h) strip.toNat
      unit.toNat wire.toNat (some k) = none := by
    rw [bondStartReason_eq, bondChecks_takeRx, hc]; rfl
  change Host.Outcome.next (State.taken _ _ _ _) = _
  simp only [State.taken_inTurn _ _ _ _ ht, hh, hk, hr, State.takeRx_track, hx, State.takeRx_tables, hp]

/-- A unit changed by a function stands as that function leaves it. -/
theorem Strip.updateUnit_eq_set (x : Strip) (u : Nat) (f : UnitRecord → UnitRecord) (r : UnitRecord)
    (hr : x.units[u]? = some r) : x.updateUnit u f = { x with units := x.units.set u (f r) } := by
  have : x.units.modify u f = x.units.set u (f r) := by
    apply List.ext_getElem?
    intro v
    rw [List.getElem?_modify, List.getElem?_set]
    by_cases hv : u = v
    · subst hv
      obtain ⟨hu, hx⟩ := List.getElem?_eq_some_iff.mp hr
      simp [hu, hx]
    · simp [hv]
  rw [Strip.updateUnit, this]

/-- R26, R28: the unit that a claim takes, or keeps, on the strip at BOND. -/
theorem State.updateUnit_claimedBy (s : State) (h : Head) (x : Strip) (r : UnitRecord) (u : Nat)
    (hx : s.track.bond = some x) (hu : x.units[u]? = some r)
    (hown : (s.head h).claim = none ∨ r.state = .claimed h ∧ (s.head h).claim = some u) :
    (s.updateUnit u (UnitRecord.claimedBy h (s.head h).claim.isNone)).track =
      { s.track with bond := some { x with units := x.units.set u { r with state := .claimed h } } } := by
  have hr : UnitRecord.claimedBy h (s.head h).claim.isNone r = { r with state := .claimed h } := by
    rcases hown with hc | ⟨hr, hc⟩
    · rw [hc]; rfl
    · rw [hc, ← hr]; rfl
  rw [s.updateUnit_eq u _ x hx, Strip.updateUnit_eq_set x u _ r hu, hr]

theorem State.acceptBond_frame (s : State) (h : Head) (x : Strip) (u w : Nat) (k : BondKind) (p : Program) :
    Frame [headBlock h, engineBlock h, .track, .store, .ports] s (s.acceptBond h x u w k p) := by
  rw [State.acceptBond_eq]
  cases h <;> simp [Frame, headBlock, engineBlock, State.send, State.setHead, State.setEngine]

/-- Settles O32: every check passes, and the acceptance is read block by block. -/
theorem bondStartAccepted : Obligations.BondStartAccepted := by
  unfold Obligations.BondStartAccepted
  intro h k strip unit wire x r p s head c u slot number hrun hport hidle hstill hbond hid hwin hunit hown
    hcur hphase hp hefo hroom ht
  have hk : k.phase = if k = .ball then .ballDue else .stitchDue := by cases k <;> rfl
  have hnum : s.tables.wireProgramNumber x wire.toNat k = number := by cases k <;> rfl
  have hprog : s.tables.wireProgram x wire.toNat k = some p := by rw [Tables.wireProgram_eq]; exact hp
  have hc := bondChecks_pass hrun hport hidle hstill hbond hid hwin hunit hown hcur (hphase.trans hk.symm)
    hprog hefo hroom
  have claimed : (s.head h).claim = none ∨ r.state = .claimed h ∧ (s.head h).claim = some u :=
    hown.imp (fun o => o.2.1) id
  refine ⟨_, execBondStart_accepted (by cases h <;> rfl) (by cases k <;> rfl) hbond hprog hc ht,
    ((s.takeRx_frame _ _).comp (State.acceptBond_frame _ _ _ _ _ _ _) (by simp) (by simp)).markChanges s,
    ?_, ?_, ?_, ?_, ?_⟩ <;>
    rw [State.acceptBond_eq]
  · have hunit : x.units[unit.toNat]? = some r := hunit
    simp [State.send_head, HeadCtx.accepted, State.bondOf, hnum, hunit, u]
  · have track := s.updateUnit_claimedBy h x r u hbond hunit claimed
    rw [← track]
    cases h <;> simp [State.updateUnit, State.setHead, State.setEngine, State.send, u]
  · cases h <;> simp [State.setHead, State.setEngine, State.send]
  · simp [Engine.arm, Program.limits]
  · rw [State.markChanges_ports]
    cases h <;> rfl

/-! ## A raise lists its pair -/

/-- R138: a new entry is the entry of its pair. -/
theorem Alarms.find_insertEntry (e : AlarmEntry) (c : AlarmClass) (o : AlarmObject) (l : List AlarmEntry)
    (hl : Alarms.find l c o = none) (he : e.isPair c o = true) :
    Alarms.find (insertEntry e l) c o = some e := by
  induction l with
  | nil => simp [insertEntry, Alarms.find, he]
  | cons y l ih =>
    obtain ⟨hy, hl⟩ : y.isPair c o = false ∧ Alarms.find l c o = none := by
      simpa [Alarms.find] using hl
    unfold insertEntry
    split
    · simpa [Alarms.find, hy] using ih hl
    · simp [Alarms.find, he]

/-- R138: a merged entry stays the entry of its pair. -/
theorem Alarms.find_updateEntry (c : AlarmClass) (o : AlarmObject) (l : List AlarmEntry) (e : AlarmEntry)
    (f : AlarmEntry → AlarmEntry) (hf : ∀ y, (f y).isPair c o = y.isPair c o)
    (hl : Alarms.find l c o = some e) : Alarms.find (updateEntry l c o f) c o = some (f e) := by
  have he : e.isPair c o = true := List.find?_some (p := fun y : AlarmEntry => y.isPair c o) hl
  have hp : ((fun y : AlarmEntry => y.isPair c o) ∘ fun y => if y.isPair c o then f y else y) =
      fun y => y.isPair c o := by
    funext y
    by_cases hy : y.isPair c o = true <;> simp [hy, hf]
  rw [Alarms.find, updateEntry, List.find?_map, hp]
  rw [Alarms.find] at hl
  simp [hl, he]

/-- R138, R139: a raise leaves its pair listed ACTIVE-UNACKED. -/
theorem Alarms.raised_listed (a : Alarms) (x : ActionEntry) (c : AlarmClass) (o : AlarmObject) :
    (Alarms.find (a.raised x c o).entries c o).any (fun y => y.state = .activeUnacked) = true := by
  unfold Alarms.raised
  cases hl : Alarms.find a.entries c o with
  | none =>
    have pair : AlarmEntry.isPair ⟨c, o, x.level, x.rank, x.action, nextInCycle a.lastSeq, 1, .activeUnacked⟩
        c o = true := by simp [AlarmEntry.isPair]
    simp [Alarms.find_insertEntry _ c o _ hl pair]
  | some e =>
    simp [Alarms.find_updateEntry c o _ e (fun y => { y with
      count := satAdd 255 y.count 1, state := .activeUnacked }) (fun _ => rfl) hl]

theorem State.raise_listed (s : State) (c : AlarmClass) (o : AlarmObject) :
    (Alarms.find (s.raise c o).alarms.entries c o).any (fun y => y.state = .activeUnacked) = true := by
  rw [State.raise_eq]
  exact Alarms.raised_listed _ _ c o

/-- R138, R144: what a raise does outside the ports does not depend on them. -/
theorem State.raise_of_ports (s : State) (p : Ports) (c : AlarmClass) (o : AlarmObject) :
    ({ s with ports := p } : State).raise c o =
      { s.raise c o with ports := ({ s with ports := p } : State).raisePorts c o } := by
  rw [State.raise_eq, State.raise_eq]
  rfl

theorem State.takeRx_eq (s : State) (x : Port) (c : Instr) :
    s.takeRx x c = { s with ports := (s.takeRx x c).ports } := rfl

/-- R148, R150: what a step marks adds to the changed-field set. -/
theorem State.mem_markChanges (s old : State) (k : Nat) (hk : k < pageSize s.term.page)
    (h : k ∈ s.term.changed) : k ∈ (s.markChanges old).term.changed := by
  unfold State.markChanges
  split
  · simp [Terminal.markWhere, hk, h]
  · exact h

/-- R150, R151: what a step marks leaves the terminal server told of the list. -/
theorem ListTold.markChanges {s t : State} (h : ListTold s t) (old : State) :
    ListTold s (t.markChanges old) := by
  obtain ⟨ht, h1, h0⟩ := h
  have page : t.term.page = s.term.page := by rw [ht]
  have term := congrArg State.term (t.markChanges_like old)
  refine ⟨?_, fun hp k hk => ?_, fun hp => ⟨?_, ?_⟩⟩
  · rw [term, State.markChanges_alarms]
    generalize (t.markChanges old).term.changed = l
    rw [ht]
  · exact t.mem_markChanges old k (by rw [page, hp]; exact hk) (h1 hp k hk)
  · exact t.mem_markChanges old 5 (by rw [page, hp]; decide) (h0 hp).1
  · exact t.mem_markChanges old 6 (by rw [page, hp]; decide) (h0 hp).2

/-! ## Events and aborts -/

/-- R36: an event that a frame carries is passed on as that frame. -/
theorem State.forward_of (s : State) {c : Instr} {y} (hf : frameOf c = some y) :
    s.forward c = s.send .u (.forwarded y.2) := by
  unfold State.forward
  rw [hf]

/-- R36, R37: an event in a state that has no use for it is stray and is passed on. -/
theorem exec_stray {h : Head} {c : Instr} {s : State} {body : State → State} {y}
    (hx : exec c s = .next (s.taken h.port c fun u => (body u).forward c))
    (hb : body (s.takeRx h.port c) = (s.takeRx h.port c).stray h 1) (hf : frameOf c = some y)
    (ht : s.inTurn h.port c = true) :
    ∃ t, exec c s = .next t ∧ Frame [headBlock h, .ports] s t ∧
      t.head h = { s.head h with stray := min 65535 ((s.head h).stray + 1) } ∧
      t.ports = ((s.takeRx h.port c).send .u (.forwarded y.2)).ports := by
  refine ⟨_, hx, ?_, ?_, ?_⟩ <;> rw [State.taken_inTurn _ _ _ _ ht, hb]
  · exact ((s.takeRx_frame _ _).comp ((State.updateHead_frame _ h _).comp (State.forward_frame _ _)
      (n := [headBlock h, .ports]) (by simp) (by simp)) (by simp) (fun _ => id)).markChanges s
  · rw [State.markChanges_head, State.forward_of _ hf, State.send_head, State.stray, State.head_updateHead_self,
      State.takeRx_head]
    rfl
  · rw [State.markChanges_ports, State.forward_of _ hf]
    cases h <;> rfl

/-- R30, R50: TOUCHDOWN opens the window of an ARMED head, and is stray at any other. -/
theorem touchdown_opens (h : Head) (e : Envelope) (z : W16) (stamp : Byte) (s : State) :
    let c : Instr := .touchdown h e z stamp
    s.inTurn h.port c = true →
      ∃ t, exec c s = .next t ∧ Frame [headBlock h, engineBlock h, .ports] s t ∧
      t.ports = ((s.takeRx h.port c).send .u (.forwarded ⟨e.dst, e.src, 0x11,
        [0, z.extractLsb' 8 8, z.extractLsb' 0 8, stamp] ++ e.extra⟩)).ports ∧
      if (s.head h).state = .armed then
        t.head h = { s.head h with state := .inBond } ∧
        t.engine h = { s.engine h with
          state := .opened, zTouch := z.toNat, expected := stamp.toNat }
      else t.head h = { s.head h with stray := min 65535 ((s.head h).stray + 1) } ∧
        t.engine h = s.engine h := by
  intro c ht
  have hf : frameOf c = some (h.port, ⟨e.dst, e.src, 0x11,
      [0, z.extractLsb' 8 8, z.extractLsb' 0 8, stamp] ++ e.extra⟩) := rfl
  refine ⟨_, rfl, ?_⟩
  rw [State.taken_inTurn _ _ _ _ ht, State.forward_of _ hf, State.takeRx_head]
  split
  · refine ⟨?_, ?_, ?_, ?_⟩
    · exact ((s.takeRx_frame _ _).comp (((State.updateHead_frame _ h _).comp
        (State.updateEngine_frame _ h _) (n := [headBlock h, engineBlock h, .ports]) (by simp) (by simp)).trans
        ((State.send_frame _ _ _).mono (by simp))) (by simp) (fun _ => id)).markChanges s
    · rw [State.markChanges_ports]
      cases h <;> rfl
    · simp [State.send_head]
      cases h <;> rfl
    · simp
      cases h <;> rfl
  · refine ⟨?_, ?_, ?_, ?_⟩
    · exact ((s.takeRx_frame _ _).comp ((State.updateHead_frame _ h _).comp
        (State.send_frame _ _ _) (n := [headBlock h, engineBlock h, .ports]) (by simp) (by simp))
        (by simp) (fun _ => id)).markChanges s
    · rw [State.markChanges_ports]
      cases h <;> rfl
    · simp [State.send_head, State.stray, satAdd, maxU16]
    · cases h <;> simp [State.stray, State.engine, State.updateHead, State.setHead]

/-- R36, R138, R144: HEAD-FAULT is raised as from the state before it. -/
theorem headFault_raises (h : Head) (e : Envelope) (code : Byte) (s : State) :
    let c : Instr := .headFault h e code
    s.inTurn h.port c = true → ∃ t, exec c s = .next t ∧
      Frame [.headA, .headB, .track, .alarms, .term, .ports] s t ∧
      t.alarms = (s.raise .headFault (.head h)).alarms ∧
      (Alarms.find t.alarms.entries .headFault (.head h)).any
        (fun y => y.state = .activeUnacked) = true ∧
      t.headA = (s.raise .headFault (.head h)).headA ∧
      t.headB = (s.raise .headFault (.head h)).headB ∧
      t.track = (s.raise .headFault (.head h)).track ∧ ListTold s t ∧
      t.ports = (((s.takeRx h.port c).raise .headFault (.head h)).send .u
        (.forwarded ⟨e.dst, e.src, 0x11, [5, code] ++ e.extra⟩)).ports := by
  intro c ht
  have hf : frameOf c = some (h.port, ⟨e.dst, e.src, 0x11, [5, code] ++ e.extra⟩) := rfl
  have told := (s.takeRx h.port c).raise_told .headFault (.head h)
  have hr : (s.takeRx h.port c).raise .headFault (.head h) = { s.raise .headFault (.head h) with
      ports := (s.takeRx h.port c).raisePorts .headFault (.head h) } := by
    rw [s.takeRx_eq h.port c, State.raise_of_ports]
  refine ⟨_, rfl, ?_⟩
  rw [State.taken_inTurn _ _ _ _ ht, State.forward_of _ hf]
  refine ⟨?_, ?_, ?_, ?_, ?_, ?_, ?_, ?_⟩
  · exact ((s.takeRx_frame _ _).comp ((State.raise_frame _ _ _).trans
      ((State.send_frame _ _ _).mono (by simp))) (by simp) (fun _ => id)).markChanges s
  · rw [State.markChanges_alarms, State.send_alarms, hr]
  · rw [State.markChanges_alarms, State.send_alarms]
    exact State.raise_listed _ _ _
  · rw [State.markChanges_headA, State.send_headA, hr]
  · rw [State.markChanges_headB, State.send_headB, hr]
  · rw [State.markChanges_track, State.send_track, hr]
  · exact ListTold.markChanges (s := s) (t := State.send _ _ _) told s
  · exact State.markChanges_ports _ s

/-- R40: BOND-ABORT stops an ARMED or IN-BOND head. -/
theorem bondAbort_aborts (head : Byte) (h : Head) (s : State) :
    let c : Instr := .bondAbort head
    s.inTurn .u c = true → ∃ t, exec c s = .next t ∧
      if headOf head = some h ∧ ((s.head h).state = .armed ∨ (s.head h).state = .inBond) then
        Frame [headBlock h, .ports] s t ∧
        t.head h = { s.head h with state := .aborting, abortTimer := true } ∧
        t.ports = ((s.takeRx .u c).send h.port .abort).ports
      else headOf head = none ∨ headOf head = some h →
        Frame [.ports] s t ∧ t.ports = (s.takeRx .u c).ports := by
  intro c ht
  refine ⟨_, rfl, ?_⟩
  rw [State.taken_inTurn _ _ _ _ ht]
  cases hh : headOf head with
  | none => simpa [hh] using (s.takeRx_frame .u c).markChanges s
  | some k =>
    dsimp only
    split
    · next hs =>
      obtain ⟨hk, hs⟩ := hs
      cases hk
      have cut : (s.head h).state.cuttable = true := (HeadState.cuttable_iff _).mpr hs
      refine ⟨((s.takeRx_frame _ _).comp (State.abortCause_frame _ h) (by simp) (by simp)).markChanges s, ?_, ?_⟩
      · rw [State.abortCause_eq]
        cases h <;> simp [State.head, State.updateHead, State.setHead] <;> exact HeadCtx.cut_of_cuttable _ cut
      · rw [State.markChanges_ports, State.abortCause_eq, State.takeRx_head, if_pos cut]
        rfl
    · next hs =>
      rintro (hk | hk)
      · cases hk
      · cases hk
        have cut : (s.head h).state.cuttable = false := by
          rw [← Bool.not_eq_true, HeadState.cuttable_iff]
          exact fun o => hs ⟨rfl, o⟩
        have still : (s.takeRx .u c).abortCause h = s.takeRx .u c := by
          rw [State.abortCause_eq, State.takeRx_head, cut, State.updateHead,
            HeadCtx.cut_of_not_cuttable _ (by simpa using cut)]
          cases h <;> rfl
        rw [still]
        exact ⟨(s.takeRx_frame .u c).markChanges s, State.markChanges_ports _ s⟩

/-- Settles O33: each event is evaluated in its turn. -/
theorem headEventsAndAborts : Obligations.HeadEventsAndAborts := by
  unfold Obligations.HeadEventsAndAborts
  refine ⟨touchdown_opens, fun h e code time s => ⟨?_, fun hs => ⟨?_, ?_⟩, fun h1 h2 => ?_, fun ht => ?_⟩,
    headFault_raises, bondAbort_aborts⟩
  · exact exec_stray (c := .strayEvent h e code) (body := fun u => u.stray h 1) rfl rfl rfl
  · refine exec_stray (c := .lift h e) rfl ?_ rfl
    rw [State.takeRx_head]
    cases hh : (s.head h).state <;> simp_all [HeadState.inFlight]
  · refine exec_stray (c := .aborted h e) rfl ?_ rfl
    rw [State.takeRx_head, if_neg (by simp [hs])]
  · refine exec_stray (c := .efoStart h e time) rfl ?_ rfl
    unfold State.startEfo
    rw [State.takeRx_head]
    cases hh : (s.head h).state <;> simp_all
  · refine exec_stray (c := .efoEnd h e time) rfl ?_ rfl
    unfold State.endEfo
    rw [State.takeRx_head, if_neg ht]

end Sys2Proof.Machine
end

section
/-! SUPPORT. EFO-START, EFO-END and the EFO timer: the statement (R37 to R39). -/

namespace Sys2Proof.Machine

/-! ## What alarms change of a head -/

/-- From `c` to `d` only the hold reasons of a head, its state and its abort timer change. -/
def HeldOnly (c d : HeadCtx) : Prop :=
  d = { c with state := d.state, holds := d.holds, abortTimer := d.abortTimer }

theorem HeldOnly.refl (c : HeadCtx) : HeldOnly c c := rfl

theorem HeldOnly.trans {c d e : HeadCtx} (h : HeldOnly c d) (k : HeldOnly d e) : HeldOnly c e := by
  unfold HeldOnly at h k ⊢
  rw [k, h]

theorem HeadCtx.judge_heldOnly (c : HeadCtx) (h : Head) (l : List AlarmEntry) : HeldOnly c (c.judge h l) := by
  rw [HeadCtx.judge_fields]; rfl

theorem HeadCtx.cut_heldOnly (c : HeadCtx) : HeldOnly c c.cut := by
  unfold HeadCtx.cut; split <;> rfl

theorem HeadCtx.raised_heldOnly (c : HeadCtx) (k : Head) (l : List AlarmEntry) (listed stops : Bool) :
    HeldOnly c (c.raised k l listed stops) := by
  unfold HeadCtx.raised
  split
  · exact .refl c
  · split
    · exact (c.judge_heldOnly k l).trans (HeadCtx.cut_heldOnly _)
    · exact c.judge_heldOnly k l

theorem State.raise_heldOnly (s : State) (c : AlarmClass) (o : AlarmObject) (k : Head) :
    HeldOnly (s.head k) ((s.raise c o).head k) := by
  rw [State.raise_eq]
  cases k <;> exact HeadCtx.raised_heldOnly _ _ _ _ _

theorem State.conditionGone_heldOnly (s : State) (c : AlarmClass) (o : AlarmObject) (k : Head) :
    HeldOnly (s.head k) ((s.conditionGone c o).head k) := by
  have ended (x : HeadCtx) (k : Head) (l : List AlarmEntry) (n : Option (AlarmEntry × NoteEvent)) :
      HeldOnly x (x.over k l n) := by
    unfold HeadCtx.over
    split
    · exact x.judge_heldOnly k l
    · exact .refl x
  rw [State.conditionGone_eq]
  cases k <;> exact ended _ _ _ _

/-! ## A judged ball formation -/

/-- R38, R39: the alarm that a judged ball formation ends or raises. -/
def State.efoJudged (s : State) (h : Head) (passed : Bool) : State :=
  if passed then s.conditionGone .efoFault (.head h) else s.raise .efoFault (.head h)

theorem State.efoJudged_heldOnly (s : State) (h : Head) (passed : Bool) :
    HeldOnly (s.head h) ((s.efoJudged h passed).head h) := by
  cases passed
  · exact s.raise_heldOnly _ _ _
  · exact s.conditionGone_heldOnly _ _ _

theorem State.efoJudged_frame (s : State) (h : Head) (passed : Bool) :
    Frame raiseBlocks s (s.efoJudged h passed) := by
  cases passed
  · exact s.raise_frame _ _
  · exact (s.conditionGone_frame _ _).mono (by simp)

/-- R38: what an alarm does outside its heads does not depend on the ball formation of a head. -/
theorem State.efoJudged_setHead (s : State) (h : Head) (c : HeadCtx) (passed : Bool)
    (hc : c.state = (s.head h).state) :
    ((s.setHead h c).efoJudged h passed).alarms = (s.efoJudged h passed).alarms ∧
      ((s.setHead h c).efoJudged h passed).ports = (s.efoJudged h passed).ports := by
  cases passed
  · simp only [State.efoJudged, Bool.false_eq_true, if_false, State.raise_eq]
    cases h
    · refine ⟨rfl, ?_⟩
      change State.raisePorts { s with headA := c } _ _ = _
      simp only [State.raisePorts, hc]
      rfl
    · refine ⟨rfl, ?_⟩
      change State.raisePorts { s with headB := c } _ _ = _
      simp only [State.raisePorts, hc]
      rfl
  · simp only [State.efoJudged, if_true, State.conditionGone_eq]
    cases h <;> exact ⟨rfl, rfl⟩

theorem State.efoJudged_setHead_head (s : State) (h : Head) (c : HeadCtx) (passed : Bool) :
    HeldOnly c (((s.setHead h c).efoJudged h passed).head h) := by
  simpa using (s.setHead h c).efoJudged_heldOnly h passed

theorem State.efoJudged_setHead_frame (s : State) (h : Head) (c : HeadCtx) (passed : Bool) :
    Frame raiseBlocks s ((s.setHead h c).efoJudged h passed) :=
  ((s.setHead_frame h c).mono (by cases h <;> simp [headBlock])).trans (State.efoJudged_frame _ h passed)

/-- R38: the alarms of a judged ball formation do not depend on the ports. -/
theorem State.efoJudged_takeRx_alarms (s : State) (x : Port) (i : Instr) (h : Head) (passed : Bool) :
    ((s.takeRx x i).efoJudged h passed).alarms = (s.efoJudged h passed).alarms := by
  cases passed
  · simp only [State.efoJudged, Bool.false_eq_true, if_false, State.raise_eq]; rfl
  · simp only [State.efoJudged, if_true, State.conditionGone_eq]; rfl

/-! ## The ball program -/

/-- R38: the EFO part of the VALID BALL program of the cursor wire of the unit that the head works on. -/
theorem State.efoPart_eq (s : State) (h : Head) : s.efoPart h =
    let unit : Option UnitRecord := s.track.bond.bind fun x => (s.head h).claim.elim
      ((x.units.zipIdx.find? fun y => y.1.state == .pending && s.tables.inWindow x y.2).map fun y => y.1)
      fun u => x.units[u]?
    (s.track.bond.bind fun x => unit.bind fun r => r.cursor.bind fun w =>
      (s.tables.program ((s.tables.wiresOf x).slot w).ball).filter fun p => p.kind = .ball).bind
        fun p => p.efo := by
  unfold State.efoPart
  cases hx : s.track.bond with
  | none => rfl
  | some x =>
    cases hc : (s.head h).claim <;>
      simp only [Option.bind_some, Option.elim_none, Option.elim_some, Option.bind_assoc] <;> rfl

/-- R38: no window applies without an EFO part. -/
theorem EfoPart.elim_window (y : Option EfoPart) (d : Nat) :
    (y.elim true fun e => decide (e.tMin ≤ d) && decide (d ≤ e.tMax)) =
      y.all fun e => e.tMin ≤ d && d ≤ e.tMax := by cases y <;> rfl

/-- R38: what EFO-END makes of a head that is TIMING. -/
def HeadCtx.efoEnded (c : HeadCtx) (passed : Bool) (d : Nat) : HeadCtx := { c with
  efo := if passed then .passed else .failed
  efoStart := none
  efoTimer := none
  efoDuration := some d }

/-- R39: what the expiry of the EFO timer makes of a head that is TIMING. -/
def HeadCtx.efoExpired (c : HeadCtx) : HeadCtx :=
  { c with efo := .failed, efoStart := none, efoTimer := none }

/-- R38: EFO-END in TIMING. -/
theorem State.endEfo_timing (s : State) (h : Head) (time : Nat) (ht : (s.head h).efo = .timing) :
    s.endEfo h time =
      let d := (time + 65536 - (s.head h).efoStart.getD 0) % 65536
      let passed := (s.efoPart h).all fun y => y.tMin ≤ d && d ≤ y.tMax
      (s.setHead h ((s.head h).efoEnded passed d)).efoJudged h passed := by
  unfold State.endEfo
  simp only [if_pos ht, EfoPart.elim_window]
  rfl

/-- R37: EFO-START of an IDLE or held head. -/
theorem State.startEfo_still (s : State) (h : Head) (time : Nat)
    (hs : (s.head h).state = .idle ∨ (s.head h).state = .hold) :
    s.startEfo h time = s.updateHead h fun c => { c with
      efo := .timing
      efoStart := some time
      efoTimer := some ((s.efoPart h).elim 50 fun e => e.timeout) } := by
  unfold State.startEfo
  rcases hs with hs | hs <;> rw [hs] <;> rfl

/-- R39: the EFO timer expires in TIMING. -/
theorem State.expireEfo_timing (s : State) (h : Head)
    (ht : (s.head h).efoTimer.isSome = true ∧ (s.head h).efo = .timing) :
    s.expireEfo h = (s.setHead h (s.head h).efoExpired).efoJudged h false := if_pos ht

/-! ## The statement -/

/-- What a judged ball formation leaves of its head as it was. -/
def HeadCtx.SameWork (c d : HeadCtx) : Prop :=
  d.claim = c.claim ∧ d.bond = c.bond ∧ d.pause = c.pause ∧ d.stray = c.stray ∧ d.last = c.last ∧
    d.results = c.results ∧ d.weakRun = c.weakRun

theorem HeldOnly.sameWork {c d : HeadCtx} (h : HeldOnly c d) : c.SameWork d := by
  rw [h]; exact ⟨rfl, rfl, rfl, rfl, rfl, rfl, rfl⟩

theorem HeldOnly.efo {c d : HeadCtx} (h : HeldOnly c d) : d.efo = c.efo ∧ d.efoStart = c.efoStart ∧
    d.efoTimer = c.efoTimer ∧ d.efoDuration = c.efoDuration := by
  rw [h]; exact ⟨rfl, rfl, rfl, rfl⟩

/-- R36, R37: EFO-START of an IDLE or held head. -/
theorem efoStart_starts (h : Head) (e : Envelope) (time : W16) (s : State)
    (ht : s.inTurn h.port (.efoStart h e time) = true) :
    ∃ t, exec (.efoStart h e time) s = .next t ∧
      ((s.head h).state = .idle ∨ (s.head h).state = .hold → Frame [headBlock h, .ports] s t ∧
        t.ports = ((s.takeRx h.port (.efoStart h e time)).send .u (.forwarded ⟨e.dst, e.src, 0x11,
          [3, time.extractLsb' 8 8, time.extractLsb' 0 8] ++ e.extra⟩)).ports ∧
        t.head h = { s.head h with
          efo := .timing
          efoStart := some time.toNat
          efoTimer := some ((s.efoPart h).elim 50 fun y => y.timeout) }) := by
  have hf : frameOf (.efoStart h e time) = some (h.port, ⟨e.dst, e.src, 0x11,
      [3, time.extractLsb' 8 8, time.extractLsb' 0 8] ++ e.extra⟩) := rfl
  refine ⟨_, rfl, fun hs => ?_⟩
  have part : (s.takeRx h.port (.efoStart h e time)).efoPart h = s.efoPart h := by
    rw [State.efoPart, State.efoPart, State.takeRx_head]; rfl
  rw [State.taken_inTurn _ _ _ _ ht, State.forward_of _ hf,
    State.startEfo_still _ h _ (by rw [State.takeRx_head]; exact hs), part]
  refine ⟨?_, ?_, ?_⟩
  · exact ((s.takeRx_frame _ _).comp ((State.updateHead_frame _ h _).comp (State.send_frame _ _ _)
      (n := [headBlock h, .ports]) (by simp) (by simp)) (by simp) (fun _ => id)).markChanges s
  · rw [State.markChanges_ports]
    cases h <;> rfl
  · rw [State.markChanges_head, State.send_head, State.head_updateHead_self, State.takeRx_head]

/-- R36, R38: EFO-END of a head that is TIMING. -/
theorem efoEnd_judges (h : Head) (e : Envelope) (time : W16) (s : State)
    (ht : s.inTurn h.port (.efoEnd h e time) = true) :
    ∃ t, exec (.efoEnd h e time) s = .next t ∧
      ((s.head h).efo = .timing →
        let d := (time.toNat + 65536 - (s.head h).efoStart.getD 0) % 65536
        let passed := (s.efoPart h).all fun y => y.tMin ≤ d && d ≤ y.tMax
        let u := s.takeRx h.port (.efoEnd h e time)
        let forwarded (v : State) : State := v.send .u (.forwarded ⟨e.dst, e.src, 0x11,
          [4, time.extractLsb' 8 8, time.extractLsb' 0 8] ++ e.extra⟩)
        t = (forwarded ((u.setHead h ((s.head h).efoEnded passed d)).efoJudged h passed)).markChanges s) := by
  have hf : frameOf (.efoEnd h e time) = some (h.port, ⟨e.dst, e.src, 0x11,
      [4, time.extractLsb' 8 8, time.extractLsb' 0 8] ++ e.extra⟩) := rfl
  refine ⟨_, rfl, fun hs => ?_⟩
  have part : (s.takeRx h.port (.efoEnd h e time)).efoPart h = s.efoPart h := by
    rw [State.efoPart, State.efoPart, State.takeRx_head]; rfl
  rw [State.taken_inTurn _ _ _ _ ht, State.forward_of _ hf,
    State.endEfo_timing _ h _ (by rw [State.takeRx_head]; exact hs), part, State.takeRx_head]

/-- Settles O38: EFO-START is read off the head; EFO-END and the expiry are a judged formation, whose alarm
depends neither on the head's formation nor, but for its frames, on the ports. -/
theorem efoTimingIsJudged : Obligations.EfoTimingIsJudged := by
  unfold Obligations.EfoTimingIsJudged
  intro h e time s c unit program part d passed same forwarded
  have hpart : s.efoPart h = part := s.efoPart_eq h
  have started := efoStart_starts h e time s
  have ended := efoEnd_judges h e time s
  rw [hpart] at started ended
  refine ⟨started, fun ht => ?_, ?_⟩
  · obtain ⟨t, hx, ht⟩ := ended ht
    refine ⟨t, hx, fun hs => ?_⟩
    have ht := ht hs
    dsimp only at ht
    have held := State.efoJudged_setHead_head (s.takeRx h.port (.efoEnd h e time)) h (c.efoEnded passed d) passed
    obtain ⟨alarms, ports⟩ := State.efoJudged_setHead (s.takeRx h.port (.efoEnd h e time)) h
      (c.efoEnded passed d) passed (by rw [State.takeRx_head]; rfl)
    have head : t.head h = (((s.takeRx h.port (.efoEnd h e time)).setHead h (c.efoEnded passed d)).efoJudged h
        passed).head h := by
      rw [ht, State.markChanges_head, State.send_head]
    rw [← head] at held
    obtain ⟨w1, w2, w3, w4, w5, w6, w7⟩ := held.sameWork
    obtain ⟨e1, e2, e3, e4⟩ := held.efo
    refine ⟨⟨w1, w2, w3, w4, w5, w6, w7, e2, e3, ?_⟩, e4, e1, ?_, ?_, ?_⟩
    · rw [ht]
      exact (((s.takeRx_frame _ _).mono (by simp)).trans ((State.efoJudged_setHead_frame _ h _ passed).trans
        ((State.send_frame _ _ _).mono (by simp)))).markChanges s
    · rw [ht]
      exact State.markChanges_like _ s
    · rw [ht, State.markChanges_alarms]
      exact alarms.trans (s.efoJudged_takeRx_alarms _ _ h passed)
    · rw [ht, State.markChanges_ports]
      exact congrArg (fun p => Ports.enqueue p .u false _) ports
  · refine ⟨_, rfl, ?_⟩
    split
    · next hs =>
      have held := State.efoJudged_setHead_head s h c.efoExpired false
      obtain ⟨alarms, -⟩ := State.efoJudged_setHead s h c.efoExpired false rfl
      have head : (s.happens fun s => s.expireEfo h).head h =
          ((s.setHead h c.efoExpired).efoJudged h false).head h := by
        rw [State.happens, State.expireEfo_timing s h hs, State.markChanges_head]
      rw [← head] at held
      obtain ⟨w1, w2, w3, w4, w5, w6, w7⟩ := held.sameWork
      obtain ⟨e1, e2, e3, e4⟩ := held.efo
      rw [State.happens, State.expireEfo_timing s h hs] at w1 w2 w3 w4 w5 w6 w7 e1 e2 e3 e4 ⊢
      exact ⟨⟨w1, w2, w3, w4, w5, w6, w7, e2, e3, (s.efoJudged_setHead_frame h _ false).markChanges s⟩, e1, e4,
        State.markChanges_like _ s, (State.markChanges_alarms _ s).trans alarms⟩
    · next hs =>
      rw [State.happens, show s.expireEfo h = s from if_neg hs]
      exact State.markChanges_like s s

end Sys2Proof.Machine
end

section
/-! SUPPORT. Pause, resume, retry, reject-unit and release-pull: the statement (R44 to R47, R127). -/

namespace Sys2Proof.Machine

/-! ## Pause and resume -/

/-- R43, R44: a head with OPERATOR added. -/
theorem HeadCtx.addOperator_eq (c : HeadCtx) : c.addOperator = { c with
    holds := { c.holds with operator := true }
    state := if c.state.inFlight then c.state else if c.holds.link then .offline else .hold } := by
  rw [HeadCtx.addOperator, HeadCtx.followHolds_eq]
  simp [Holds.state, Holds.any]

theorem HeadCtx.addOperator_cuttable (c : HeadCtx) : c.addOperator.state.cuttable = c.state.cuttable := by
  rw [HeadCtx.addOperator_eq]
  dsimp only
  cases c.state <;> cases c.holds.link <;> rfl

/-- R43, R45: a head after RESUME. -/
theorem HeadCtx.resumed_eq (c : HeadCtx) :
    { c with holds := { c.holds with operator := false }, pause := none }.followHolds = { c with
      holds := { c.holds with operator := false }
      pause := none
      state := if c.state.inFlight then c.state else if c.holds.link then .offline
        else if c.holds.alarm ∨ c.holds.safeStop then .hold else .idle } := by
  rw [HeadCtx.followHolds_eq]
  cases hl : c.holds.link <;> simp [Holds.state, Holds.any, hl]

/-- R44: PAUSE NOW of a head, before the frame that it queues. -/
theorem State.pauseHead_now (s : State) (h : Head) : s.pauseHead h .now =
    (s.updateHead h fun c => { c with pause := some .now }.addOperator).abortCause h := by
  cases h <;> rfl

theorem State.pauseHead_afterBond (s : State) (h : Head) : s.pauseHead h .afterBond =
    s.updateHead h fun c => { c with pause := some .afterBond }.addOperator := by
  cases h <;> rfl

theorem State.pauseHead_afterUnit (s : State) (h : Head) : s.pauseHead h .afterUnit =
    s.updateHead h fun c => if c.claim = none then { c with pause := some .afterUnit }.addOperator
      else { c with pause := some .afterUnit } := by
  unfold State.pauseHead
  dsimp only
  rw [State.head_updateHead_self]
  by_cases hc : (s.head h).claim = none
  · rw [if_pos hc]
    cases h <;> simp_all [State.updateHead, State.setHead, State.head]
  · rw [if_neg hc]
    cases h <;> simp_all [State.updateHead, State.setHead, State.head]

/-! ## RETRY -/

/-- R46: RETRY ends the condition of the nonstick alarm of the last bond. -/
theorem State.retryHead_eq (s : State) (h : Head) : s.retryHead h =
    if (s.head h).last.any (fun y => y.cls = .nonstick ∧ y.kind = .ball) = true then
      s.conditionGone .nonstickBall (.head h)
    else if (s.head h).last.any (fun y => y.cls = .nonstick ∧ y.kind = .stitch) = true then
      s.conditionGone .nonstickStitch (.head h)
    else s := by
  unfold State.retryHead
  cases (s.head h).last with
  | none => rfl
  | some y =>
    by_cases hy : y.cls = .nonstick
    · cases hk : y.kind <;> simp [hy, hk, nonstickAlarm]
    · simp [hy]

/-- R46: what RETRY does outside the track and the ports does not depend on them. -/
theorem State.retryHead_of_track (s : State) (d : Track) (p : Ports) (h : Head) :
    ({ s with track := d, ports := p } : State).retryHead h =
      { s.retryHead h with track := d, ports := (({ s with ports := p } : State).retryHead h).ports } := by
  have head : ({ s with track := d, ports := p } : State).head h = s.head h := by cases h <;> rfl
  have head' : ({ s with ports := p } : State).head h = s.head h := by cases h <;> rfl
  rw [State.retryHead_eq, State.retryHead_eq, State.retryHead_eq, head, head']
  split
  · simp only [State.conditionGone_eq]
  · split
    · simp only [State.conditionGone_eq]
    · rfl

theorem State.retryHead_heldOnly (s : State) (h k : Head) : HeldOnly (s.head k) ((s.retryHead h).head k) := by
  rw [State.retryHead_eq]
  split
  · exact s.conditionGone_heldOnly _ _ _
  · split
    · exact s.conditionGone_heldOnly _ _ _
    · exact .refl _

theorem State.retryHead_frame (s : State) (h : Head) : Frame leaveBlocks s (s.retryHead h) := by
  rw [State.retryHead_eq]
  exact Frame.ite (s.conditionGone_frame _ _) (Frame.ite (s.conditionGone_frame _ _) (Frame.refl _ _))

/-! ## The gate -/

/-- R100: the judging of a held request changes the track and the ports alone. -/
theorem State.releaseGate_eq (s : State) :
    s.releaseGate = { s with track := s.releaseGate.track, ports := s.releaseGate.ports } := by
  unfold State.releaseGate
  cases s.track.held with
  | none => rfl
  | some q =>
    dsimp only
    split
    · unfold State.forwardIndex
      dsimp only
      split <;> rfl
    · rfl

theorem State.releaseGate_bond (s : State) : s.releaseGate.track.bond = s.track.bond := by
  unfold State.releaseGate
  cases s.track.held with
  | none => rfl
  | some q =>
    dsimp only
    split
    · unfold State.forwardIndex
      dsimp only
      split <;> rfl
    · rfl

/-- R100, R103: what is queued behind the judging of a held request. -/
theorem GateJudged.behind {s g t : State} (h : GateJudged id s g) (f : Ports → Ports)
    (ht : t.track = g.track) (hp : t.ports = f g.ports) : GateJudged f s t := by
  obtain ⟨h0, h1⟩ := h
  refine ⟨fun hn => ?_, fun q hq => ?_⟩
  · obtain ⟨track, ports⟩ := h0 hn
    exact ⟨ht.trans track, hp.trans (congrArg f ports)⟩
  · have h1 := h1 q hq
    rw [ht, hp]
    split at h1
    · next hr => rw [if_pos hr]; exact ⟨h1.1, congrArg f h1.2⟩
    · next hr =>
      rw [if_neg hr]
      split at h1
      · next room => rw [if_pos room]; exact ⟨h1.1, congrArg f h1.2⟩
      · next room => rw [if_neg room]; exact ⟨h1.1, congrArg f h1.2⟩

/-! ## REJECT-UNIT -/

/-- R47, R29: the head whose unit is rejected, its claim ended. -/
def HeadCtx.rejected (c : HeadCtx) : HeadCtx :=
  { (if c.pause = some .afterUnit then c.addOperator else c) with claim := none }

theorem HeadCtx.rejected_eq {c d : HeadCtx} (hd : d = { c with claim := none }) :
    (if d.pause = some .afterUnit then d.addOperator else d) = c.rejected := by
  subst hd
  unfold HeadCtx.rejected
  split <;> simp [HeadCtx.addOperator_eq]

theorem HeadCtx.rejected_last (c : HeadCtx) : c.rejected.last = c.last := by
  unfold HeadCtx.rejected
  split <;> simp [HeadCtx.addOperator_eq]

/-- R47, R78: the state in which the claim of a rejected unit has ended, before the gate is judged. -/
def State.unitRejected (s : State) (h : Head) (u : Nat) : State :=
  { s.setHead h (s.head h).rejected with
    track := { s.track with bond := s.track.bond.map fun x => x.updateUnit u fun r => { r with state := .reject } }
    store := { s.store with records := s.store.records.map fun r =>
      if (s.track.bond.any fun x => r.strip == x.id && r.unit == u) then { r with pinned := false } else r } }

/-- R47: REJECT-UNIT of a head with a claim. -/
theorem State.rejectHeadUnit_some (s : State) (h : Head) (u : Nat) (hu : (s.head h).claim = some u) :
    s.rejectHeadUnit h = ((s.unitRejected h u).releaseGate).retryHead h := by
  have head := HeadCtx.rejected_eq (c := s.head h) rfl
  unfold State.rejectHeadUnit
  simp only [hu, State.claimEnded]
  congr 2
  unfold State.unitRejected
  rw [← head]
  cases hx : s.track.bond with
  | none => cases h <;> simp [State.updateHead, State.setHead, State.updateUnit, State.head, hx] <;> rfl
  | some x =>
    cases h <;> simp [State.updateHead, State.setHead, State.updateUnit, State.head, hx, State.releaseUnit,
      State.releasePins, Strip.updateUnit] <;> rfl

theorem State.unitRejected_frame (s : State) (h : Head) (u : Nat) :
    Frame [.headA, .headB, .store, .track] s (s.unitRejected h u) := by
  cases h <;> simp [Frame, State.unitRejected, State.setHead]

theorem State.rejectHeadUnit_frame (s : State) (h : Head) :
    Frame [.headA, .headB, .store, .track, .alarms, .term, .ports] s (s.rejectHeadUnit h) := by
  cases hc : (s.head h).claim with
  | none =>
    rw [State.rejectHeadUnit, hc]
    exact (s.retryHead_frame h).mono (by simp)
  | some u =>
    rw [State.rejectHeadUnit_some s h u hc]
    exact ((s.unitRejected_frame h u).mono (by simp)).trans
      (((State.releaseGate_frame _).mono (by simp)).trans ((State.retryHead_frame _ h).mono (by simp)))

/-- R46, R47: RETRY looks at the last bond alone, and REJECT-UNIT leaves it. -/
theorem State.retryHead_unitRejected (s : State) (h : Head) (u : Nat) (p : Ports) :
    (({ s.unitRejected h u with ports := p } : State).retryHead h).ports =
      (({ s with ports := p } : State).retryHead h).ports ∧
    (({ s.unitRejected h u with ports := p } : State).retryHead h).alarms = (s.retryHead h).alarms := by
  have last : (({ s.unitRejected h u with ports := p } : State).head h).last = (s.head h).last := by
    cases h <;> exact HeadCtx.rejected_last _
  have last' : (({ s with ports := p } : State).head h).last = (s.head h).last := by cases h <;> rfl
  rw [State.retryHead_eq, State.retryHead_eq, State.retryHead_eq, last, last']
  split
  · simp only [State.conditionGone_eq]
    cases h <;> exact ⟨rfl, rfl⟩
  · split
    · simp only [State.conditionGone_eq]
      cases h <;> exact ⟨rfl, rfl⟩
    · cases h <;> exact ⟨rfl, rfl⟩

/-- R47, R29, R100: REJECT-UNIT is RETRY behind the judging of the gate. -/
theorem State.rejectHeadUnit_blocks (s : State) (h : Head) (u : Nat) (hu : (s.head h).claim = some u) :
    let v := s.unitRejected h u
    s.rejectHeadUnit h = { v.retryHead h with
      track := v.releaseGate.track
      ports := (({ s with ports := v.releaseGate.ports } : State).retryHead h).ports } := by
  intro v
  rw [State.rejectHeadUnit_some s h u hu, State.releaseGate_eq, State.retryHead_of_track,
    (s.retryHead_unitRejected h u _).1]

theorem State.rejectHeadUnit_claim (s : State) (h : Head) : ((s.rejectHeadUnit h).head h).claim = none := by
  cases hc : (s.head h).claim with
  | none =>
    rw [State.rejectHeadUnit, hc]
    exact ((s.retryHead_heldOnly h h).sameWork.1).trans hc
  | some u =>
    rw [State.rejectHeadUnit_blocks s h u hc]
    refine Eq.trans ?_ ((s.unitRejected h u).retryHead_heldOnly h h).sameWork.1 |>.trans ?_
    · cases h <;> rfl
    · cases h <;> rfl

/-- R47: the unit of the claim becomes REJECT. -/
theorem State.rejectHeadUnit_bond (s : State) (h : Head) : (s.rejectHeadUnit h).track.bond =
    match (s.head h).claim with
    | none => s.track.bond
    | some u => s.track.bond.map fun x => { x with
        units := x.units.modify u fun r => { r with state := .reject } } := by
  cases hc : (s.head h).claim with
  | none =>
    rw [State.rejectHeadUnit, hc]
    exact congrArg Track.bond ((s.retryHead_frame h).2.2.2.2.2.2.2.1 (by simp))
  | some u =>
    rw [State.rejectHeadUnit_blocks s h u hc]
    exact (s.unitRejected h u).releaseGate_bond

theorem State.rejectHeadUnit_alarms (s : State) (h : Head) :
    (s.rejectHeadUnit h).alarms = (s.retryHead h).alarms := by
  cases hc : (s.head h).claim with
  | none => rw [State.rejectHeadUnit, hc]
  | some u =>
    rw [State.rejectHeadUnit_blocks s h u hc]
    exact (s.retryHead_unitRejected h u (s.unitRejected h u).ports).2

/-! ## The statement -/

/-- R44: PAUSE NOW. -/
theorem State.pauseHead_now_head (s : State) (h : Head) : ((s.pauseHead h .now).head h) =
      { s.head h with pause := some .now }.addOperator.cut ∧
    (s.pauseHead h .now).ports =
      if (s.head h).state = .armed ∨ (s.head h).state = .inBond then (s.send h.port .abort).ports
      else s.ports := by
  have same := HeadCtx.addOperator_cuttable { s.head h with pause := some .now }
  rw [State.pauseHead_now, State.abortCause_eq]
  refine ⟨by cases h <;> rfl, ?_⟩
  simp only [State.head_updateHead_self, same, HeadState.cuttable_iff]
  cases h <;> rfl

/-- Settles O50: each choice is read off the head it works on; REJECT-UNIT is RETRY behind the judging of the
gate, over the state in which the claim has ended. -/
theorem operatorChoices : Obligations.OperatorChoices := by
  unfold Obligations.OperatorChoices
  intro h s c flying held cut
  have added (m : PauseMode) : { c with pause := some m }.addOperator = { held with pause := some m } := by
    rw [HeadCtx.addOperator_eq]
  refine ⟨⟨?_, ?_, (s.pauseHead_now_head h).2⟩, ⟨?_, ?_⟩, ⟨?_, ?_⟩, ⟨?_, ?_⟩, s.retryHead_eq h,
    ⟨fun hc => ?_, fun u hu => ?_, s.rejectHeadUnit_claim h, s.rejectHeadUnit_bond h, s.rejectHeadUnit_alarms h,
      ?_⟩, ?_⟩
  · rw [State.pauseHead_now]
    exact (State.updateHead_frame _ h _).comp (State.abortCause_frame _ h) (by simp) (by simp)
  · rw [(s.pauseHead_now_head h).1, added]
    have same : ({ held with pause := some .now } : HeadCtx).state.cuttable = c.state.cuttable := by
      rw [← added]
      exact HeadCtx.addOperator_cuttable { c with pause := some .now }
    by_cases hs : cut
    · rw [if_pos hs, HeadCtx.cut_of_cuttable _ (by rw [same, HeadState.cuttable_iff]; exact hs)]
    · rw [if_neg hs, HeadCtx.cut_of_not_cuttable _ (by
        rw [same, ← Bool.not_eq_true, HeadState.cuttable_iff]; exact hs)]
  · rw [State.pauseHead_afterBond]
    exact State.updateHead_frame _ h _
  · rw [State.pauseHead_afterBond, State.head_updateHead_self, added]
  · rw [State.pauseHead_afterUnit]
    exact State.updateHead_frame _ h _
  · rw [State.pauseHead_afterUnit, State.head_updateHead_self, added]
    split <;> rfl
  · exact State.updateHead_frame _ h _
  · rw [State.resumeHead, State.head_updateHead_self, HeadCtx.resumed_eq]
  · rw [State.rejectHeadUnit, hc]
  · have hu : (s.head h).claim = some u := hu
    intro ended ofUnit records v
    have hv : s.unitRejected h u = v := by
      have he : (s.head h).rejected = ended := by rw [HeadCtx.rejected, HeadCtx.addOperator_eq]
      rw [State.unitRejected, he]
      rfl
    have blocks := s.rejectHeadUnit_blocks h u hu
    rw [hv] at blocks
    refine ⟨⟨?_, ?_, ?_, ?_⟩, ?_, ?_, s.rejectHeadUnit_frame h⟩
    · rw [blocks]
    · rw [blocks]
    · rw [blocks]
    · rw [blocks]
    · rw [blocks]
      exact (v.retryHead_frame h).2.2.2.2.2.2.1 (by simp)
    · exact v.releaseGate_judges.behind _ (by rw [blocks]) (by rw [blocks])
  · obtain ⟨-, ht, -, -, ha, hb, -, -, hp, -, -, -, hm⟩ := s.rejectHeadUnit_frame h
    exact ⟨hp (by simp), ht (by simp), ha (by simp), hb (by simp), hm (by simp)⟩
  · rw [State.releasePull, State.conditionGone_eq, State.conditionGone_eq]
    cases h <;> rfl

end Sys2Proof.Machine
end

section
/-! SUPPORT. The head keys and the head operations as CONTROL requests: the statement (R157 to R160). -/

namespace Sys2Proof.Machine

/-! ## Operations that leave the message of the terminal -/

/-- `t` is `s` with the message NONE and other fields marked. -/
def Unmessaged (s t : State) : Prop :=
  t = { s with term := { s.term with denied := false, changed := t.term.changed } }

/-- R157 step 1. -/
theorem State.beginKey_unmessaged (s : State) : Unmessaged s s.beginKey := by
  unfold Unmessaged
  by_cases hd : s.term.denied = true
  · rw [State.beginKey, if_pos hd, Terminal.mark]
    split <;> rfl
  · have silent : s.beginKey = s := by rw [State.beginKey, if_neg hd]
    have hd : s.term.denied = false := by simpa using hd
    rw [silent, ← hd]

/-- An operation of a head key: it works the same whatever the message and the marked fields are, and changes
nothing but the blocks of the key. -/
structure KeyOp (f : State → State) : Prop where
  unmessaged {s t : State} : Unmessaged s t → Unmessaged (f s) (f t)
  frame (s : State) : Frame [.headA, .headB, .track, .store, .puller, .alarms, .term, .ports] s (f s)

/-- An operation that works beside the terminal server keeps to it. -/
theorem Unmessaged.beside {f : State → State}
    (hf : ∀ (u : State) (x : Terminal), f { u with term := x } = { f u with term := x }) {s t : State}
    (h : Unmessaged s t) : Unmessaged (f s) (f t) := by
  have term : (f s).term = s.term := by
    have same := congrArg State.term (hf s s.term)
    exact same
  unfold Unmessaged at h ⊢
  generalize t.term.changed = l at h
  subst h
  rw [hf, term]

theorem Unmessaged.trans {s t u : State} (h : Unmessaged s t) (k : Unmessaged t u) : Unmessaged s u := by
  unfold Unmessaged at h k ⊢
  generalize t.term.changed = l at h
  subst h
  exact k

theorem Unmessaged.conditionGone {s t : State} (h : Unmessaged s t) (c : AlarmClass) (o : AlarmObject) :
    Unmessaged (s.conditionGone c o) (t.conditionGone c o) := by
  unfold Unmessaged at h ⊢
  generalize t.term.changed = l at h
  subst h
  rw [State.conditionGone_eq, State.conditionGone_eq]
  dsimp only
  cases (s.alarms.over c o).2 with
  | none => rfl
  | some y =>
    simp only [Option.elim_some]
    congr 1
    rw [Terminal.listChanged_eq s.term]
    exact Terminal.listChanged_eq _ _

theorem Unmessaged.head {s t : State} (h : Unmessaged s t) (k : Head) : t.head k = s.head k := by
  rw [h]; cases k <;> rfl

theorem Unmessaged.blocks {s t : State} (h : Unmessaged s t) : t.headA = s.headA ∧ t.headB = s.headB ∧
    t.alarms = s.alarms ∧ t.track = s.track ∧ t.store = s.store ∧ t.puller = s.puller := by
  rw [h]; exact ⟨rfl, rfl, rfl, rfl, rfl, rfl⟩

theorem Unmessaged.retryHead {s t : State} (h : Unmessaged s t) (k : Head) :
    Unmessaged (s.retryHead k) (t.retryHead k) := by
  rw [State.retryHead_eq, State.retryHead_eq, h.head]
  split
  · exact h.conditionGone _ _
  · split
    · exact h.conditionGone _ _
    · exact h

/-! ## The operations -/

theorem KeyOp.pauseHead (h : Head) (m : PauseMode) : KeyOp fun u => u.pauseHead h m where
  unmessaged := Unmessaged.beside (f := fun u => u.pauseHead h m) fun u x => by
    cases m
    · simp only [State.pauseHead_now, State.abortCause_eq]; cases h <;> rfl
    · cases h <;> rfl
    · simp only [State.pauseHead_afterUnit]; cases h <;> rfl
  frame s := by
    have hh : ∀ b, b ∈ [headBlock h] →
        b ∈ [Block.headA, .headB, .track, .store, .puller, .alarms, .term, .ports] := by
      cases h <;> simp [headBlock]
    cases m
    · rw [State.pauseHead_now]
      exact ((State.updateHead_frame _ h _).mono hh).trans ((State.abortCause_frame _ h).mono (by
        cases h <;> simp [headBlock]))
    · rw [State.pauseHead_afterBond]; exact (State.updateHead_frame _ h _).mono hh
    · rw [State.pauseHead_afterUnit]; exact (State.updateHead_frame _ h _).mono hh

theorem KeyOp.resumeHead (h : Head) : KeyOp fun u => u.resumeHead h where
  unmessaged := Unmessaged.beside (f := fun u => u.resumeHead h) fun u x => by cases h <;> rfl
  frame s := (State.updateHead_frame s h _).mono (by cases h <;> simp [headBlock])

theorem KeyOp.retryHead (h : Head) : KeyOp fun u => u.retryHead h where
  unmessaged k := k.retryHead h
  frame s := (s.retryHead_frame h).mono (by simp)

theorem KeyOp.releasePull (h : Head) : KeyOp fun u => u.releasePull h where
  unmessaged k := Unmessaged.conditionGone (Unmessaged.beside
    (f := fun u => { u with puller := u.puller.setRun h 0 }) (fun _ _ => rfl) k) .pullFail (.head h)
  frame s := Frame.trans (by simp [Frame]) ((State.conditionGone_frame _ .pullFail (.head h)).mono (by simp))

/-- R103: the forwarding of a request does not look at the terminal server. -/
theorem State.forwardIndex_term (s : State) (x : Terminal) (k : IndexKind) :
    ({ s with term := x } : State).forwardIndex k = { s.forwardIndex k with term := x } := by
  have port : ({ s with term := x } : State).port .ix = s.port .ix := rfl
  unfold State.forwardIndex
  simp only [port]
  cases (s.port .ix).hasRoom .ix false <;> rfl

/-- R100: the gate does not look at the terminal server. -/
theorem State.releaseGate_term (s : State) (x : Terminal) :
    ({ s with term := x } : State).releaseGate = { s.releaseGate with term := x } := by
  have reasons (k : IndexKind) : ({ s with term := x } : State).blockingReasons k = s.blockingReasons k := rfl
  unfold State.releaseGate
  dsimp only
  cases s.track.held with
  | none => rfl
  | some q =>
    simp only [reasons]
    cases (s.blockingReasons q.kind).empty
    · rfl
    · exact State.forwardIndex_term { s with track := { s.track with held := none, holdTimer := none } } x q.kind

theorem KeyOp.rejectHeadUnit (h : Head) : KeyOp fun u => u.rejectHeadUnit h where
  unmessaged {s t} k := by
    cases hc : (s.head h).claim with
    | none =>
      have hc' : (t.head h).claim = none := by rw [k.head]; exact hc
      simpa only [State.rejectHeadUnit, hc, hc'] using k.retryHead h
    | some u =>
      have hc' : (t.head h).claim = some u := by rw [k.head]; exact hc
      simp only [State.rejectHeadUnit_some _ _ _ hc, State.rejectHeadUnit_some _ _ _ hc']
      have moved : Unmessaged (s.unitRejected h u) (t.unitRejected h u) :=
        k.beside (f := fun v => v.unitRejected h u) fun v x => by cases h <;> rfl
      exact (moved.beside State.releaseGate_term).retryHead h
  frame s := (s.rejectHeadUnit_frame h).mono (by simp)

/-! ## Keys -/

/-- R157, R159: the key was DENIED. -/
def KeyDenied (s : State) (c : Instr) (k x y : Byte) (t : State) : Prop :=
  Frame [.ports, .term] s t ∧
    t.term = { s.term with denied := true, changed := t.term.changed } ∧
    t.ports = ((s.takeRx .ot c).send .u (.keyNote k x y .denied)).ports

/-- R157 to R159: the key was carried out. -/
def KeyActs (s : State) (c : Instr) (k x y : Byte) (op : State → State) (t : State) : Prop :=
  let u := op (s.takeRx .ot c)
  t.term = { u.term with denied := false, changed := t.term.changed } ∧
    t.ports = (u.send .u (.keyNote k x y .done)).ports ∧ t.headA = u.headA ∧ t.headB = u.headB ∧
    t.alarms = u.alarms ∧ t.track = u.track ∧ t.store = u.store ∧ t.puller = u.puller ∧
    Frame [.headA, .headB, .track, .store, .puller, .alarms, .term, .ports] s t

theorem denyKey_denied (s : State) (c : Instr) (k x y : Byte) :
    KeyDenied s c k x y (((s.takeRx .ot c).denyKey k x y).markChanges s) := by
  refine ⟨((s.takeRx_frame _ _).comp (State.denyKey_frame _ k x y) (by simp) (by simp)).markChanges s, ?_, ?_⟩
  · have like := congrArg State.term (State.markChanges_like ((s.takeRx .ot c).denyKey k x y) s)
    have denied : ((s.takeRx .ot c).denyKey k x y).term =
        { s.term with denied := true, changed := ((s.takeRx .ot c).denyKey k x y).term.changed } := by
      have begun := congrArg State.term (s.takeRx .ot c).beginKey_unmessaged
      unfold State.denyKey State.endKey
      simp only [State.send_term, Terminal.deny, Terminal.mark]
      generalize (s.takeRx .ot c).beginKey.term = d at begun ⊢
      rw [begun]
      split <;> rfl
    rw [like]
    generalize (((s.takeRx .ot c).denyKey k x y).markChanges s).term.changed = l
    rw [denied]
  · rw [State.markChanges_ports]
    rfl

theorem endKey_acts (s : State) (c : Instr) (k x y : Byte) {f : State → State} (hf : KeyOp f) :
    KeyActs s c k x y f (((f (s.takeRx .ot c).beginKey).endKey k x y .done).markChanges s) := by
  have same := hf.unmessaged (s.takeRx .ot c).beginKey_unmessaged
  have begun : Frame [.term] (s.takeRx .ot c) (s.takeRx .ot c).beginKey := by simp [Frame, State.beginKey]
  have frame : Frame [.headA, .headB, .track, .store, .puller, .alarms, .term, .ports] s
      (((f (s.takeRx .ot c).beginKey).endKey k x y .done).markChanges s) :=
    (((s.takeRx_frame _ _).mono (by simp)).trans ((begun.mono (by simp)).trans ((hf.frame _).trans
      ((State.send_frame _ _ _).mono (by simp))))).markChanges s
  have like := congrArg State.term (State.markChanges_like ((f (s.takeRx .ot c).beginKey).endKey k x y .done) s)
  obtain ⟨headA, headB, alarms, track, store, puller⟩ := same.blocks
  unfold Unmessaged at same
  refine ⟨?_, ?_, ?_, ?_, ?_, ?_, ?_, ?_, frame⟩
  · rw [like]
    generalize (((f (s.takeRx .ot c).beginKey).endKey k x y .done).markChanges s).term.changed = l
    change { (f (s.takeRx .ot c).beginKey).term with changed := l } = _
    rw [same]
  · rw [State.markChanges_ports]
    change ((f (s.takeRx .ot c).beginKey).send _ _).ports = _
    rw [same]
    rfl
  · exact (State.markChanges_headA _ s).trans headA
  · exact (State.markChanges_headB _ s).trans headB
  · exact (State.markChanges_alarms _ s).trans alarms
  · exact (State.markChanges_track _ s).trans track
  · exact (State.markChanges_store _ s).trans store
  · exact (State.markChanges_puller _ s).trans puller

/-- R157 to R159: a key that needs an operator level and an operand. -/
theorem exec_key {α : Type} {s : State} {c : Instr} {n : Nat} {o : Option α} {k x y : Byte}
    {op : α → State → State} {f : State → State} {P : Prop} [Decidable P]
    (hx : exec c s = .next (s.taken .ot c fun u => u.takeKey n o k x y fun a u => (op a u, .done)))
    (ht : s.inTurn .ot c = true) (hP : P ↔ s.term.level < n ∨ o = none) (hf : ∀ a ∈ o, op a = f)
    (hop : KeyOp f) :
    ∃ t, exec c s = .next t ∧ if P then KeyDenied s c k x y t else KeyActs s c k x y f t := by
  refine ⟨_, hx, ?_⟩
  rw [State.taken_inTurn _ _ _ _ ht]
  unfold State.takeKey
  rw [State.takeRx_term]
  by_cases hl : s.term.level < n
  · rw [if_pos hl, if_pos (hP.mpr (.inl hl))]
    exact denyKey_denied s c k x y
  · rw [if_neg hl]
    cases ho : o with
    | none =>
      rw [if_pos (hP.mpr (.inr ho))]
      exact denyKey_denied s c k x y
    | some a =>
      rw [if_neg (fun p => (hP.mp p).elim hl (by simp [ho]))]
      dsimp only
      rw [hf a ho]
      exact endKey_acts s c k x y hop

/-- R47, R158: the key REJECT-UNIT, DENIED in flight. -/
theorem exec_keyRejectUnit (x : Byte) (s : State) (ht : s.inTurn .ot (.keyRejectUnit x) = true) :
    ∃ t, exec (.keyRejectUnit x) s = .next t ∧
      if s.term.level < 1 ∨ headOf x = none ∨ (s.head ((headOf x).getD .a)).state.inFlight = true then
        KeyDenied s (.keyRejectUnit x) 7 x 0 t
      else KeyActs s (.keyRejectUnit x) 7 x 0 (fun u => u.rejectHeadUnit ((headOf x).getD .a)) t := by
  have denied : KeyDenied s (.keyRejectUnit x) 7 x 0 _ := denyKey_denied s (.keyRejectUnit x) 7 x 0
  refine ⟨_, rfl, ?_⟩
  rw [State.taken_inTurn _ _ _ _ ht]
  unfold State.takeKey
  rw [State.takeRx_term]
  by_cases hl : s.term.level < 1
  · rw [if_pos hl, if_pos (.inl hl)]
    exact denied
  · rw [if_neg hl]
    cases ho : headOf x with
    | none =>
      rw [if_pos (.inr (.inl rfl))]
      exact denied
    | some h =>
      have same : (s.takeRx .ot (.keyRejectUnit x)).beginKey.head h = s.head h := by cases h <;> rfl
      dsimp only [Option.getD_some]
      rw [same]
      by_cases hfl : (s.head h).state.inFlight = true
      · rw [if_pos hfl, if_pos (.inr (.inr hfl))]
        exact denied
      · rw [if_neg hfl, if_neg (by simp [hl, hfl])]
        exact endKey_acts s (.keyRejectUnit x) 7 x 0 (KeyOp.rejectHeadUnit h)

theorem pauseModeOf_eq_none (x : Byte) : pauseModeOf x = none ↔ 2 < x.toNat := by
  simp only [pauseModeOf, ← BitVec.toNat_inj]
  split
  · simp_all
  · split
    · simp_all
    · split
      · simp_all
      · simp_all; omega

/-! ## CONTROL requests -/

/-- R160, R179: a CONTROL request over an operand, refused RANGE where it names nothing. -/
theorem exec_control {α : Type} {s : State} {c : Instr} {tag : Byte} {o : Option α}
    {op : α → State → State} {f : State → State} {P : Prop} [Decidable P]
    (hx : exec c s = .next (s.controlOn c tag o fun a u => (op a u, .accepted)))
    (ht : s.inTurn .u c = true) (hP : P ↔ o = none) (hf : ∀ a ∈ o, op a = f) :
    ∃ t, exec c s = .next t ∧
      if P then Frame [.ports] s t ∧ t.ports = ((s.takeRx .u c).reply 3 tag (.refused .range)).ports
      else Like ((f (s.takeRx .u c)).reply 3 tag .accepted) t := by
  refine ⟨_, hx, ?_⟩
  rw [State.controlOn, State.control, State.request, State.taken_inTurn _ _ _ _ ht]
  cases ho : o with
  | none =>
    rw [if_pos (hP.mpr ho)]
    exact ⟨((s.takeRx_frame _ _).trans (State.reply_frame _ _ _ _)).markChanges s, State.markChanges_ports _ s⟩
  | some a =>
    rw [if_neg (fun p => by simp [hP.mp p] at ho)]
    dsimp only
    rw [hf a ho]
    exact State.markChanges_like _ s

/-- R47, R160: REJECT-UNIT as a CONTROL request, BUSY in flight. -/
theorem exec_controlRejectUnit (tag x : Byte) (s : State)
    (ht : s.inTurn .u (.controlRejectUnit tag x) = true) :
    let refused (r : Reason) (t : State) : Prop := Frame [.ports] s t ∧
      t.ports = ((s.takeRx .u (.controlRejectUnit tag x)).reply 3 tag (.refused r)).ports
    ∃ t, exec (.controlRejectUnit tag x) s = .next t ∧
      if headOf x = none then refused .range t
      else if (s.head ((headOf x).getD .a)).state.inFlight then refused .busy t
      else Like (((s.takeRx .u (.controlRejectUnit tag x)).rejectHeadUnit ((headOf x).getD .a)).reply 3 tag
        .accepted) t := by
  intro refused
  have refusal (r : Reason) :
      refused r (((s.takeRx .u (.controlRejectUnit tag x)).reply 3 tag (.refused r)).markChanges s) :=
    ⟨((s.takeRx_frame _ _).trans (State.reply_frame _ _ _ _)).markChanges s, State.markChanges_ports _ s⟩
  refine ⟨_, rfl, ?_⟩
  rw [State.controlOn, State.control, State.request, State.taken_inTurn _ _ _ _ ht]
  cases headOf x with
  | none => exact refusal .range
  | some h =>
    rw [if_neg (by simp)]
    dsimp only [Option.getD_some]
    rw [State.takeRx_head]
    by_cases hfl : (s.head h).state.inFlight = true
    · rw [if_pos hfl, if_pos hfl]
      exact refusal .busy
    · rw [if_neg hfl, if_neg hfl]
      exact State.markChanges_like _ s

/-! ## The statement -/

/-- R44, R158: the operands of a PAUSE. -/
theorem pauseOperand_eq_none (x mode : Byte) :
    (headOf x = none ∨ 2 < mode.toNat) ↔
      ((headOf x).bind fun h => (pauseModeOf mode).map fun m => (h, m)) = none := by
  rw [← pauseModeOf_eq_none]
  cases headOf x <;> cases pauseModeOf mode <;> simp

theorem pauseOperand_some {x mode : Byte} {a : Head × PauseMode}
    (ha : a ∈ (headOf x).bind fun h => (pauseModeOf mode).map fun m => (h, m)) :
    a = ((headOf x).getD .a, (pauseModeOf mode).getD .now) := by
  cases hx : headOf x <;> cases hm : pauseModeOf mode <;> simp_all

theorem headOperand_some {x : Byte} {h : Head} (ha : h ∈ headOf x) : h = (headOf x).getD .a := by
  rw [Option.mem_def.mp ha]; rfl

/-- Settles O49: each key and each request is the operation of its block, over its operands. -/
theorem headKeysAndControls : Obligations.HeadKeysAndControls := by
  unfold Obligations.HeadKeysAndControls
  refine ⟨fun x mode code s => ?_, fun tag x mode s => ?_⟩
  · intro denied acts h
    refine ⟨fun ht => ?_, fun ht => ?_, fun ht => ?_, exec_keyRejectUnit x s, fun ht => ?_, fun ht => ?_⟩
    · exact exec_key (op := fun y u => u.pauseHead y.1 y.2) rfl ht
        (or_congr_right (pauseOperand_eq_none x mode)) (fun _ ha => by rw [pauseOperand_some ha])
        (KeyOp.pauseHead _ _)
    · exact exec_key (op := fun y u => u.resumeHead y) rfl ht Iff.rfl
        (fun _ ha => by rw [headOperand_some ha]) (KeyOp.resumeHead _)
    · exact exec_key (op := fun y u => u.retryHead y) rfl ht Iff.rfl
        (fun _ ha => by rw [headOperand_some ha]) (KeyOp.retryHead _)
    · exact exec_key (op := fun y u => u.releasePull y) rfl ht Iff.rfl
        (fun _ ha => by rw [headOperand_some ha]) (KeyOp.releasePull _)
    · refine ⟨_, rfl, ?_⟩
      rw [State.taken_inTurn _ _ _ _ ht]
      exact denyKey_denied s _ code 0 0
  · intro h refused acts
    refine ⟨fun ht => ?_, fun ht => ?_, fun ht => ?_, exec_controlRejectUnit tag x s, fun ht => ?_⟩
    · exact exec_control (op := fun y u => u.pauseHead y.1 y.2) rfl ht (pauseOperand_eq_none x mode)
        (fun _ ha => by rw [pauseOperand_some ha])
    · exact exec_control (op := fun y u => u.resumeHead y) rfl ht Iff.rfl
        (fun _ ha => by rw [headOperand_some ha])
    · exact exec_control (op := fun y u => u.retryHead y) rfl ht Iff.rfl
        (fun _ ha => by rw [headOperand_some ha])
    · exact exec_control (op := fun y u => u.releasePull y) rfl ht Iff.rfl
        (fun _ ha => by rw [headOperand_some ha])

end Sys2Proof.Machine
end

section
/-! SUPPORT. The record of a close takes its place (R74, R75), and what is queued on port U stays queued
(R172). -/

namespace Sys2Proof.Machine

/-! ## The place of a record -/

/-- R74: a record is inserted behind the older ones and ahead of the younger ones. -/
theorem insertRecord_place (next : Nat) (r : BondRecord) (l : List BondRecord) :
    ∃ k ≤ l.length, insertRecord next r l = l.take k ++ r :: l.drop k ∧
      (∀ y ∈ l.take k, distanceBack next r.number ≤ distanceBack next y.number) ∧
      ∀ y ∈ l[k]?, distanceBack next y.number < distanceBack next r.number := by
  induction l with
  | nil => exact ⟨0, by simp [insertRecord]⟩
  | cons y l ih =>
    unfold insertRecord
    split
    · next hy => exact ⟨0, by simp [hy]⟩
    · next hy =>
      obtain ⟨k, hk, hl, hold, hyoung⟩ := ih
      refine ⟨k + 1, by simpa using hk, by simp [hl], ?_, by simpa using hyoung⟩
      intro z hz
      rcases List.mem_cons.mp hz with rfl | hz
      · exact not_lt.mp hy
      · exact hold z hz

/-- The first element that satisfies `f` leaves a list. -/
theorem dropFirst_eq_eraseIdx {α : Type} (f : α → Bool) (l : List α) (j : Nat) (z : α) (hz : l[j]? = some z)
    (hf : f z = true) (hl : ∀ y ∈ l.take j, f y = false) : dropFirst f l = l.eraseIdx j := by
  induction l generalizing j with
  | nil => simp at hz
  | cons x l ih =>
    cases j with
    | zero =>
      obtain rfl : x = z := by simpa using hz
      simp [dropFirst, hf]
    | succ j =>
      have hx : f x = false := hl x (by simp)
      simp only [dropFirst, hx, Bool.false_eq_true, if_false, List.eraseIdx_cons_succ]
      rw [ih j (by simpa using hz) fun y hy => hl y (by simp [hy])]

/-- The greatest element of a list, found by folding. -/
theorem foldl_max_eq (l : List Nat) (a m : Nat) (ha : a ≤ m) (hm : m ∈ l) (hl : ∀ x ∈ l, x ≤ m) :
    l.foldl max a = m := by
  induction l generalizing a with
  | nil => simp at hm
  | cons x l ih =>
    have hx : x ≤ m := hl x (by simp)
    rw [List.foldl_cons]
    by_cases hin : m ∈ l
    · exact ih (max a x) (max_le ha hx) hin fun y hy => hl y (by simp [hy])
    · obtain rfl : m = x := by simpa [hin] using hm
      rw [max_eq_right ha]
      clear ih ha hm hin hx
      induction l with
      | nil => rfl
      | cons y l ih =>
        rw [List.foldl_cons, max_eq_left (hl y (by simp))]
        exact ih fun z hz => hl z (by
          rcases List.mem_cons.mp hz with rfl | hz
          · simp
          · simp [hz])

/-- R75: the oldest UNPINNED record leaves a full store. -/
theorem makeRoom_full (next : Nat) (l : List BondRecord) (j : Nat) (z : BondRecord) (hz : l[j]? = some z)
    (hfull : 1024 ≤ l.length) (hp : z.pinned = false)
    (hold : ∀ y ∈ l, y.pinned = false → distanceBack next y.number ≤ distanceBack next z.number)
    (hfirst : ∀ y ∈ l.take j, y.pinned = true ∨ distanceBack next y.number < distanceBack next z.number) :
    makeRoom next l = l.eraseIdx j := by
  have oldest : oldestUnpinned next l = distanceBack next z.number := by
    refine foldl_max_eq _ 0 _ (Nat.zero_le _) ?_ ?_
    · exact List.mem_map.mpr ⟨z, List.mem_filter.mpr ⟨List.mem_of_getElem? hz, by simp [hp]⟩, rfl⟩
    · intro d hd
      obtain ⟨y, hy, rfl⟩ := List.mem_map.mp hd
      obtain ⟨hy, hyp⟩ := List.mem_filter.mp hy
      exact hold y hy (by simpa using hyp)
  refine (if_neg (not_lt.mpr hfull)).trans ?_
  rw [oldest]
  refine dropFirst_eq_eraseIdx _ l j z hz (by simp [hp]) fun y hy => ?_
  rcases hfirst y hy with h | h
  · simp [h]
  · simp [h.ne]

/-- R74, R75: a record that is written takes its place. -/
theorem Store.write_written (x : Store) (r : BondRecord) :
    RecordWritten x.nextRecord r x.records (x.write r).records := by
  obtain ⟨k, hk, hl, hold, hyoung⟩ := insertRecord_place x.nextRecord r (makeRoom x.nextRecord x.records)
  generalize hm : makeRoom x.nextRecord x.records = m at hk hl hold hyoung
  have new : (x.write r).records = m.take k ++ r :: m.drop k := by rw [Store.write, hm, hl]
  have length : (m.take k).length = k := List.length_take_of_le hk
  have erased : (m.take k ++ r :: m.drop k).eraseIdx k = m := by
    rw [List.eraseIdx_append_of_length_le (by rw [length]), length, Nat.sub_self, List.eraseIdx_cons_zero,
      List.take_append_drop]
  rw [new]
  refine ⟨k, ?_, ?_, ?_, ?_, fun h => ?_, fun j _ z hz hfull hp ho hf => ?_⟩
  · rw [List.mem_range, List.length_append, length, List.length_cons]
    omega
  · rw [List.getElem?_append_right (by rw [length]), length]
    simp
  · rwa [List.take_append_of_le_length (by rw [length]), List.take_of_length_le (by rw [length])]
  · rw [List.getElem?_append_right (by rw [length]; omega), length]
    simpa using hyoung
  · rw [erased, ← hm]
    exact if_pos h
  · rw [erased, ← hm]
    exact makeRoom_full _ _ j z hz hfull hp ho hf

/-! ## What is queued on port U -/

/-- A frame of a port's transmit queue. -/
def PortRec.Carries (p : PortRec) (m : Msg) : Prop := ∃ e ∈ p.tx, e.msg = m

theorem PortRec.carries_iff (p : PortRec) (m : Msg) :
    p.Carries m ↔ m ∈ (p.tx.map fun e => (e.msg, e.urgent)).map fun y => y.1 := by
  simp [PortRec.Carries, List.mem_map]

/-- R171: a frame that begins stays queued. -/
theorem PortRec.kick_carries (p : PortRec) (r : Rate) (m : Msg) : (p.kick r).Carries m ↔ p.Carries m := by
  rw [PortRec.carries_iff, PortRec.carries_iff, PortRec.kick_msgs]

/-- R172: a frame stays queued when another one comes. -/
theorem PortRec.enqueue_carries (p : PortRec) (x : Port) (r : Rate) (u : Bool) (m n : Msg)
    (h : p.Carries m) : (p.enqueue x r u n).Carries m := by
  unfold PortRec.enqueue
  split
  · exact h
  · have appended : PortRec.Carries { p with tx := p.tx ++ [TxEntry.mk n u false], sleepTimer := false } m := by
      obtain ⟨e, he, hm⟩ := h
      exact ⟨e, List.mem_append_left _ he, hm⟩
    dsimp only
    split
    · exact appended
    · exact (PortRec.kick_carries _ r m).mpr appended

/-- R172: a frame for which there is room is queued. -/
theorem PortRec.enqueue_self (p : PortRec) (x : Port) (r : Rate) (u : Bool) (m : Msg)
    (hs : p.state ≠ .down) (hr : p.hasRoom x u = true) : (p.enqueue x r u m).Carries m := by
  unfold PortRec.enqueue
  rw [if_neg (by simp [hs, hr])]
  have appended : PortRec.Carries { p with tx := p.tx ++ [TxEntry.mk m u false], sleepTimer := false } m :=
    ⟨⟨m, u, false⟩, by simp, rfl⟩
  dsimp only
  split
  · exact appended
  · exact (PortRec.kick_carries _ r m).mpr appended

theorem Ports.enqueue_carries (ps : Ports) (x : Port) (u : Bool) (m n : Msg) (h : ps.u.Carries m) :
    (ps.enqueue x u n).u.Carries m := by
  cases x
  case u => exact PortRec.enqueue_carries _ _ _ _ _ _ h
  all_goals exact h

theorem Ports.noted_carries (ps : Ports) (b : Bool) (c : AlarmClass) (o : AlarmObject) (n : Nat)
    (w : NoteEvent) (m : Msg) (h : ps.u.Carries m) : (ps.noted b c o n w).u.Carries m := by
  unfold Ports.noted
  split
  · exact ps.enqueue_carries _ _ _ _ h
  · exact h

theorem Ports.stopped_carries (ps : Ports) (a b : Bool) (held : Option HeldRequest) (m : Msg)
    (h : ps.u.Carries m) : (ps.stopped a b held).u.Carries m := by
  unfold Ports.stopped
  cases a <;> cases b <;> cases held <;>
    simp only [Bool.false_eq_true, if_false, if_true, Option.elim_none, Option.elim_some]
  all_goals repeat' apply Ports.enqueue_carries
  all_goals exact h

/-- R138, R144: a frame on port U stays queued behind a raise. -/
theorem State.raise_carries (s : State) (c : AlarmClass) (o : AlarmObject) (m : Msg)
    (h : s.ports.u.Carries m) : (s.raise c o).ports.u.Carries m := by
  rw [State.raise_eq]
  change (s.raisePorts c o).u.Carries m
  have noted := s.ports.noted_carries s.mgmt.started c o
    ((Alarms.find s.alarms.entries c o).elim (s.actionEntry c).level fun e => e.level) .raised m h
  unfold State.raisePorts
  dsimp only
  split
  · exact Ports.stopped_carries _ _ _ _ m noted
  · exact noted

/-- R100: a frame on port U stays queued behind the judging of the gate. -/
theorem State.releaseGate_carries (s : State) (m : Msg) (h : s.ports.u.Carries m) :
    s.releaseGate.ports.u.Carries m := by
  unfold State.releaseGate
  cases s.track.held with
  | none => exact h
  | some q =>
    dsimp only
    split
    · unfold State.forwardIndex
      dsimp only
      split
      · exact s.ports.enqueue_carries _ _ _ _ h
      · exact s.ports.enqueue_carries _ _ _ _ h
    · exact h

theorem State.claimEnded_carries (s : State) (h : Head) (m : Msg) (hc : s.ports.u.Carries m) :
    (s.claimEnded h).ports.u.Carries m :=
  State.releaseGate_carries _ m (by cases h <;> exact hc)

/-! ## Room on port U behind the alarms of a close -/

/-- R172: from port record `p` to `q` at most `k` frames came, `n` of them NORMAL, and the port is not newly
DOWN. -/
structure PortRec.Grows (k n : Nat) (p q : PortRec) : Prop where
  length : q.tx.length ≤ p.tx.length + k
  normals : q.normals ≤ p.normals + n
  live : p.state ≠ .down → q.state ≠ .down

theorem PortRec.Grows.refl (p : PortRec) : PortRec.Grows 0 0 p p := ⟨le_rfl, le_rfl, id⟩

theorem PortRec.Grows.trans {k n l m : Nat} {p q r : PortRec} (h : PortRec.Grows k n p q)
    (g : PortRec.Grows l m q r) : PortRec.Grows (k + l) (n + m) p r :=
  ⟨by have := h.length; have := g.length; omega, by have := h.normals; have := g.normals; omega,
    g.live ∘ h.live⟩

theorem PortRec.Grows.mono {k n l m : Nat} {p q : PortRec} (h : PortRec.Grows k n p q) (hk : k ≤ l)
    (hn : n ≤ m) : PortRec.Grows l m p q :=
  ⟨h.length.trans (by omega), h.normals.trans (by omega), h.live⟩

theorem PortRec.normals_eq (p : PortRec) :
    p.normals = ((p.tx.map fun e => (e.msg, e.urgent)).filter fun y => !y.2).length := by
  simp [PortRec.normals, List.filter_map, Function.comp_def]

theorem PortRec.normals_le (p : PortRec) : p.normals ≤ p.tx.length := by
  rw [PortRec.normals_eq]
  exact (List.length_filter_le _ _).trans (by simp)

theorem PortRec.kick_normals (p : PortRec) (r : Rate) : (p.kick r).normals = p.normals := by
  rw [PortRec.normals_eq, PortRec.normals_eq, PortRec.kick_msgs]

theorem PortRec.enqueue_grows (p : PortRec) (x : Port) (r : Rate) (u : Bool) (m : Msg) {n : Nat}
    (hn : u = false → 1 ≤ n) : PortRec.Grows 1 n p (p.enqueue x r u m) := by
  unfold PortRec.enqueue
  split
  · exact ⟨Nat.le_add_right _ _, Nat.le_add_right _ _, id⟩
  · have appended : PortRec.Grows 1 n p
        { p with tx := p.tx ++ [TxEntry.mk m u false], sleepTimer := false } := by
      refine ⟨by simp, ?_, id⟩
      cases u <;> simp [PortRec.normals] at hn ⊢
      exact hn
    dsimp only
    split
    · exact ⟨appended.length, appended.normals, fun _ => by simp⟩
    · exact ⟨by rw [PortRec.kick_length]; exact appended.length,
        by rw [PortRec.kick_normals]; exact appended.normals, fun h => by
          rw [PortRec.kick_state]; exact appended.live h⟩

theorem Ports.enqueue_u_ne (ps : Ports) (x : Port) (u : Bool) (m : Msg) (hx : x ≠ .u) :
    (ps.enqueue x u m).u = ps.u := ps.enqueue_ne x .u u m hx.symm

/-- R145: a note is URGENT. -/
theorem Ports.noted_grows (ps : Ports) (b : Bool) (c : AlarmClass) (o : AlarmObject) (n : Nat)
    (w : NoteEvent) : PortRec.Grows 1 0 ps.u (ps.noted b c o n w).u := by
  unfold Ports.noted
  split
  · exact ps.u.enqueue_grows _ _ _ _ (fun h => by cases h)
  · exact (PortRec.Grows.refl _).mono (by omega) le_rfl

/-- R110, R144: a SAFE-STOP tells port U of a held request alone. -/
theorem Ports.stopped_grows (ps : Ports) (a b : Bool) (held : Option HeldRequest) :
    PortRec.Grows held.toList.length held.toList.length ps.u (ps.stopped a b held).u := by
  have silent (p : Ports) (h : p.u = ps.u) : PortRec.Grows held.toList.length held.toList.length ps.u
      (held.elim p fun q => p.enqueue .u false (.indexRefused q.kind .stopped)).u := by
    cases held with
    | none => rw [← h]; exact PortRec.Grows.refl _
    | some q => rw [← h]; exact PortRec.enqueue_grows _ _ _ _ _ (fun _ => le_rfl)
  unfold Ports.stopped
  refine silent _ ?_
  cases a <;> cases b <;> simp [Ports.enqueue_u_ne]

/-- R138, R144, R172: what a raise queues on port U: its note, and the refusal of a request that was held. -/
theorem State.raise_grows (s : State) (c : AlarmClass) (o : AlarmObject) :
    PortRec.Grows (1 + (s.track.held.toList.length - (s.raise c o).track.held.toList.length))
      (s.track.held.toList.length - (s.raise c o).track.held.toList.length) s.ports.u (s.raise c o).ports.u := by
  have noted := s.ports.noted_grows s.mgmt.started c o
    ((Alarms.find s.alarms.entries c o).elim (s.actionEntry c).level fun e => e.level) .raised
  rw [State.raise_eq]
  dsimp only
  unfold State.raisePorts
  dsimp only
  cases hs : s.stops c o
  · simpa using noted.mono (by omega) le_rfl
  · have := noted.trans (Ports.stopped_grows _ s.headA.state.cuttable s.headB.state.cuttable s.track.held)
    simpa [Track.dropHeld] using this

end Sys2Proof.Machine
end

section
/-! SUPPORT. The close of a bond, field by field: what its alarms, its unit and its end leave (R33, R59, R64,
R65, R73). -/

namespace Sys2Proof.Machine

/-! ## The alarms of a close -/

/-- R110, R144: the requests held at the gate, as a number. -/
def Track.heldCount (t : Track) : Nat := t.held.toList.length

/-- From `s` to `t` up to `k` alarms were raised while head `h` stood as ABORTING; its weak run came to
`w`. -/
structure Alarmed (h : Head) (k w : Nat) (s t : State) : Prop where
  head : t.head h = { s.head h with holds := (t.head h).holds, weakRun := w }
  other : HeldOnly (s.head (otherHead h)) (t.head (otherHead h))
  engine : ∀ i, t.engine i = s.engine i
  store : t.store = s.store
  tables : t.tables = s.tables
  puller : t.puller = s.puller
  mgmt : t.mgmt = s.mgmt
  pending : t.pending = s.pending
  track : t.track = { s.track with held := t.track.held, holdTimer := t.track.holdTimer }
  held : t.track.heldCount ≤ s.track.heldCount
  quiet : safeStopStands t.alarms.entries = false →
    safeStopStands s.alarms.entries = false ∧ t.track = s.track ∧ t.port .ix = s.port .ix
  grows : PortRec.Grows (k + (s.track.heldCount - t.track.heldCount))
    (s.track.heldCount - t.track.heldCount) s.ports.u t.ports.u

theorem Alarmed.trans {h : Head} {k l v w : Nat} {s t u : State} (a : Alarmed h k v s t)
    (b : Alarmed h l w t u) : Alarmed h (k + l) w s u where
  head := by rw [b.head, a.head]
  other := a.other.trans b.other
  engine i := (b.engine i).trans (a.engine i)
  store := b.store.trans a.store
  tables := b.tables.trans a.tables
  puller := b.puller.trans a.puller
  mgmt := b.mgmt.trans a.mgmt
  pending := b.pending.trans a.pending
  track := by rw [b.track, a.track]
  held := b.held.trans a.held
  quiet q := by
    obtain ⟨q1, q2, q3⟩ := b.quiet q
    obtain ⟨p1, p2, p3⟩ := a.quiet q1
    exact ⟨p1, q2.trans p2, q3.trans p3⟩
  grows := by
    have := a.held
    have := b.held
    exact (a.grows.trans b.grows).mono (by omega) (by omega)

theorem Alarmed.mono {h : Head} {k l w : Nat} {s t : State} (a : Alarmed h k w s t) (hk : k ≤ l) :
    Alarmed h l w s t := { a with grows := a.grows.mono (by omega) le_rfl }

theorem Alarmed.aborting {h : Head} {k w : Nat} {s t : State} (a : Alarmed h k w s t)
    (hs : (s.head h).state = .aborting) : (t.head h).state = .aborting := by rw [a.head]; exact hs

theorem Alarmed.bond {h : Head} {k w : Nat} {s t : State} (a : Alarmed h k w s t) :
    t.track.bond = s.track.bond := by rw [a.track]

/-- R65: the weak run moves. -/
theorem State.setWeakRun_alarmed (s : State) (h : Head) (n : Nat) :
    Alarmed h 0 n s (s.updateHead h fun c => { c with weakRun := n }) where
  head := by simp
  other := by rw [State.head_updateHead_other]; exact .refl _
  engine i := by cases h <;> cases i <;> rfl
  store := by cases h <;> rfl
  tables := by cases h <;> rfl
  puller := by cases h <;> rfl
  mgmt := by cases h <;> rfl
  pending := by cases h <;> rfl
  track := by cases h <;> rfl
  held := by cases h <;> exact le_rfl
  quiet q := by cases h <;> exact ⟨q, rfl, rfl⟩
  grows := by cases h <;> exact (PortRec.Grows.refl _).mono (Nat.zero_le _) (Nat.zero_le _)

theorem safeStopStands_iff (l : List AlarmEntry) :
    safeStopStands l = true ↔ ∃ e ∈ l, e.action = .safeStop := by simp [safeStopStands]

theorem mem_insertEntry (e : AlarmEntry) (l : List AlarmEntry) (x : AlarmEntry) :
    x ∈ insertEntry e l ↔ x = e ∨ x ∈ l := by
  induction l with
  | nil => simp [insertEntry]
  | cons y l ih =>
    unfold insertEntry
    split
    · simp [ih, or_left_comm]
    · simp

/-- R144: while no SAFE-STOP alarm is listed behind a raise, none was listed ahead of it and it stopped
nothing. -/
theorem State.raise_quiet (s : State) (c : AlarmClass) (o : AlarmObject)
    (q : safeStopStands (s.raise c o).alarms.entries = false) :
    safeStopStands s.alarms.entries = false ∧ s.stops c o = false := by
  rw [State.raise_eq] at q
  dsimp only at q
  rw [← Bool.not_eq_true, safeStopStands_iff] at q ⊢
  rw [← Bool.not_eq_true]
  unfold Alarms.raised at q
  unfold State.stops
  cases hf : Alarms.find s.alarms.entries c o with
  | none =>
    simp only [hf, mem_insertEntry] at q
    refine ⟨fun ⟨e, he, ha⟩ => q ⟨e, .inr he, ha⟩, fun hs => q ⟨_, .inl rfl, ?_⟩⟩
    simpa [hf] using hs
  | some y =>
    simp only [hf, updateEntry, List.mem_map] at q
    refine ⟨fun ⟨e, he, ha⟩ => q ⟨_, ⟨e, he, rfl⟩, ?_⟩, by simp⟩
    split <;> exact ha

/-- R138, R144: a raise that stops nothing leaves port IX. -/
theorem State.raise_port_ix (s : State) (c : AlarmClass) (o : AlarmObject) (hs : s.stops c o = false) :
    (s.raise c o).port .ix = s.port .ix := by
  rw [State.raise_eq]
  change (s.raisePorts c o).get .ix = s.ports.get .ix
  unfold State.raisePorts Ports.noted
  simp only [hs, Bool.false_eq_true, if_false]
  split
  · exact Ports.enqueue_ne _ .u .ix _ _ (by decide)
  · rfl

/-- R138, R144: a raise while the head stands as ABORTING. -/
theorem State.raise_alarmed (s : State) (c : AlarmClass) (o : AlarmObject) (h : Head)
    (hs : (s.head h).state = .aborting) : Alarmed h 1 (s.head h).weakRun s (s.raise c o) where
  head := by
    rw [s.raise_head, HeadCtx.raised_aborting _ _ _ _ _ hs]
  other := s.raise_heldOnly c o _
  engine i := by rw [State.raise_eq]; cases i <;> rfl
  store := by rw [State.raise_eq]
  tables := by rw [State.raise_eq]
  puller := by rw [State.raise_eq]
  mgmt := by rw [State.raise_eq]
  pending := by rw [State.raise_eq]
  track := by
    rw [State.raise_eq]
    dsimp only
    split <;> rfl
  held := by
    rw [State.raise_eq]
    dsimp only
    split
    · exact Nat.zero_le _
    · exact le_rfl
  quiet q := by
    obtain ⟨q1, q2⟩ := s.raise_quiet c o q
    refine ⟨q1, ?_, s.raise_port_ix c o q2⟩
    rw [State.raise_eq]
    simp [q2]
  grows := s.raise_grows c o

theorem Alarmed.refl (h : Head) (s : State) : Alarmed h 0 (s.head h).weakRun s s := by
  have := s.setWeakRun_alarmed h (s.head h).weakRun
  rwa [show (s.updateHead h fun c => { c with weakRun := (s.head h).weakRun }) = s by cases h <;> rfl] at this

theorem State.raises_alarmed (l : List AlarmClass) (o : AlarmObject) (h : Head) (s : State)
    (hs : (s.head h).state = .aborting) :
    Alarmed h l.length (s.head h).weakRun s (l.foldl (fun (s : State) a => s.raise a o) s) := by
  induction l generalizing s with
  | nil => exact Alarmed.refl h s
  | cons a l ih =>
    have first := s.raise_alarmed a o h hs
    have rest := ih _ (first.aborting hs)
    rw [show ((s.raise a o).head h).weakRun = (s.head h).weakRun by rw [first.head]] at rest
    exact (first.trans rest).mono (by simp [Nat.add_comm])

/-- R64: at most two alarms are raised by the class and the missing samples, one where the class is WEAK. -/
theorem qualityAlarms_length (k : BondKind) (f : Figures) :
    (qualityAlarms k f).length ≤ 2 ∧ (f.cls = .weak → (qualityAlarms k f).length ≤ 1) := by
  unfold qualityAlarms
  cases f.cls <;> constructor <;> simp <;> split <;> simp

/-- R64, R65: the alarms of a close. -/
theorem State.closeAlarmed_alarmed (s : State) (h : Head) (b : Bond) (f : Figures) (limit : Nat)
    (hs : (s.head h).state = .aborting) :
    Alarmed h 2 (moveWeakRun (s.head h).weakRun f.cls) s (s.closeAlarmed h b f limit) := by
  obtain ⟨two, one⟩ := qualityAlarms_length b.kind f
  have raised := State.raises_alarmed (qualityAlarms b.kind f) (.head h) h s hs
  have run : ((List.foldl (fun (s : State) a => s.raise a (.head h)) s (qualityAlarms b.kind f)).head h).weakRun
      = (s.head h).weakRun := by rw [raised.head]
  unfold State.closeAlarmed State.weakRunStep
  extract_lets n t
  have counted := raised.trans (State.setWeakRun_alarmed _ h n)
  have hn : n = moveWeakRun (s.head h).weakRun f.cls := by simp only [n, run]
  rw [← hn]
  split
  · next hw =>
    have weak := t.raise_alarmed .weakRun (.head h) h (counted.aborting hs)
    rw [show (t.head h).weakRun = n by simp [t]] at weak
    exact (counted.trans weak).mono (by have := one hw.1; omega)
  · exact counted.mono (by omega)

/-! ## The unit of a close -/

/-- Records but for their pins. -/
def unpinned (l : List BondRecord) : List BondRecord := l.map fun r => { r with pinned := false }

/-- From `s` to `t` the unit of the closing head `h` moved: the hold reasons and the claim of the head, pins, the
track, the alarms and the queues alone change. -/
structure UnitKept (h : Head) (s t : State) : Prop where
  head : t.head h = { s.head h with holds := (t.head h).holds, claim := (t.head h).claim }
  other : HeldOnly (s.head (otherHead h)) (t.head (otherHead h))
  engine : ∀ i, t.engine i = s.engine i
  records : unpinned t.store.records = unpinned s.store.records
  nextRecord : t.store.nextRecord = s.store.nextRecord
  fetch : t.store.fetch = s.store.fetch
  tables : t.tables = s.tables
  puller : t.puller = s.puller
  mgmt : t.mgmt = s.mgmt
  pending : t.pending = s.pending
  carries : ∀ m, s.ports.u.Carries m → t.ports.u.Carries m

theorem UnitKept.refl (h : Head) (s : State) : UnitKept h s s :=
  ⟨rfl, .refl _, fun _ => rfl, rfl, rfl, rfl, rfl, rfl, rfl, rfl, fun _ => id⟩

/-- R76, R78: a close pins and releases, and changes nothing else of a record. -/
theorem unpinned_map (l : List BondRecord) (f : BondRecord → Bool) (v : Bool) :
    unpinned (l.map fun r => if f r then { r with pinned := v } else r) = unpinned l := by
  unfold unpinned
  rw [List.map_map]
  refine List.map_congr_left fun r _ => ?_
  dsimp only [Function.comp]
  split <;> rfl

theorem Store.afterClose_unpinned (y : Store) (t : Tables) (x : Strip) (b : Bond) (c : BondClass)
    (limit : Nat) : unpinned (y.afterClose t x b c limit).records = unpinned y.records ∧
      (y.afterClose t x b c limit).nextRecord = y.nextRecord ∧ (y.afterClose t x b c limit).fetch = y.fetch := by
  unfold Store.afterClose
  split
  · exact ⟨unpinned_map _ _ false, rfl, rfl⟩
  · split
    · unfold Store.pinWire
      split
      · exact ⟨rfl, rfl, rfl⟩
      · exact ⟨unpinned_map _ _ true, rfl, rfl⟩
    · exact ⟨rfl, rfl, rfl⟩

theorem State.unitMoved_unitKept (s : State) (h : Head) (b : Bond) (c : BondClass) (x : Strip) :
    UnitKept h s (s.unitMoved h b c x) where
  head := by
    rw [State.unitMoved_head]
    unfold HeadCtx.dropClaim
    split <;> rfl
  other := by rw [State.unitMoved_other]; exact .refl _
  engine i := by cases h <;> cases i <;> rfl
  records := by
    refine Eq.trans ?_ (s.store.afterClose_unpinned s.tables x b c (s.rebondLimit b)).1
    cases h <;> rfl
  nextRecord := by
    refine Eq.trans ?_ (s.store.afterClose_unpinned s.tables x b c (s.rebondLimit b)).2.1
    cases h <;> rfl
  fetch := by
    refine Eq.trans ?_ (s.store.afterClose_unpinned s.tables x b c (s.rebondLimit b)).2.2
    cases h <;> rfl
  tables := by cases h <;> rfl
  puller := by cases h <;> rfl
  mgmt := by cases h <;> rfl
  pending := by cases h <;> rfl
  carries m := by cases h <;> exact id

theorem UnitKept.aborting {h : Head} {s t : State} (a : UnitKept h s t) (hs : (s.head h).state = .aborting) :
    (t.head h).state = .aborting := by rw [a.head]; exact hs

/-- R35: REBOND-LIMIT behind the move of the unit. -/
theorem UnitKept.raise {h : Head} {s t : State} (a : UnitKept h s t) (c : AlarmClass) (o : AlarmObject)
    (hs : (s.head h).state = .aborting) : UnitKept h s (t.raise c o) := by
  have r := t.raise_alarmed c o h (a.aborting hs)
  exact {
    head := by rw [r.head, a.head]
    other := a.other.trans r.other
    engine := fun i => (r.engine i).trans (a.engine i)
    records := by rw [r.store]; exact a.records
    nextRecord := by rw [r.store]; exact a.nextRecord
    fetch := by rw [r.store]; exact a.fetch
    tables := r.tables.trans a.tables
    puller := r.puller.trans a.puller
    mgmt := r.mgmt.trans a.mgmt
    pending := r.pending.trans a.pending
    carries := fun m hm => t.raise_carries c o m (a.carries m hm) }

theorem State.moveUnit_unitKept (s : State) (h : Head) (b : Bond) (c : BondClass)
    (hs : (s.head h).state = .aborting) : UnitKept h s (s.moveUnit h b c) := by
  cases hx : s.track.bond with
  | none => rw [s.moveUnit_none h b c hx]; exact UnitKept.refl h s
  | some x =>
    rw [s.moveUnit_eq h b c x hx]
    split
    · exact (s.unitMoved_unitKept h b c x).raise _ _ hs
    · exact s.unitMoved_unitKept h b c x

/-! ## The whole close -/

/-- R33 steps 1 to 5: a close up to its BOND-REPORT. -/
def State.closeReported (s : State) (h : Head) (b : Bond) (f : Figures) (late link : Bool) : State :=
  ((s.closeBegun h b f late link).closeAlarmed h b f (s.engine h).weakLimit).send .u
    (bondReportOf h b f late link)

theorem State.closeDone_eq (s : State) (h : Head) (b : Bond) (f : Figures) (late link : Bool) :
    s.closeDone h b f late link =
      ((s.closeReported h b f late link).moveUnit h b f.cls).updateHead h (HeadCtx.closed b f) := rfl

/-- R33 steps 1 to 3: the closing head. -/
def HeadCtx.closing (c : HeadCtx) (f : Figures) : HeadCtx :=
  { c with state := .aborting, abortTimer := false, results := c.results.countClass f.cls }

theorem State.closeBegun_head (s : State) (h : Head) (b : Bond) (f : Figures) (late link : Bool) :
    (s.closeBegun h b f late link).head h = (s.head h).closing f := by
  simp [State.closeBegun, HeadCtx.closing]

/-- R64, R65: the alarms of a close, from its step 3. -/
theorem State.closeBegun_alarmed (s : State) (h : Head) (b : Bond) (f : Figures) (late link : Bool) :
    Alarmed h 2 (moveWeakRun (s.head h).weakRun f.cls) (s.closeBegun h b f late link)
      ((s.closeBegun h b f late link).closeAlarmed h b f (s.engine h).weakLimit) := by
  have := (s.closeBegun h b f late link).closeAlarmed_alarmed h b f (s.engine h).weakLimit (by
    rw [State.closeBegun_head]; rfl)
  rwa [State.closeBegun_head] at this

/-- R172: up to four frames on port U leave room for the BOND-REPORT behind the alarms of a close. -/
theorem State.closeReported_carries (s : State) (h : Head) (b : Bond) (f : Figures) (late link : Bool)
    (hd : s.ports.u.state ≠ .down) (hl : s.ports.u.tx.length ≤ 4) :
    (s.closeReported h b f late link).ports.u.Carries (bondReportOf h b f late link) := by
  have alarmed := s.closeBegun_alarmed h b f late link
  have begun : (s.closeBegun h b f late link).ports.u = s.ports.u := by cases h <;> rfl
  have grows := alarmed.grows
  rw [begun] at grows
  have held : (s.closeBegun h b f late link).track.heldCount ≤ 1 := by
    unfold Track.heldCount
    cases (s.closeBegun h b f late link).track.held <;> simp
  have normals := s.ports.u.normals_le
  have length := grows.length
  have few := grows.normals
  unfold State.closeReported
  generalize (s.closeBegun h b f late link).closeAlarmed h b f (s.engine h).weakLimit = t at *
  have room : t.ports.u.tx.length < 8 ∧ t.ports.u.normals < 6 := ⟨by omega, by omega⟩
  refine PortRec.enqueue_self _ .u _ false _ (grows.live hd) ?_
  exact (Bool.and_eq_true _ _).mpr ⟨decide_eq_true room.1, decide_eq_true room.2⟩

theorem State.updateHead_engine (s : State) (h : Head) (f : HeadCtx → HeadCtx) (k : Head) :
    (s.updateHead h f).engine k = s.engine k := by cases h <;> cases k <;> rfl

/-- R33: the closing head, once its unit has moved. -/
theorem State.closeMoved_head (s : State) (h : Head) (b : Bond) (f : Figures) (late link : Bool) :
    ((s.closeReported h b f late link).moveUnit h b f.cls).head h = { (s.head h).closing f with
      holds := (((s.closeReported h b f late link).moveUnit h b f.cls).head h).holds
      claim := (((s.closeReported h b f late link).moveUnit h b f.cls).head h).claim
      weakRun := moveWeakRun (s.head h).weakRun f.cls } := by
  have alarmed := s.closeBegun_alarmed h b f late link
  have told : (s.closeReported h b f late link).head h = { (s.head h).closing f with
      holds := ((s.closeReported h b f late link).head h).holds
      weakRun := moveWeakRun (s.head h).weakRun f.cls } := by
    rw [State.closeReported, State.send_head, alarmed.head, State.closeBegun_head]
  have moved := (s.closeReported h b f late link).moveUnit_unitKept h b f.cls (by rw [told]; rfl)
  rw [moved.head, told]

/-- R33: all but the head, once the unit of a close has moved. -/
theorem State.closeMoved_unitKept (s : State) (h : Head) (b : Bond) (f : Figures) (late link : Bool) :
    UnitKept h (s.closeReported h b f late link)
      ((s.closeReported h b f late link).moveUnit h b f.cls) := by
  refine State.moveUnit_unitKept _ h b f.cls ?_
  have alarmed := s.closeBegun_alarmed h b f late link
  rw [State.closeReported, State.send_head, alarmed.head, State.closeBegun_head]
  rfl

/-- R59, R69: the engine of a closed bond. -/
theorem Engine.close_eq (e : Engine) (n : Nat) (c : BondClass) :
    let froze := e.capture = true ∧ e.ringState = .following ∧ (c = .nonstick ∨ c = .overBond ∨ c = .noData)
    e.close n c = { e with
      state := .disarmed
      ringState := if froze then .frozen else e.ringState
      frozen := if froze then some ⟨n, c, e.ring⟩ else e.frozen } := by
  intro froze
  have hc : c.freezes = true ↔ c = .nonstick ∨ c = .overBond ∨ c = .noData := by
    cases c <;> simp [BondClass.freezes]
  have hf : (e.capture = true ∧ c.freezes = true ∧ e.ringState = .following) ↔ froze := by
    simp only [froze, hc, and_comm]
  unfold Engine.close
  dsimp only
  by_cases h : froze
  · rw [if_pos (hf.mpr h), if_pos h, if_pos h]
  · rw [if_neg (mt hf.mp h), if_neg h, if_neg h]

theorem moveWeakRun_eq (n : Nat) (c : BondClass) : moveWeakRun n c =
    if c = .weak then min 255 (n + 1) else if c = .good then 0 else n := by
  cases c <;> rfl

/-- R33, R59, R73 to R75: what a close leaves, ahead of the end of a claim. -/
theorem State.closeDone_closed (s : State) (h : Head) (b : Bond) (f : Figures) (late link : Bool) :
    Closed h b f late link s (s.closeDone h b f late link) := by
  have moved := s.closeMoved_head h b f late link
  have kept := s.closeMoved_unitKept h b f late link
  have alarmed := s.closeBegun_alarmed h b f late link
  have store : (s.closeReported h b f late link).store =
      s.store.write (bondRecordOf s.mgmt.time h b f late link) := by
    refine alarmed.store.trans ?_
    cases h <;> rfl
  have engine (k : Head) : (s.closeReported h b f late link).engine k =
      (s.closeBegun h b f late link).engine k := (State.send_engine _ _ _ k).trans (alarmed.engine k)
  have carries := s.closeReported_carries h b f late link
  have head : (s.closeDone h b f late link).head h = HeadCtx.closed b f
      (((s.closeReported h b f late link).moveUnit h b f.cls).head h) := by simp [State.closeDone_eq]
  rw [moved] at head
  have same : (s.closeDone h b f late link).store =
      ((s.closeReported h b f late link).moveUnit h b f.cls).store := by cases h <;> rfl
  have mgmt : (s.closeReported h b f late link).mgmt = s.mgmt := alarmed.mgmt.trans (by cases h <;> rfl)
  have tables : (s.closeReported h b f late link).tables = s.tables := alarmed.tables.trans (by cases h <;> rfl)
  have puller : (s.closeReported h b f late link).puller = s.puller := alarmed.puller.trans (by cases h <;> rfl)
  have pending : (s.closeReported h b f late link).pending = s.pending :=
    alarmed.pending.trans (by cases h <;> rfl)
  refine ⟨by rw [head]; rfl, by rw [head]; rfl, by rw [head]; rfl, by rw [head]; rfl, by rw [head]; rfl,
    by rw [head]; rfl, by rw [head]; exact moveWeakRun_eq _ _, by rw [head]; rfl, ?_, ?_,
    ⟨(s.store.write (bondRecordOf s.mgmt.time h b f late link)).records, Store.write_written _ _, ?_⟩,
    ?_, ?_, ?_, ?_, ?_, ?_, fun hd hl => ?_⟩
  · have own : (s.closeDone h b f late link).engine h = (s.engine h).close b.record f.cls := by
      rw [State.closeDone_eq, State.updateHead_engine, kept.engine, engine]
      cases h <;> rfl
    rw [own, Engine.close_eq]
  · rw [State.closeDone_eq, State.updateHead_engine, kept.engine, engine]
    cases h <;> rfl
  · rw [same, ← store]
    exact kept.records
  · rw [same, kept.nextRecord, store]; rfl
  · rw [same, kept.fetch, store]; rfl
  · exact Eq.trans (by cases h <;> rfl) (kept.tables.trans tables)
  · exact Eq.trans (by cases h <;> rfl) (kept.puller.trans puller)
  · exact Eq.trans (by cases h <;> rfl) (kept.mgmt.trans mgmt)
  · exact Eq.trans (by cases h <;> rfl) (kept.pending.trans pending)
  · have := kept.carries _ (carries hd hl)
    cases h <;> exact this

/-- What a close leaves stands behind an operation that keeps the head's record of it, the engine, the records
and what is queued on port U. -/
theorem Closed.behind {h : Head} {b : Bond} {f : Figures} {late link : Bool} {s t u : State}
    (c : Closed h b f late link s t)
    (head : u.head h = { t.head h with
      state := (u.head h).holds.state
      holds := (u.head h).holds
      pause := (u.head h).pause
      claim := (u.head h).claim })
    (engine : ∀ k, u.engine k = t.engine k) (store : u.store = t.store) (tables : u.tables = t.tables)
    (puller : u.puller = t.puller) (mgmt : u.mgmt = t.mgmt) (pending : u.pending = t.pending)
    (carries : ∀ m, t.ports.u.Carries m → u.ports.u.Carries m) : Closed h b f late link s u := by
  obtain ⟨c1, c2, -, c4, c5, c6, c7, c8, c9, c10, ⟨l, c11, c12⟩, c13, c14, c15, c16, c17, c18, c19⟩ := c
  refine ⟨by rw [head]; exact c1, by rw [head]; exact c2, by rw [head], by rw [head]; exact c4,
    by rw [head]; exact c5, by rw [head]; exact c6, by rw [head]; exact c7, by rw [head]; exact c8,
    (engine h).trans c9, (engine _).trans c10, ⟨l, c11, by rw [store]; exact c12⟩, by rw [store]; exact c13,
    by rw [store]; exact c14, tables.trans c15, puller.trans c16, mgmt.trans c17, pending.trans c18,
    fun hd hl => carries _ (c19 hd hl)⟩

theorem Closed.state {h : Head} {b : Bond} {f : Figures} {late link : Bool} {s t : State}
    (c : Closed h b f late link s t) : (t.head h).state = (t.head h).holds.state := c.2.2.1

theorem Closed.head_eq {h : Head} {b : Bond} {f : Figures} {late link : Bool} {s t : State}
    (c : Closed h b f late link s t) : t.head h = { t.head h with state := (t.head h).holds.state } := by
  rw [← c.state]

/-- R29: the head of a claim that has ended. -/
theorem State.claimEnded_head (s : State) (h : Head) : (s.claimEnded h).head h =
    if (s.head h).pause = some .afterUnit then (s.head h).addOperator else s.head h := by
  unfold State.claimEnded
  rw [State.releaseGate_eq]
  exact Eq.trans (by cases h <;> rfl) (State.head_updateHead_self s h _)

/-- R29, R100: the end of the claim behind a close. -/
theorem Closed.claimEnded {h : Head} {b : Bond} {f : Figures} {late link : Bool} {s t : State}
    (c : Closed h b f late link s t) : Closed h b f late link s (t.claimEnded h) := by
  have blocks : t.claimEnded h = { t.updateHead h (fun c =>
      if c.pause = some .afterUnit then c.addOperator else c) with
        track := (t.claimEnded h).track, ports := (t.claimEnded h).ports } := State.releaseGate_eq _
  refine c.behind ?_ (fun k => ?_) ?_ ?_ ?_ ?_ ?_ fun m hm => t.claimEnded_carries h m hm
  · rw [State.claimEnded_head]
    split
    · rw [HeadCtx.addOperator_eq, c.state, Holds.state_inFlight]
      cases hl : (t.head h).holds.link <;> simp [Holds.state, Holds.any, hl]
    · rw [← c.state]
  all_goals rw [blocks]
  · cases h <;> cases k <;> rfl
  all_goals cases h <;> rfl

/-- R33: what the close of the bond in flight leaves. -/
theorem State.closeBond_closed (s : State) (h : Head) (b : Bond) (lift late link : Bool)
    (hb : (s.head h).bond = some b) :
    Closed h b ((s.engine h).figures lift) late link s (s.closeBond h lift late link) := by
  rw [s.closeBond_eq h b lift late link hb]
  dsimp only
  split
  · exact (s.closeDone_closed h b _ late link).claimEnded
  · exact s.closeDone_closed h b _ late link

/-- What a close leaves, with the frame that is passed on behind it. -/
theorem Closed.passed {h : Head} {b : Bond} {f : Figures} {late link : Bool} {s t : State} (x : Port) (c : Instr)
    (m : Msg) (k : Closed h b f late link (s.takeRx x c) t) :
    Closed h b f late link s ((t.send .u m).markChanges s) := by
  obtain ⟨tx, st⟩ := s.takeRx_lines x .u c
  have tx : (s.takeRx x c).ports.u.tx = s.ports.u.tx := tx
  have st : (s.takeRx x c).ports.u.state = s.ports.u.state := st
  have k := k.behind (u := (t.send .u m).markChanges s)
    (by rw [State.markChanges_head, State.send_head, ← k.state])
    (fun i => by rw [State.markChanges_engine, State.send_engine]) (by simp) (by simp) (by simp) (by simp)
    (by simp) fun n hn => by
      rw [State.markChanges_ports]
      exact Ports.enqueue_carries _ _ _ _ _ hn
  unfold Closed at k ⊢
  rw [State.takeRx_head, State.takeRx_engine, State.takeRx_engine, tx, st] at k
  exact k

end Sys2Proof.Machine
end

section
/-! SUPPORT. The closes of a bond by LIFT, ABORTED and the abort timer: the statement (R31 to R36, R40, R41,
R59, R64, R65, R74, R75). -/

namespace Sys2Proof.Machine

/-! ## The alarms of a close, as raised from the state before it -/

/-- `t` agrees with `u` on all that an alarm does but to the state of head `h`, to the track and to the
queues. -/
structure Mirrors (h : Head) (u t : State) : Prop where
  alarms : t.alarms = u.alarms
  tables : t.tables = u.tables
  term : t.term = { u.term with changed := t.term.changed }
  other : t.head (otherHead h) = u.head (otherHead h)
  holds : (t.head h).holds = (u.head h).holds

/-- R138, R143: the hold reasons behind a raise. -/
theorem HeadCtx.raised_holds (c : HeadCtx) (k : Head) (l : List AlarmEntry) (listed stops : Bool) :
    (c.raised k l listed stops).holds = if listed then c.holds else c.holds.judged k l := by
  unfold HeadCtx.raised
  split
  · rfl
  · split
    · rw [HeadCtx.cut_fields, HeadCtx.judge_fields]
    · rw [HeadCtx.judge_fields]

theorem Mirrors.stops {h : Head} {u t : State} (m : Mirrors h u t) (c : AlarmClass) (o : AlarmObject) :
    t.actionEntry c = u.actionEntry c ∧ t.stops c o = u.stops c o := by
  have entry : t.actionEntry c = u.actionEntry c := by rw [State.actionEntry, m.tables]; rfl
  exact ⟨entry, by rw [State.stops, m.alarms, entry]; rfl⟩

theorem Mirrors.raise {h : Head} {u t : State} (m : Mirrors h u t) (c : AlarmClass) (o : AlarmObject) :
    Mirrors h (u.raise c o) (t.raise c o) := by
  obtain ⟨entry, stops⟩ := m.stops c o
  have alarms : (t.raise c o).alarms = (u.raise c o).alarms := by
    rw [State.raise_eq, State.raise_eq]
    dsimp only
    rw [m.alarms, entry]
  refine ⟨alarms, ?_, ?_, ?_, ?_⟩
  · rw [State.raise_eq, State.raise_eq]
    exact m.tables
  · have n : (t.raise c o).alarms.entries.length = (u.raise c o).alarms.entries.length := by rw [alarms]
    have ht : (t.raise c o).term = t.term.listChanged (t.raise c o).alarms.entries.length := by
      rw [State.raise_eq]
    have hu : (u.raise c o).term = u.term.listChanged (u.raise c o).alarms.entries.length := by
      rw [State.raise_eq]
    rw [ht, hu, n]
    generalize (u.raise c o).alarms.entries.length = k
    rw [Terminal.listChanged_eq u.term]
    refine (Terminal.listChanged_eq t.term k).trans ?_
    generalize (t.term.listChanged k).changed = l
    rw [m.term]
  · rw [State.raise_head, State.raise_head, alarms, stops, m.other, m.alarms]
  · rw [State.raise_head, State.raise_head, HeadCtx.raised_holds, HeadCtx.raised_holds, alarms, m.alarms, m.holds]

/-- A raise under a condition. -/
def State.raiseIf (s : State) (p : Bool) (c : AlarmClass) (h : Head) : State :=
  if p then s.raise c (.head h) else s

theorem Mirrors.raiseIf {h : Head} {u t : State} (m : Mirrors h u t) (p : Bool) (c : AlarmClass) :
    Mirrors h (u.raiseIf p c h) (t.raiseIf p c h) := by
  cases p
  · exact m
  · exact m.raise c _

/-- An operation on the closing side that leaves what an alarm reads. -/
theorem Mirrors.beside {h : Head} {u t v : State} (m : Mirrors h u t) (alarms : v.alarms = t.alarms)
    (tables : v.tables = t.tables) (term : v.term = t.term)
    (other : v.head (otherHead h) = t.head (otherHead h)) (holds : (v.head h).holds = (t.head h).holds) :
    Mirrors h u v where
  alarms := alarms.trans m.alarms
  tables := tables.trans m.tables
  term := by rw [term]; exact m.term
  other := other.trans m.other
  holds := holds.trans m.holds

/-- R64, R65, R35: the alarms of a close by LIFT, in their order. -/
def State.liftAlarms (s : State) (h : Head) (b : Bond) (f : Figures) (weak reject : Bool) : State :=
  ((((s.raiseIf (decide (f.cls = .nonstick)) (nonstickAlarm b.kind) h).raiseIf
    (decide (f.cls = .overBond)) .overBond h).raiseIf
    (decide (f.cls = .noData ∨ 16 ≤ f.missing)) .sampleLoss h).raiseIf weak .weakRun h).raiseIf
    reject .rebondLimit h

/-- R64: the alarms by the class and the missing samples. -/
theorem qualityAlarms_raise (s : State) (h : Head) (k : BondKind) (f : Figures) (hf : f.cls ≠ .aborted) :
    (qualityAlarms k f).foldl (fun (s : State) a => s.raise a (.head h)) s =
      ((s.raiseIf (decide (f.cls = .nonstick)) (nonstickAlarm k) h).raiseIf
        (decide (f.cls = .overBond)) .overBond h).raiseIf
        (decide (f.cls = .noData ∨ 16 ≤ f.missing)) .sampleLoss h := by
  unfold qualityAlarms State.raiseIf
  cases hc : f.cls
  case aborted => exact absurd hc hf
  all_goals by_cases hm : 16 ≤ f.missing <;> simp [hm]

/-- R65: WEAK-RUN is raised at the limit of the program. -/
def Figures.weakAt (f : Figures) (n limit : Nat) : Bool :=
  decide (f.cls = .weak ∧ limit ≤ min 255 (n + 1))

/-- R35: REBOND-LIMIT is raised past the limit of the program. -/
def State.rejectsAt (s : State) (b : Bond) (c : BondClass) : Bool :=
  s.track.bond.any fun x => rejectsUnit (s.rebondLimit b) (x.rebonds b.unit) c

theorem Mirrors.weakRunStep {h : Head} {u t : State} (m : Mirrors h u t) (f : Figures) (limit : Nat) :
    Mirrors h (u.raiseIf (f.weakAt (t.head h).weakRun limit) .weakRun h) (t.weakRunStep h f limit) := by
  unfold State.weakRunStep
  extract_lets n v
  have counted : Mirrors h u v := by
    refine m.beside ?_ ?_ ?_ ?_ ?_ <;> cases h <;> rfl
  have weak : f.weakAt (t.head h).weakRun limit = decide (f.cls = .weak ∧ limit ≤ n) := by
    rw [Figures.weakAt, decide_eq_decide]
    refine and_congr_right fun hc => ?_
    simp only [n, hc]
    rfl
  rw [weak]
  by_cases hw : f.cls = .weak ∧ limit ≤ n
  · rw [if_pos hw, decide_eq_true hw]
    exact counted.raise _ _
  · rw [if_neg hw, decide_eq_false hw]
    exact counted

theorem Mirrors.moveUnit {h : Head} {u t : State} (m : Mirrors h u t) (b : Bond) (c : BondClass) :
    Mirrors h (u.raiseIf (t.rejectsAt b c) .rebondLimit h) (t.moveUnit h b c) := by
  unfold State.rejectsAt
  cases hx : t.track.bond with
  | none => rw [t.moveUnit_none h b c hx]; exact m
  | some x =>
    have moved : Mirrors h u (t.unitMoved h b c x) := by
      refine m.beside ?_ ?_ ?_ ?_ ?_
      · cases h <;> rfl
      · cases h <;> rfl
      · cases h <;> rfl
      · rw [State.unitMoved_other]
      · rw [State.unitMoved_head, HeadCtx.dropClaim]
        split <;> rfl
    rw [t.moveUnit_eq h b c x hx, Option.any_some]
    cases rejectsUnit (t.rebondLimit b) (x.rebonds b.unit) c
    · exact moved
    · exact moved.raise _ _

/-- R64, R65, R35: the alarms of a close are those raised from the state before it. -/
theorem State.closeDone_mirrors (s v : State) (h : Head) (b : Bond) (f : Figures) (late link : Bool)
    (hf : f.cls ≠ .aborted) (m : Mirrors h s v) :
    Mirrors h (s.liftAlarms h b f (f.weakAt (v.head h).weakRun (v.engine h).weakLimit)
      (v.rejectsAt b f.cls)) (v.closeDone h b f late link) := by
  have begun : Mirrors h s (v.closeBegun h b f late link) := by
    refine m.beside ?_ ?_ ?_ ?_ ?_ <;> cases h <;> rfl
  have quality := ((begun.raiseIf (decide (f.cls = .nonstick)) (nonstickAlarm b.kind)).raiseIf
    (decide (f.cls = .overBond)) .overBond).raiseIf (decide (f.cls = .noData ∨ 16 ≤ f.missing)) .sampleLoss
  rw [← qualityAlarms_raise (v.closeBegun h b f late link) h b.kind f hf] at quality
  have run := State.raises_alarmed (qualityAlarms b.kind f) (.head h) h (v.closeBegun h b f late link)
    (by rw [State.closeBegun_head]; rfl)
  have weak := quality.weakRunStep f (v.engine h).weakLimit
  rw [run.head, State.closeBegun_head] at weak
  have told : Mirrors h _ (v.closeReported h b f late link) :=
    weak.beside (v := v.closeReported h b f late link) rfl rfl rfl (State.send_head _ _ _ _)
      (congrArg HeadCtx.holds (State.send_head _ _ _ _))
  have moved := told.moveUnit b f.cls
  have alarmed := v.closeBegun_alarmed h b f late link
  have reject : (v.closeReported h b f late link).rejectsAt b f.cls = v.rejectsAt b f.cls := by
    have bond : (v.closeReported h b f late link).track.bond = v.track.bond :=
      alarmed.bond.trans (by cases h <;> rfl)
    have tables : (v.closeReported h b f late link).tables = v.tables :=
      alarmed.tables.trans (by cases h <;> rfl)
    simp only [State.rejectsAt, State.rebondLimit, bond, tables]
  rw [reject] at moved
  rw [State.closeDone_eq]
  refine moved.beside ?_ ?_ ?_ (State.head_updateHead_other _ _ _) ?_
  · cases h <;> rfl
  · cases h <;> rfl
  · cases h <;> rfl
  · rw [State.head_updateHead_self]; rfl

/-! ## A close by LIFT -/

/-- R62, R63: a close by LIFT is not ABORTED. -/
theorem Engine.figures_lift (e : Engine) : (e.figures true).cls ≠ .aborted := by
  unfold Engine.figures
  dsimp only [if_true]
  cases e.limits with
  | none => simp
  | some l =>
    simp only [if_true, Option.elim_some, liftClass]
    repeat' split
    all_goals simp

/-- R35: REBOND-LIMIT, by the classes that count a rebond. -/
theorem State.rejectsAt_eq (s : State) (b : Bond) (c : BondClass) : s.rejectsAt b c =
    (decide (c = .nonstick ∨ c = .noData) && s.track.bond.any fun x =>
      decide (((s.tables.program b.program).elim 0 fun p => p.rebond) <
        ((x.units[b.unit]?).elim 0 fun r => r.rebond) + 1)) := by
  unfold State.rejectsAt
  cases s.track.bond with
  | none => simp
  | some x => cases c <;> simp [rejectsUnit] <;> rfl

/-- R29: what the end of a claim leaves of what alarms read. -/
theorem State.claimEnded_told (t : State) (h : Head) :
    (t.claimEnded h).alarms = t.alarms ∧ (t.claimEnded h).term = t.term ∧
      (t.claimEnded h).head (otherHead h) = t.head (otherHead h) ∧
      (t.claimEnded h).head h = { t.head h with
        state := ((t.claimEnded h).head h).state
        holds := { (t.head h).holds with operator := ((t.claimEnded h).head h).holds.operator } } := by
  have blocks : t.claimEnded h = { t.updateHead h (fun c =>
      if c.pause = some .afterUnit then c.addOperator else c) with
        track := (t.claimEnded h).track, ports := (t.claimEnded h).ports } := State.releaseGate_eq _
  refine ⟨?_, ?_, ?_, ?_⟩
  · rw [blocks]; cases h <;> rfl
  · rw [blocks]; cases h <;> rfl
  · rw [blocks]; cases h <;> rfl
  · rw [State.claimEnded_head]
    split
    · rw [HeadCtx.addOperator_eq]
    · rfl

/-- R33: the head behind its close, but for the hold reasons, the claim and what the bond leaves. -/
theorem State.closeDone_head (s : State) (h : Head) (b : Bond) (f : Figures) (late link : Bool) :
    let c := (s.closeDone h b f late link).head h
    c.pause = (s.head h).pause ∧ c.efo = (s.head h).efo ∧ c.efoStart = (s.head h).efoStart ∧
      c.efoTimer = (s.head h).efoTimer := by
  intro c
  have head : c = HeadCtx.closed b f (((s.closeReported h b f late link).moveUnit h b f.cls).head h) := by
    simp [c, State.closeDone_eq]
  rw [head, State.closeMoved_head]
  exact ⟨rfl, rfl, rfl, rfl⟩

/-- R64: what the alarm list, the other head, the closing head and the terminal server take from the alarms of
a close that are raised in `u`. -/
structure Told (h : Head) (s u t : State) : Prop where
  alarms : t.alarms = u.alarms
  term : t.term = { u.term with changed := t.term.changed }
  other : t.head (otherHead h) = u.head (otherHead h)
  holds : (t.head h).holds = { (u.head h).holds with operator := (t.head h).holds.operator }
  efo : (t.head h).efo = (s.head h).efo ∧ (t.head h).efoStart = (s.head h).efoStart ∧
    (t.head h).efoTimer = (s.head h).efoTimer

/-- R33, R64, R65, R35: the close by LIFT, behind its alarms. -/
theorem State.closeBond_told (s v : State) (h : Head) (b : Bond) (late link : Bool) (m : Mirrors h s v)
    (hv : v.head h = s.head h) (hb : (v.head h).bond = some b) :
    let f := (v.engine h).figures true
    Told h s (s.liftAlarms h b f (f.weakAt (v.head h).weakRun (v.engine h).weakLimit) (v.rejectsAt b f.cls))
      (v.closeBond h true late link) ∧
    ((v.closeBond h true late link).head h).pause = (s.head h).pause := by
  intro f
  have mirrors := s.closeDone_mirrors v h b f late link (v.engine h).figures_lift m
  obtain ⟨pause, efo, start, timer⟩ := v.closeDone_head h b f late link
  rw [hv] at pause efo start timer
  rw [v.closeBond_eq h b true late link hb]
  dsimp only
  split
  · obtain ⟨ta, tt, ho, th⟩ := (v.closeDone h b f late link).claimEnded_told h
    refine ⟨⟨ta.trans mirrors.alarms, ?_, ho.trans mirrors.other, ?_, ?_⟩, ?_⟩
    · rw [tt]; exact mirrors.term
    · rw [th, mirrors.holds]
    · rw [th]; exact ⟨efo, start, timer⟩
    · rw [th]; exact pause
  · exact ⟨⟨mirrors.alarms, mirrors.term, mirrors.other, by rw [mirrors.holds], efo, start, timer⟩, pause⟩

/-- What the alarms of a close told stands behind what a step marks. -/
theorem Told.marked {h : Head} {s u t : State} (k : Told h s u t) (old : State) :
    Told h s u (t.markChanges old) where
  alarms := by rw [State.markChanges_alarms]; exact k.alarms
  term := by
    have like := congrArg State.term (t.markChanges_like old)
    rw [like]
    generalize (t.markChanges old).term.changed = l
    rw [k.term]
  other := by rw [State.markChanges_head]; exact k.other
  holds := by rw [State.markChanges_head]; exact k.holds
  efo := by rw [State.markChanges_head]; exact k.efo

/-- What the alarms of a close told stands behind the frame that is passed on. -/
theorem Told.passed {h : Head} {s u t : State} (k : Told h s u t) (m : Msg) (old : State) :
    Told h s u ((t.send .u m).markChanges old) := by
  refine Told.marked (t := t.send .u m) ⟨k.alarms, k.term, ?_, ?_, ?_⟩ old
  · rw [State.send_head]; exact k.other
  · rw [State.send_head]; exact k.holds
  · rw [State.send_head]; exact k.efo

theorem Mirrors.takeRx (s : State) (h : Head) (x : Port) (c : Instr) : Mirrors h s (s.takeRx x c) :=
  ⟨rfl, rfl, rfl, State.takeRx_head s x c _, by rw [State.takeRx_head]⟩

/-- R31: a head whose bond is in flight takes LIFT as its close. -/
theorem exec_lift {h : Head} {e : Envelope} {b : Bond} {s : State} (hi : HeadInv (s.head h))
    (hb : (s.head h).bond = some b) (ht : s.inTurn h.port (.lift h e) = true) :
    exec (.lift h e) s = .next ((((s.takeRx h.port (.lift h e)).closeBond h true ((s.head h).state == .aborting)
      false).send .u (.forwarded ⟨e.dst, e.src, 0x11, [1] ++ e.extra⟩)).markChanges s) := by
  have hf : frameOf (.lift h e) = some (h.port, ⟨e.dst, e.src, 0x11, [1] ++ e.extra⟩) := rfl
  have flying : (s.head h).state.inFlight = true := by rw [hi.1, hb]; rfl
  change Host.Outcome.next (State.taken _ _ _ _) = _
  rw [State.taken_inTurn _ _ _ _ ht, State.forward_of _ hf, State.takeRx_head]
  cases hs : (s.head h).state with
  | armed | inBond | aborting => rfl
  | offline | idle | hold => rw [hs] at flying; exact absurd flying Bool.false_ne_true

/-- R31, R33: the close by LIFT. -/
theorem lift_closes (h : Head) (e : Envelope) (b : Bond) (s : State) (hi : HeadInv (s.head h))
    (hb : (s.head h).bond = some b) (ht : s.inTurn h.port (.lift h e) = true) :
    let f := (s.engine h).figures true
    let late := (s.head h).state == .aborting
    let weak := f.weakAt (s.head h).weakRun (s.engine h).weakLimit
    ∃ t, exec (.lift h e) s = .next t ∧ Closed h b f late false s t ∧
      t.ports = (((s.takeRx h.port (.lift h e)).closeBond h true late false).send .u
        (.forwarded ⟨e.dst, e.src, 0x11, [1] ++ e.extra⟩)).ports ∧
      Told h s (s.liftAlarms h b f weak (s.rejectsAt b f.cls)) t ∧ (t.head h).pause = (s.head h).pause := by
  intro f late weak
  have head := s.takeRx_head h.port (.lift h e) h
  have engine := s.takeRx_engine h.port (.lift h e) h
  have closed := (s.takeRx h.port (.lift h e)).closeBond_closed h b true late false (by rw [head]; exact hb)
  obtain ⟨told, pause⟩ := s.closeBond_told (s.takeRx h.port (.lift h e)) h b late false (Mirrors.takeRx _ _ _ _)
    head (by rw [head]; exact hb)
  rw [engine] at closed
  rw [head, engine] at told
  refine ⟨_, exec_lift hi hb ht, closed.passed _ _ _, State.markChanges_ports _ s, told.passed _ s, ?_⟩
  rw [State.markChanges_head, State.send_head]
  exact pause

/-! ## ABORTED and the abort timer -/

/-- R32: a head whose bond is in flight takes ABORTED as its close. -/
theorem exec_aborted {h : Head} {e : Envelope} {b : Bond} {s : State} (hi : HeadInv (s.head h))
    (hb : (s.head h).bond = some b) (ht : s.inTurn h.port (.aborted h e) = true) :
    exec (.aborted h e) s = .next ((((s.takeRx h.port (.aborted h e)).closeBond h false false false).send .u
      (.forwarded ⟨e.dst, e.src, 0x11, [2] ++ e.extra⟩)).markChanges s) := by
  have hf : frameOf (.aborted h e) = some (h.port, ⟨e.dst, e.src, 0x11, [2] ++ e.extra⟩) := rfl
  have flying : (s.head h).state.inFlight = true := by rw [hi.1, hb]; rfl
  change Host.Outcome.next (State.taken _ _ _ _) = _
  rw [State.taken_inTurn _ _ _ _ ht, State.forward_of _ hf, State.takeRx_head, if_pos flying]

/-- R32, R41: the BOND-REPORT of a bond that closes ABORTED. -/
def State.abortedReport (s : State) (h : Head) (b : Bond) : Msg :=
  let f := (s.engine h).figures false
  .bondReport b.record h b.unit b.wire b.kind .aborted f.energy f.deformation
    ⟨f.limit, f.gap, f.long, false, false⟩

/-- R33, R59: the head behind a close as ABORTED. -/
def HeadCtx.abortedAs (c : HeadCtx) (b : Bond) (f : Figures) : HeadCtx := { c with
  bond := none
  abortTimer := false
  state := c.holds.state
  last := some ⟨.aborted, b.kind, f.energy, f.deformation⟩
  results := c.results.countClass .aborted }

/-- R33, R59: a close as ABORTED, block by block. -/
theorem State.closeBond_aborted_blocks (s : State) (h : Head) (b : Bond) (hb : (s.head h).bond = some b) :
    let t := s.closeBond h false false false
    t.head h = (s.head h).abortedAs b ((s.engine h).figures false) ∧
      t.head (otherHead h) = s.head (otherHead h) ∧ t.alarms = s.alarms ∧ t.tables = s.tables ∧
      t.term = s.term ∧ t.track = s.track ∧ t.mgmt = s.mgmt ∧
      t.ports = (s.send .u (s.abortedReport h b)).ports := by
  intro t
  have ht : t = _ := s.closeBond_aborted h b false false hb
  rw [ht]
  refine ⟨?_, ?_, ?_, ?_, ?_, ?_, ?_, ?_⟩
  · rw [State.send_head, State.head_setHead_self]; rfl
  all_goals cases h <;> rfl

/-- R32, R33: the close by ABORTED. -/
theorem aborted_closes (h : Head) (e : Envelope) (b : Bond) (s : State) (hi : HeadInv (s.head h))
    (hb : (s.head h).bond = some b) (ht : s.inTurn h.port (.aborted h e) = true) :
    ∃ t, exec (.aborted h e) s = .next t ∧ Closed h b ((s.engine h).figures false) false false s t ∧
      t.track = s.track ∧ Told h s s t ∧
      t.ports = (((s.takeRx h.port (.aborted h e)).send .u (s.abortedReport h b)).send .u
        (.forwarded ⟨e.dst, e.src, 0x11, [2] ++ e.extra⟩)).ports ∧
      (t.head h).holds = (s.head h).holds ∧ (t.head h).claim = (s.head h).claim ∧
      (t.head h).pause = (s.head h).pause := by
  have head := s.takeRx_head h.port (.aborted h e)
  have engine := s.takeRx_engine h.port (.aborted h e) h
  have hb' : ((s.takeRx h.port (.aborted h e)).head h).bond = some b := by rw [head]; exact hb
  have closed := (s.takeRx h.port (.aborted h e)).closeBond_closed h b false false false hb'
  obtain ⟨own, other, alarms, -, term, track, -, ports⟩ :=
    (s.takeRx h.port (.aborted h e)).closeBond_aborted_blocks h b hb'
  rw [engine] at closed own
  rw [head] at own other
  have told : Told h s s ((s.takeRx h.port (.aborted h e)).closeBond h false false false) :=
    ⟨alarms, by rw [term]; rfl, other, by rw [own]; rfl, by rw [own]; exact ⟨rfl, rfl, rfl⟩⟩
  refine ⟨_, exec_aborted hi hb ht, closed.passed _ _ _, ?_, told.passed _ s, ?_, ?_, ?_, ?_⟩
  · rw [State.markChanges_track, State.send_track, track]; rfl
  · rw [State.markChanges_ports, State.send_ports, ports, State.abortedReport, engine]
    rfl
  all_goals rw [State.markChanges_head, State.send_head, own]; rfl

/-- R138, R143: what a raise leaves of a head that follows its hold reasons. -/
theorem HeadCtx.raised_still (c : HeadCtx) (k : Head) (l : List AlarmEntry) (listed stops : Bool)
    (hc : c.state = c.holds.state) : c.raised k l listed stops = { c with
      holds := (c.raised k l listed stops).holds, state := (c.raised k l listed stops).holds.state } := by
  have hj : c.judge k l = { c with holds := c.holds.judged k l, state := (c.holds.judged k l).state } := by
    rw [HeadCtx.judge_fields, hc, Holds.state_inFlight]; simp
  have hcut : (c.judge k l).cut = c.judge k l :=
    HeadCtx.cut_of_not_cuttable _ (by rw [hj]; exact Holds.state_cuttable _)
  unfold HeadCtx.raised
  rw [hcut]
  cases listed <;> cases stops <;> simp [hj, ← hc]

/-- R138, R144: the frames of a raise, by what they look at. -/
theorem Mirrors.raisePorts {h : Head} {u t : State} (m : Mirrors h u t) (c : AlarmClass) (o : AlarmObject)
    (p : Ports) (ports : t.ports = p) (held : t.track.held = u.track.held)
    (started : t.mgmt.started = u.mgmt.started)
    (cut : (t.head h).state.cuttable = (u.head h).state.cuttable) :
    t.raisePorts c o = ({ u with ports := p } : State).raisePorts c o := by
  obtain ⟨entry, stops⟩ := m.stops c o
  have cutA : t.headA.state.cuttable = u.headA.state.cuttable := by
    cases h
    · exact cut
    · exact congrArg (fun c : HeadCtx => c.state.cuttable) m.other
  have cutB : t.headB.state.cuttable = u.headB.state.cuttable := by
    cases h
    · exact congrArg (fun c : HeadCtx => c.state.cuttable) m.other
    · exact cut
  have entry' : ({ u with ports := p } : State).actionEntry c = u.actionEntry c := rfl
  have stops' : ({ u with ports := p } : State).stops c o = u.stops c o := rfl
  unfold State.raisePorts
  simp only [entry, stops, entry', stops', m.alarms, ports, held, started, cutA, cutB]

/-- R41: what the expiry of the abort timer does. -/
def State.abortExpired (s : State) (h : Head) : State :=
  ((s.closeBond h false false false).raise .headFault (.head h)).updateHead h fun c =>
    { c with pause := some .now }.addOperator

/-- R33, R41: the close by the abort timer. -/
theorem State.abortExpired_closes (s : State) (h : Head) (b : Bond) (hb : (s.head h).bond = some b)
    (hs : (s.head h).state = .aborting) :
    let t := s.abortExpired h
    Closed h b ((s.engine h).figures false) false false s t ∧ (t.head h).pause = some .now ∧
      (t.head h).holds.operator = true ∧ (t.head h).claim = (s.head h).claim ∧
      Told h s (s.raise .headFault (.head h)) t ∧ t.track = (s.raise .headFault (.head h)).track ∧
      t.ports = ((s.send .u (s.abortedReport h b)).raise .headFault (.head h)).ports := by
  intro t
  have closed := s.closeBond_closed h b false false false hb
  obtain ⟨own, other, alarms, tables, term, track, mgmt, ports⟩ := s.closeBond_aborted_blocks h b hb
  have still := closed.state
  have mirrors : Mirrors h s (s.closeBond h false false false) :=
    ⟨alarms, tables, by rw [term], other, by rw [own]; rfl⟩
  obtain ⟨-, stops⟩ := mirrors.stops .headFault (.head h)
  have raised := mirrors.raise .headFault (.head h)
  have queued := mirrors.raisePorts .headFault (.head h) (s.send .u (s.abortedReport h b)).ports ports
    (by rw [track]) (by rw [mgmt]) (by rw [own, hs]; exact Holds.state_cuttable _)
  have head : t.head h = { (((s.closeBond h false false false).raise .headFault (.head h)).head h) with
      pause := some .now }.addOperator := by simp [t, State.abortExpired]
  have follows := HeadCtx.raised_still ((s.closeBond h false false false).head h) h
    ((s.closeBond h false false false).raise .headFault (.head h)).alarms.entries
    (Alarms.find (s.closeBond h false false false).alarms.entries .headFault (.head h)).isSome
    ((s.closeBond h false false false).stops .headFault (.head h)) still
  rw [← State.raise_head] at follows
  have carries (m : Msg) := (s.closeBond h false false false).raise_carries .headFault (.head h) m
  have blocks := (s.closeBond h false false false).raise_eq .headFault (.head h)
  have ht : t = ((s.closeBond h false false false).raise .headFault (.head h)).updateHead h fun c =>
      { c with pause := some .now }.addOperator := rfl
  clear_value t
  generalize s.closeBond h false false false = v at *
  obtain ⟨x, hx, kept⟩ : ∃ x : Holds,
      x = { ((v.raise .headFault (.head h)).head h).holds with operator := true } ∧
        t.head h = { v.head h with state := x.state, holds := x, pause := some .now } := by
    refine ⟨_, rfl, ?_⟩
    rw [head, HeadCtx.addOperator_eq, follows]
    simp only [Holds.state_inFlight]
    cases hl : ((v.raise .headFault (.head h)).head h).holds.link <;> simp [Holds.state, Holds.any]
  refine ⟨?_, by rw [kept], by rw [kept, hx], by rw [kept, own]; rfl, ⟨?_, ?_, ?_, ?_, ?_⟩, ?_, ?_⟩
  · refine closed.behind ?_ (fun k => ?_) ?_ ?_ ?_ ?_ ?_ fun m hm => ?_
    · rw [kept]
    · rw [ht, State.updateHead_engine, blocks]; cases k <;> rfl
    · rw [ht, State.updateHead_store, blocks]
    · rw [ht, State.updateHead_tables, blocks]
    · rw [ht, State.updateHead_puller, blocks]
    · rw [ht, State.updateHead_mgmt, blocks]
    · rw [ht, State.updateHead_pending, blocks]
    · have := carries m hm
      rw [ht]; cases h <;> exact this
  · rw [ht, State.updateHead_alarms]; exact raised.alarms
  · have same : t.term = (v.raise .headFault (.head h)).term := by rw [ht]; cases h <;> rfl
    rw [same]; exact raised.term
  · rw [ht]; exact (State.head_updateHead_other _ _ _).trans raised.other
  · rw [kept, hx, raised.holds]
  · rw [kept, own]; exact ⟨rfl, rfl, rfl⟩
  · have same : t.track = (v.raise .headFault (.head h)).track := by rw [ht]; cases h <;> rfl
    rw [same, blocks, State.raise_eq s]
    dsimp only
    rw [stops, track]
  · have same : t.ports = (v.raise .headFault (.head h)).ports := by rw [ht]; cases h <;> rfl
    rw [same, blocks, State.raise_eq (s.send .u _)]
    exact queued

/-! ## The statement -/

/-- R64, R65, R35: the alarms of a close by LIFT, as a list with their conditions. -/
theorem State.liftAlarms_eq_foldl (s : State) (h : Head) (b : Bond) (f : Figures) (n limit rebonds : Nat)
    (failed : Prop) [Decidable failed] (hn : failed ↔ f.cls = .nonstick ∨ f.cls = .noData)
    (hr : rebonds = (s.tables.program b.program).elim 0 fun p => p.rebond) :
    [(decide (f.cls = .nonstick), if b.kind = .ball then AlarmClass.nonstickBall else .nonstickStitch),
      (decide (f.cls = .overBond), .overBond),
      (decide (f.cls = .noData ∨ 16 ≤ f.missing), .sampleLoss),
      (decide (f.cls = .weak ∧ limit ≤ min 255 (n + 1)), .weakRun),
      (decide failed && s.track.bond.any fun x => rebonds < ((x.units[b.unit]?).elim 0 fun r => r.rebond) + 1,
        .rebondLimit)].foldl (fun (u : State) y => if y.1 then u.raise y.2 (.head h) else u) s =
      s.liftAlarms h b f (f.weakAt n limit) (s.rejectsAt b f.cls) := by
  have kind : (if b.kind = .ball then AlarmClass.nonstickBall else .nonstickStitch) = nonstickAlarm b.kind := by
    cases b.kind <;> rfl
  rw [kind, State.rejectsAt_eq, decide_eq_decide.mpr hn, hr]
  rfl

/-- Settles O34: LIFT, ABORTED and the abort timer each close the bond; the alarms of a close are those raised
from the state before it. -/
theorem closesOfABond : Obligations.ClosesOfABond := by
  unfold Obligations.ClosesOfABond
  refine ⟨fun h e b s hi hb => ?_, fun h s hs => ?_⟩
  · intro f failed weakLimit rebondLimit rebonds raised passedOn o told aborted report
    have folded : raised.foldl (fun (u : State) y => if y.1 then u.raise y.2 (.head h) else u) s =
        s.liftAlarms h b f (f.weakAt (s.head h).weakRun weakLimit) (s.rejectsAt b f.cls) :=
      s.liftAlarms_eq_foldl h b f _ weakLimit rebondLimit failed Iff.rfl rfl
    have of_told {u t : State} (k : Told h s u t) : told u t :=
      ⟨k.alarms, k.term, k.other, k.holds, k.efo⟩
    refine ⟨fun ht => ?_, fun ht => ?_, ?_⟩
    · obtain ⟨t, hx, closed, ports, k, pause⟩ := lift_closes h e b s hi hb ht
      rw [folded]
      exact ⟨t, hx, closed, ports, of_told k, pause⟩
    · obtain ⟨t, hx, closed, track, k, ports, holds, claim, pause⟩ := aborted_closes h e b s hi hb ht
      exact ⟨t, hx, closed, track, of_told k, ports, holds, claim, pause⟩
    · refine ⟨_, rfl, ?_⟩
      by_cases hs : (s.head h).state = .aborting
      · have timer : (s.head h).abortTimer = true ∧ (s.head h).state = .aborting := ⟨hi.2.1.mpr hs, hs⟩
        rw [if_pos timer, if_pos hs]
        obtain ⟨closed, pause, operator, claim, k, track, ports⟩ := s.abortExpired_closes h b hb hs
        refine ⟨?_, ?_, ?_, ?_, of_told (k.marked s), ?_, ?_⟩
        · exact closed.behind (by rw [State.happens, State.markChanges_head]; exact closed.head_eq)
            (fun i => State.markChanges_engine _ s i) (State.markChanges_store _ s)
            (State.markChanges_tables _ s) (State.markChanges_puller _ s) (State.markChanges_mgmt _ s)
            (State.markChanges_pending _ s) fun m hm => by
              rw [State.happens, State.markChanges_ports]; exact hm
        · rw [State.happens, State.markChanges_head]; exact pause
        · rw [State.happens, State.markChanges_head]; exact operator
        · rw [State.happens, State.markChanges_head]; exact claim
        · exact (State.markChanges_track _ s).trans track
        · exact (State.markChanges_ports _ s).trans ports
      · rw [if_neg hs, if_neg fun k => hs k.2]
  · have off : ¬((s.head h).abortTimer = true ∧ (s.head h).state = .aborting) := by
      rintro ⟨ht, ha⟩
      rcases hs with hs | hs | ⟨hi, hb⟩
      · rw [hs] at ht; cases ht
      · exact hs ha
      · have := hi.1
        rw [ha, hb] at this
        cases this
    change Host.Outcome.next (ite _ _ _) = _
    rw [if_neg off]

end Sys2Proof.Machine
end

section
/-! SUPPORT. The unit record, its pins, the claim and the gate at a close by LIFT: the statement (R29, R34, R35,
R76, R78, R100). -/

namespace Sys2Proof.Machine

/-! ## The unit -/

/-- R34: a bond that a unit counts by its class. -/
def UnitRecord.counted (r : UnitRecord) (c : BondClass) : UnitRecord := { r with
  weakCount := if c = .weak then min 65535 (r.weakCount + 1) else r.weakCount
  overCount := if c = .overBond then min 65535 (r.overCount + 1) else r.overCount }

/-- R34, R35: the unit behind a close by LIFT. -/
theorem UnitRecord.afterClose_eq (r : UnitRecord) (m : WireMap) (b : Bond) (limit : Nat) (c : BondClass)
    (hc : c ≠ .aborted) : r.afterClose m b limit c =
      if c = .nonstick ∨ c = .noData then { r with
        rebond := r.rebond + 1, state := if limit < r.rebond + 1 then .reject else r.state }
      else if b.kind = .ball then { r.counted c with phase := .stitchDue }
      else { r.counted c with
        completed := r.completed + 1
        cursor := m.wireFrom (b.wire + 1)
        phase := .ballDue
        rebond := 0
        state := if m.wireFrom (b.wire + 1) = none then .done else r.state } := by
  have half (c : BondClass) : r.completeHalf m b c =
      if b.kind = .ball then { r.counted c with phase := .stitchDue }
      else { r.counted c with
        completed := r.completed + 1
        cursor := m.wireFrom (b.wire + 1)
        phase := .ballDue
        rebond := 0
        state := if m.wireFrom (b.wire + 1) = none then .done else r.state } := by
    unfold UnitRecord.completeHalf
    cases b.kind <;> rfl
  cases c
  case aborted => exact absurd rfl hc
  case nonstick => rfl
  case noData => rfl
  all_goals rw [if_neg (by simp)]; exact half _

/-- R34, R35: how the claimed unit of a close stands behind it. -/
theorem UnitRecord.afterClose_ends (r : UnitRecord) (m : WireMap) (b : Bond) (limit : Nat) (c : BondClass)
    (h : Head) (hr : r.state = .claimed h) :
    ((r.afterClose m b limit c).state = .reject ↔ rejectsUnit limit r.rebond c = true) ∧
    ((r.afterClose m b limit c).state = .done ∨ (r.afterClose m b limit c).state = .reject ↔
      (completesUnit m b c || rejectsUnit limit r.rebond c) = true) ∧
    ((r.afterClose m b limit c).state = .claimed h ↔
      (completesUnit m b c || rejectsUnit limit r.rebond c) = false) := by
  have disjoint : completesUnit m b c = true → rejectsUnit limit r.rebond c = false := by
    cases c <;> simp [completesUnit, rejectsUnit, BondClass.completes]
  rw [UnitRecord.afterClose_state, hr]
  cases hc : completesUnit m b c
  · cases rejectsUnit limit r.rebond c <;> simp
  · simp [disjoint hc]

/-! ## The records -/

/-- The last element that satisfies `f`. -/
theorem find?_reverse_eq_getLast? {α : Type} (f : α → Bool) (l : List α) :
    l.reverse.find? f = (l.filter f).getLast? := by
  rw [List.getLast?_eq_head?_reverse, ← List.filter_reverse, List.head?_filter]

/-- R76: the wires that the plan selects. -/
theorem Tables.selects_iff (t : Tables) (x : Strip) (u w : Nat) :
    t.selects x u w = true ↔ u ∈ (t.plan x.device).units ∧ w ∈ (t.plan x.device).wires ∧
      u < t.columnsOf x * t.rowsOf x ∧ w < (t.wiresOf x).length ∧ ((t.wiresOf x).slot w).skip = false := by
  simp [Tables.selects, and_assoc]

/-- R76: the final BALL record of a wire. -/
theorem Store.finalBall_eq (y : Store) (strip unit wire : Nat) : y.finalBall strip unit wire =
    (y.records.filter fun z => z.strip == strip && z.unit == unit && z.wire == wire &&
      z.kind == .ball && (z.cls == .good || z.cls == .weak || z.cls == .overBond)).getLast? := by
  have completes (c : BondClass) : c.completes = (c == .good || c == .weak || c == .overBond) := by
    cases c <;> rfl
  unfold Store.finalBall
  rw [find?_reverse_eq_getLast?]
  simp only [BondRecord.isOf, completes]

/-- R76, R78: the records behind a close. -/
theorem Store.afterClose_records (y : Store) (t : Tables) (x : Strip) (b : Bond) (c : BondClass)
    (limit : Nat) (hc : c ≠ .aborted) : (y.afterClose t x b c limit).records =
      if rejectsUnit limit (x.rebonds b.unit) c = true then y.records.map fun z =>
        if z.strip = x.id ∧ z.unit = b.unit then { z with pinned := false } else z
      else if b.kind = .stitch ∧ ¬(c = .nonstick ∨ c = .noData) ∧ x.pullDue = true ∧
          t.selects x b.unit b.wire = true then
        (y.records.filter fun z => z.strip == b.strip && z.unit == b.unit && z.wire == b.wire &&
          z.kind == .ball && (z.cls == .good || z.cls == .weak || z.cls == .overBond)).getLast?.elim y.records
            fun q => y.records.map fun z =>
              if z.number = q.number ∨ z.number = b.record then { z with pinned := true } else z
      else y.records := by
  have pins : pinsWire t x b c = true ↔ b.kind = .stitch ∧ ¬(c = .nonstick ∨ c = .noData) ∧
      x.pullDue = true ∧ t.selects x b.unit b.wire = true := by
    cases c
    case aborted => exact absurd rfl hc
    all_goals simp [pinsWire, BondClass.completes]
  unfold Store.afterClose
  split
  · exact List.map_congr_left fun z _ => by simp only [Bool.and_eq_true, beq_iff_eq]
  · by_cases hp : pinsWire t x b c = true
    · rw [if_pos hp, if_pos (pins.mp hp), ← Store.finalBall_eq, Store.pinWire]
      cases y.finalBall b.strip b.unit b.wire with
      | none => rfl
      | some q => exact List.map_congr_left fun z _ => by simp only [Bool.or_eq_true, beq_iff_eq]
    · rw [if_neg hp, if_neg (mt pins.mpr hp)]

/-! ## The close by LIFT ahead of the end of the claim -/

/-- R100: what the judging of a held request changes of the track. -/
theorem State.releaseGate_track (s : State) : s.releaseGate.track = { s.track with
    held := s.releaseGate.track.held
    holdTimer := s.releaseGate.track.holdTimer
    inFlight := s.releaseGate.track.inFlight
    doneTimer := s.releaseGate.track.doneTimer } := by
  unfold State.releaseGate
  cases s.track.held with
  | none => rfl
  | some q =>
    dsimp only
    split
    · unfold State.forwardIndex
      dsimp only
      split <;> rfl
    · rfl

/-- R34, R35, R76, R78: what a close leaves of the track, the records and the claims, from `v` to `t`; `c` is
the class, `l` the records with that of the bond. -/
structure UnitClosed (h : Head) (b : Bond) (x : Strip) (r : UnitRecord) (c : BondClass) (l : Store)
    (v t : State) : Prop where
  tables : t.tables = v.tables
  track : t.track = { v.track with
    bond := some { x with
      units := x.units.set b.unit (r.afterClose (v.tables.wiresOf x) b (v.rebondLimit b) c) }
    held := t.track.held
    holdTimer := t.track.holdTimer }
  quiet : safeStopStands t.alarms.entries = false → safeStopStands v.alarms.entries = false ∧
    t.track.held = v.track.held ∧ t.track.holdTimer = v.track.holdTimer ∧ t.port .ix = v.port .ix
  records : t.store.records = (l.afterClose v.tables x b c (v.rebondLimit b)).records
  claim : (t.head h).claim = if endsClaim v.tables x b c (v.rebondLimit b) then none else (v.head h).claim
  other : (t.head (otherHead h)).claim = (v.head (otherHead h)).claim
  listed : rejectsUnit (v.rebondLimit b) (x.rebonds b.unit) c = true →
    (Alarms.find t.alarms.entries .rebondLimit (.head h)).any (fun y => y.state = .activeUnacked) = true

/-- R33 step 6: the unit of a close, ahead of its REBOND-LIMIT. -/
theorem State.unitMoved_closed (s : State) (h : Head) (b : Bond) (c : BondClass) (x : Strip) (r : UnitRecord)
    (hr : x.units[b.unit]? = some r)
    (hn : rejectsUnit (s.rebondLimit b) (x.rebonds b.unit) c = false) :
    UnitClosed h b x r c s.store s (s.unitMoved h b c x) where
  tables := by cases h <;> rfl
  track := by
    rw [← Strip.updateUnit_eq_set x b.unit (fun r => r.afterClose (s.tables.wiresOf x) b (s.rebondLimit b) c) r hr]
    cases h <;> rfl
  quiet q := by cases h <;> exact ⟨q, rfl, rfl, rfl⟩
  records := by cases h <;> rfl
  claim := by
    rw [State.unitMoved_head, HeadCtx.dropClaim]
    split <;> rfl
  other := by rw [State.unitMoved_other]
  listed k := by rw [hn] at k; cases k

/-- R35: the unit of a close, behind its REBOND-LIMIT. -/
theorem State.unitMoved_raised (s : State) (h : Head) (b : Bond) (c : BondClass) (x : Strip) (r : UnitRecord)
    (hr : x.units[b.unit]? = some r) (hs : (s.head h).state = .aborting) :
    UnitClosed h b x r c s.store s ((s.unitMoved h b c x).raise .rebondLimit (.head h)) := by
  have moved := s.unitMoved_unitKept h b c x
  have a := (s.unitMoved h b c x).raise_alarmed .rebondLimit (.head h) h (moved.aborting hs)
  have track : (s.unitMoved h b c x).track = { s.track with bond := some { x with
      units := x.units.set b.unit (r.afterClose (s.tables.wiresOf x) b (s.rebondLimit b) c) } } := by
    rw [← Strip.updateUnit_eq_set x b.unit (fun r => r.afterClose (s.tables.wiresOf x) b (s.rebondLimit b) c) r hr]
    cases h <;> rfl
  exact {
    tables := a.tables.trans moved.tables
    track := by rw [a.track, track]
    quiet := fun q => by
      obtain ⟨q1, q2, q3⟩ := a.quiet q
      rw [q2, q3, track]
      cases h <;> exact ⟨q1, rfl, rfl, rfl⟩
    records := by rw [a.store]; cases h <;> rfl
    claim := by
      rw [a.head, State.unitMoved_head, HeadCtx.dropClaim]
      split <;> rfl
    other := by rw [a.other.sameWork.1, State.unitMoved_other]
    listed := fun _ => State.raise_listed _ _ _ }

theorem State.moveUnit_closed (s : State) (h : Head) (b : Bond) (c : BondClass) (x : Strip) (r : UnitRecord)
    (hx : s.track.bond = some x) (hr : x.units[b.unit]? = some r) (hs : (s.head h).state = .aborting) :
    UnitClosed h b x r c s.store s (s.moveUnit h b c) := by
  rw [s.moveUnit_eq h b c x hx]
  split
  · exact s.unitMoved_raised h b c x r hr hs
  · next hn => exact s.unitMoved_closed h b c x r hr (by simpa using hn)

/-- R33 to R35, R76, R78: the unit, the records and the claims behind a close, ahead of the end of the claim. -/
theorem State.closeDone_unit (v : State) (h : Head) (b : Bond) (x : Strip) (r : UnitRecord) (f : Figures)
    (late link : Bool) (hx : v.track.bond = some x) (hr : x.units[b.unit]? = some r) :
    UnitClosed h b x r f.cls (v.store.write (bondRecordOf v.mgmt.time h b f late link)) v
      (v.closeDone h b f late link) := by
  have a := v.closeBegun_alarmed h b f late link
  have begun : (v.closeBegun h b f late link).track = v.track := by cases h <;> rfl
  have port : (v.closeBegun h b f late link).port .ix = v.port .ix := by cases h <;> rfl
  have tables : (v.closeReported h b f late link).tables = v.tables := a.tables.trans (by cases h <;> rfl)
  have limit : (v.closeReported h b f late link).rebondLimit b = v.rebondLimit b := by
    rw [State.rebondLimit, tables]; rfl
  have store : (v.closeReported h b f late link).store =
      v.store.write (bondRecordOf v.mgmt.time h b f late link) := a.store.trans (by cases h <;> rfl)
  have track : (v.closeReported h b f late link).track = { v.track with
      held := (v.closeReported h b f late link).track.held
      holdTimer := (v.closeReported h b f late link).track.holdTimer } := by
    have := a.track
    rwa [begun] at this
  have hs : ((v.closeReported h b f late link).head h).state = .aborting := by
    rw [State.closeReported, State.send_head]
    exact a.aborting (by rw [State.closeBegun_head]; rfl)
  have m := (v.closeReported h b f late link).moveUnit_closed h b f.cls x r (by rw [track]; exact hx) hr hs
  have claim (k : Head) : ((v.closeReported h b f late link).head k).claim = (v.head k).claim := by
    rw [State.closeReported, State.send_head]
    rcases head_eq_or_other h k with rfl | rfl
    · rw [a.head, State.closeBegun_head]; rfl
    · rw [a.other.sameWork.1]; cases h <;> rfl
  obtain ⟨m1, m2, m3, m4, m5, m6, m7⟩ := m
  rw [State.closeDone_eq]
  rw [tables, limit] at m2 m4 m5
  rw [limit] at m7
  exact {
    tables := by rw [State.updateHead_tables, m1, tables]
    track := by rw [State.updateHead_track, m2, track]
    quiet := fun q => by
      rw [State.updateHead_alarms] at q
      obtain ⟨q1, held, timer, ix⟩ := m3 q
      obtain ⟨r1, same, ix'⟩ := a.quiet q1
      have same : (v.closeReported h b f late link).track = v.track := same.trans begun
      have reported : (v.closeReported h b f late link).port .ix = v.port .ix :=
        (State.send_port_ne _ .u .ix _ (by decide)).trans (ix'.trans port)
      rw [State.updateHead_track, held, timer, same]
      refine ⟨?_, rfl, rfl, ?_⟩
      · cases h <;> exact r1
      · refine Eq.trans ?_ (ix.trans reported)
        cases h <;> rfl
    records := by rw [State.updateHead_store, m4, store]
    claim := by rw [State.head_updateHead_self, ← claim h]; exact m5
    other := by rw [State.head_updateHead_other, m6, claim]
    listed := fun k => by rw [State.updateHead_alarms]; exact m7 k }

/-! ## OPERATOR -/

theorem State.raise_operator (s : State) (c : AlarmClass) (o : AlarmObject) (k : Head) :
    ((s.raise c o).head k).holds.operator = (s.head k).holds.operator := by
  rw [State.raise_head, HeadCtx.raised_holds]
  split <;> rfl

theorem State.raiseIf_operator (s : State) (p : Bool) (c : AlarmClass) (h k : Head) :
    ((s.raiseIf p c h).head k).holds.operator = (s.head k).holds.operator := by
  unfold State.raiseIf
  split
  · exact s.raise_operator _ _ k
  · rfl

/-- R143: no alarm of a close adds or takes OPERATOR. -/
theorem State.liftAlarms_operator (s : State) (h : Head) (b : Bond) (f : Figures) (w j : Bool) (k : Head) :
    ((s.liftAlarms h b f w j).head k).holds.operator = (s.head k).holds.operator := by
  simp only [State.liftAlarms, State.raiseIf_operator]

/-! ## The gate behind the close -/

/-- R100: what a release event that follows a close leaves of a held request, from the track `d` with the strip
`bond` at BOND to the track `e`. -/
def HeldJudged (t : Tables) (d : Track) (bond : Strip) (room : Prop) [Decidable room] (e : Track) : Prop :=
  let reasons (k : IndexKind) : GateReasons := ⟨
    bond.units.zipIdx.any fun y => (k == .transfer || t.inWindow bond y.2) && y.1.state.isClaim,
    k == .transfer && d.pull.any fun y => y.pullState == .waiting || y.pullState == .ordered,
    k == .transfer && d.exit.isSome && d.magOut.state != .ready⟩
  ∀ q ∈ d.held,
    if reasons q.kind = ⟨false, false, false⟩ then
      e.held = none ∧ e.holdTimer = none ∧
      e.inFlight = if room then some ⟨q.kind,
          if q.kind = .transfer ∧ d.magIn.state = .ready then some d.magIn.cursor else none,
          if q.kind = .transfer ∧ d.exit.isSome then some d.magOut.cursor else none,
          false, false⟩
        else d.inFlight
    else e.held = some ⟨q.kind, reasons q.kind⟩ ∧ e.holdTimer = d.holdTimer ∧ e.inFlight = d.inFlight

theorem State.releaseGate_held (s : State) (d : Track) (bond : Strip) (room : Prop) [Decidable room]
    (hd : s.track = { d with bond := some bond }) (hroom : (s.port .ix).tx.length < 8 ↔ room) :
    HeldJudged s.tables d bond room s.releaseGate.track ∧
      (d.held = none → s.releaseGate.track.held = d.held ∧ s.releaseGate.track.holdTimer = d.holdTimer ∧
        s.releaseGate.track.inFlight = d.inFlight) := by
  obtain ⟨none, some⟩ := s.releaseGate_judges
  rw [hd] at none some
  refine ⟨fun q hq => ?_, fun hn => ?_⟩
  · have judged := some q hq
    dsimp only [Option.any_some] at judged
    split at judged
    · next hr => rw [if_neg hr, judged.1]; exact ⟨rfl, rfl, rfl⟩
    · next hr =>
      rw [if_pos (not_not.mp hr)]
      split at judged
      · next hl => rw [if_pos (hroom.mp hl), judged.1]; exact ⟨rfl, rfl, rfl⟩
      · next hl => rw [if_neg (mt hroom.mpr hl), judged.1]; exact ⟨rfl, rfl, rfl⟩
  · rw [(none hn).1]
    exact ⟨rfl, rfl, rfl⟩

/-! ## The whole close -/

/-- R29, R34, R35, R76, R78, R100: what a close by LIFT leaves of the unit, the records, the claims, OPERATOR and
the gate, from `v` to `t`, where the unit `r` of the strip `x` at BOND becomes `after`, and `ends` says that the
claim ends. -/
structure UnitLeft (h : Head) (b : Bond) (x : Strip) (after : UnitRecord) (ends : Bool) (l : List BondRecord)
    (rejects : Bool) (v t : State) : Prop where
  bond : t.track.bond = some { x with units := x.units.set b.unit after }
  rest : t.track.entry = v.track.entry ∧ t.track.pull = v.track.pull ∧ t.track.exit = v.track.exit
  records : t.store.records = l
  listed : rejects = true →
    (Alarms.find t.alarms.entries .rebondLimit (.head h)).any (fun y => y.state = .activeUnacked) = true
  claim : (t.head h).claim = if ends then none else some b.unit
  other : (t.head (otherHead h)).claim = (v.head (otherHead h)).claim
  operator : (t.head h).holds.operator =
    ((v.head h).holds.operator || decide (ends = true ∧ (v.head h).pause = some .afterUnit))
  gate : safeStopStands t.alarms.entries = false →
    (ends = false ∨ v.track.held = none → t.track.held = v.track.held ∧
      t.track.holdTimer = v.track.holdTimer ∧ t.track.inFlight = v.track.inFlight) ∧
    (ends = true → HeldJudged v.tables v.track { x with units := x.units.set b.unit after }
      ((v.port .ix).tx.length < 8) t.track)

/-- R29, R33 to R35: the close by LIFT of a bond whose unit its head has claimed. -/
theorem State.closeBond_unit (v : State) (h : Head) (b : Bond) (x : Strip) (r : UnitRecord) (late link : Bool)
    (hb : (v.head h).bond = some b) (hx : v.track.bond = some x) (hr : x.units[b.unit]? = some r)
    (hclaim : (v.head h).claim = some b.unit) :
    let f := (v.engine h).figures true
    UnitLeft h b x (r.afterClose (v.tables.wiresOf x) b (v.rebondLimit b) f.cls)
      (endsClaim v.tables x b f.cls (v.rebondLimit b))
      ((v.store.write (bondRecordOf v.mgmt.time h b f late link)).afterClose v.tables x b f.cls
        (v.rebondLimit b)).records
      (rejectsUnit (v.rebondLimit b) (x.rebonds b.unit) f.cls) v (v.closeBond h true late link) := by
  intro f
  have d := v.closeDone_unit h b x r f late link hx hr
  obtain ⟨pause, -⟩ := v.closeDone_head h b f late link
  have mirrors := v.closeDone_mirrors v h b f late link (v.engine h).figures_lift
    ⟨rfl, rfl, rfl, rfl, rfl⟩
  have operator : ((v.closeDone h b f late link).head h).holds.operator = (v.head h).holds.operator := by
    rw [mirrors.holds]; exact v.liftAlarms_operator h b f _ _ h
  rw [v.closeBond_eq h b true late link hb]
  generalize v.closeDone h b f late link = w at *
  obtain ⟨tables, track, quiet, records, claim, other, listed⟩ := d
  rw [hclaim] at claim
  have entries : w.track.entry = v.track.entry ∧ w.track.pull = v.track.pull ∧ w.track.exit = v.track.exit := by
    rw [track]; exact ⟨rfl, rfl, rfl⟩
  cases he : endsClaim v.tables x b f.cls (v.rebondLimit b)
  · rw [he] at claim
    rw [if_neg fun k => by simp [claim] at k]
    refine ⟨by rw [track], entries, records, listed, claim, other, by simp [operator],
      fun q => ⟨fun _ => ?_, ?_⟩⟩
    · obtain ⟨-, held, timer, -⟩ := quiet q
      exact ⟨held, timer, by rw [track]⟩
    · exact fun k => absurd k Bool.false_ne_true
  · rw [he] at claim
    rw [if_pos ⟨by rw [hclaim]; rfl, claim⟩]
    obtain ⟨ta, -, ho, hh⟩ := w.claimEnded_told h
    have gone : (w.claimEnded h).track.bond = w.track.bond :=
      (State.releaseGate_bond _).trans (by rw [State.updateHead_track])
    have rest : (w.claimEnded h).track.entry = w.track.entry ∧ (w.claimEnded h).track.pull = w.track.pull ∧
        (w.claimEnded h).track.exit = w.track.exit := by
      rw [State.claimEnded, State.releaseGate_track, State.updateHead_track]
      exact ⟨rfl, rfl, rfl⟩
    obtain ⟨entry, pull, exit⟩ := entries
    obtain ⟨entry', pull', exit'⟩ := rest
    refine ⟨by rw [gone, track], ⟨entry'.trans entry, pull'.trans pull, exit'.trans exit⟩, ?_, ?_, ?_, ?_, ?_, fun q => ?_⟩
    · rw [← records, State.claimEnded, State.releaseGate_eq]
      dsimp only
      rw [State.updateHead_store]
    · rw [ta]; exact listed
    · rw [hh]; exact claim
    · rw [ho]; exact other
    · rw [State.claimEnded_head, ← operator, ← pause]
      split
      · next hp => simp [HeadCtx.addOperator_eq, hp]
      · next hp => simp [hp]
    · rw [ta] at q
      obtain ⟨-, held, timer, ix⟩ := quiet q
      rw [held, timer] at track
      have judged := State.releaseGate_held (w.updateHead h fun c =>
        if c.pause = some .afterUnit then c.addOperator else c) v.track _ ((v.port .ix).tx.length < 8)
        (by rw [State.updateHead_track, track]) (by
          rw [← ix]; cases h <;> exact Iff.rfl)
      rw [State.updateHead_tables, tables] at judged
      exact ⟨fun k => judged.2 (k.resolve_left (by simp)), fun _ => judged.1⟩

/-! ## The statement -/

/-- Settles O35: the unit moves with the class of its bond, and all that follows it is read off the close. -/
theorem unitsMoveAtAClose : Obligations.UnitsMoveAtAClose := by
  unfold Obligations.UnitsMoveAtAClose
  intro h e b x r s hi hb hx hr hstate hclaim f next failed limit counted after record plan m selected
    isFinalBall ends bond reasons ht
  have head := s.takeRx_head h.port (.lift h e)
  have engine := s.takeRx_engine h.port (.lift h e) h
  have left := (s.takeRx h.port (.lift h e)).closeBond_unit h b x r ((s.head h).state == .aborting) false
    (by rw [head]; exact hb) hx hr (by rw [head]; exact hclaim)
  obtain ⟨-, pause⟩ := s.closeBond_told (s.takeRx h.port (.lift h e)) h b ((s.head h).state == .aborting) false
    (Mirrors.takeRx _ _ _ _) (head h) (by rw [head]; exact hb)
  rw [engine] at left
  have lift : f.cls ≠ .aborted := (s.engine h).figures_lift
  have moved : r.afterClose (s.tables.wiresOf x) b limit f.cls = after :=
    r.afterClose_eq (s.tables.wiresOf x) b limit f.cls lift
  obtain ⟨rejects, closes, stays⟩ := r.afterClose_ends (s.tables.wiresOf x) b limit f.cls h hstate
  have rebonds : x.rebonds b.unit = r.rebond := by rw [Strip.rebonds, hr]; rfl
  have ended : endsClaim s.tables x b f.cls limit =
      (completesUnit (s.tables.wiresOf x) b f.cls || rejectsUnit limit r.rebond f.cls) := by
    rw [endsClaim, rebonds]
  rw [moved] at rejects closes stays
  rw [← ended] at closes stays
  have left : UnitLeft h b x after (endsClaim s.tables x b f.cls limit)
      ((s.store.write record).afterClose s.tables x b f.cls limit).records
      (rejectsUnit limit (x.rebonds b.unit) f.cls) (s.takeRx h.port (.lift h e))
      ((s.takeRx h.port (.lift h e)).closeBond h true ((s.head h).state == .aborting) false) := by
    rw [← moved]; exact left
  obtain ⟨hbond, ⟨entry, pull, exit⟩, records, listed, claim, other, operator, gate⟩ := left
  rw [(s.takeRx_lines h.port .ix (.lift h e)).1] at gate
  refine ⟨_, exec_lift hi hb ht, ?_⟩
  simp only [State.markChanges_track, State.markChanges_store, State.markChanges_alarms, State.markChanges_head,
    State.send_track, State.send_store, State.send_alarms, State.send_head]
  generalize (s.takeRx h.port (.lift h e)).closeBond h true ((s.head h).state == .aborting) false = t at *
  have records : t.store.records = if after.state = .reject then (s.store.write record).records.map fun y =>
        if y.strip = x.id ∧ y.unit = b.unit then { y with pinned := false } else y
      else if b.kind = .stitch ∧ ¬failed ∧ x.pullDue = true ∧ selected then
        ((s.store.write record).records.filter isFinalBall).getLast?.elim (s.store.write record).records fun z =>
          (s.store.write record).records.map fun y =>
            if y.number = z.number ∨ y.number = b.record then { y with pinned := true } else y
      else (s.store.write record).records := by
    rw [records, Store.afterClose_records _ _ x b f.cls limit lift, rebonds]
    simp only [← rejects, Tables.selects_iff]
    rfl
  refine ⟨hbond, ⟨(s.store.write record).records, Store.write_written _ _, records⟩,
    fun k => listed (by rw [rebonds]; exact rejects.mp k), pause, ?_, fun q => ⟨fun k => ?_, fun k => ?_⟩, ?_,
    entry, pull, exit, ?_⟩
  · rw [operator, head, decide_eq_decide.mpr (and_congr_left' closes)]
  · exact (gate q).1 (k.imp (fun n => by simpa using mt closes.mpr n) id)
  · exact (gate q).2 (closes.mp k)
  · rw [claim]
    by_cases k : endsClaim s.tables x b f.cls limit = true
    · rw [if_pos k, if_neg (mt stays.mp (by simp [k]))]
    · rw [if_neg k, if_pos (stays.mpr (by simpa using k))]
  · rw [other, head]

end Sys2Proof.Machine
end

section
/-! SUPPORT. The figures of a close: the energy figure with LIMIT, and the class by the first row that holds
(R60 to R62). -/

namespace Sys2Proof.Machine

/-! ## The energy figure (R60) -/

/-- R60: the rounded quotient is the nearest integer, and between two integers as near the even one. -/
theorem roundEnergy_nearest (e : Int) :
    2 * (4096 * roundEnergy e - e) ≤ 4096 ∧ -4096 ≤ 2 * (4096 * roundEnergy e - e) ∧
      (2 * (4096 * roundEnergy e - e) = 4096 ∨ 2 * (4096 * roundEnergy e - e) = -4096 →
        roundEnergy e % 2 = 0) := by
  have parts : 4096 * (e / 4096) + e % 4096 = e := Int.mul_ediv_add_emod e 4096
  unfold roundEnergy
  dsimp only
  split
  case isTrue below => omega
  case isFalse notBelow =>
    split
    case isTrue above => omega
    case isFalse half => split <;> omega

/-- R60: the figure is the rounded quotient, or the bound of the 24 bits that it passed, with LIMIT. -/
theorem energyFigure_clamps (e : Int) :
    (roundEnergy e < -8388608 → energyFigure e = -8388608 ∧ energyLimit e = true) ∧
      (8388607 < roundEnergy e → energyFigure e = 8388607 ∧ energyLimit e = true) ∧
      (-8388608 ≤ roundEnergy e → roundEnergy e ≤ 8388607 →
        energyFigure e = roundEnergy e ∧ energyLimit e = false) := by
  have limit : ∀ v, energyFigure e = v → (v = roundEnergy e ↔ energyLimit e = false) := by
    rintro v rfl
    simp [energyLimit]
  refine ⟨fun low => ?_, fun high => ?_, fun low high => ?_⟩
  · have v : energyFigure e = -8388608 := by unfold energyFigure; omega
    exact ⟨v, Bool.eq_true_of_not_eq_false fun k => low.ne' ((limit _ v).mpr k)⟩
  · have v : energyFigure e = 8388607 := by unfold energyFigure; omega
    exact ⟨v, Bool.eq_true_of_not_eq_false fun k => high.ne ((limit _ v).mpr k)⟩
  · have v : energyFigure e = roundEnergy e := by unfold energyFigure; omega
    exact ⟨v, (limit _ v).mp rfl⟩

/-- R60: the figure fits 24 bits. -/
theorem energyFigure_range (e : Int) : -8388608 ≤ energyFigure e ∧ energyFigure e ≤ 8388607 := by
  unfold energyFigure; omega

/-! ## The class (R62) -/

/-- The first row that holds is the front one, or that of the rest. -/
theorem firstRow_cons {α : Type} (b : Bool) (c : α) (l : List (Bool × α)) :
    (((b, c) :: l).find? fun y => y.1).map (fun y => y.2) =
      if b = true then some c else (l.find? fun y => y.1).map fun y => y.2 := by
  cases b <;> rfl

/-- R62: the class of a close by LIFT is that of the first row that holds. -/
theorem liftClass_firstRow (l : Limits) (n : Nat) (q : Int) (limit : Bool) (peak d : Nat) (gap long : Bool) :
    (List.find? (fun y => y.1) [
        (n == 0, BondClass.noData),
        (decide (d < l.dNonstick), .nonstick),
        (limit || decide ((l.eMax : Int) < q) || decide (l.iPeakMax < peak) || decide (l.dMax < d), .overBond),
        (decide (q < (l.eMin : Int)) || decide (d < l.dMin) || (l.strict && (gap || long)), .weak),
        (true, .good)]).map (fun y => y.2) = some (liftClass l n q limit peak d gap long) := by
  unfold liftClass
  simp only [firstRow_cons, apply_ite some, beq_iff_eq, decide_eq_true_eq, if_true]

/-! ## The statement -/

/-- Settles O37: the rounded quotient is the integer that the figure is clamped from, and the class is read off
the rows in their order. -/
theorem figuresAndClass : Obligations.FiguresAndClass := by
  unfold Obligations.FiguresAndClass
  constructor
  · intro e lift late link time h b f r
    obtain ⟨least, greatest⟩ := energyFigure_range e.energy
    obtain ⟨above, below, even⟩ := roundEnergy_nearest e.energy
    exact ⟨rfl, rfl, rfl, least, greatest, roundEnergy e.energy, above, below, even,
      energyFigure_clamps e.energy⟩
  · intro e l hl f rows
    have cls : f.cls = liftClass l e.n f.energy f.limit e.peak f.deformation e.gap e.long := by
      simp only [f, Engine.figures, hl, if_true, Option.elim_some]
    refine ⟨?_, ?_, rfl⟩
    · change e.zTouch - e.zMin = _
      split <;> omega
    · rw [cls]
      exact liftClass_firstRow l e.n f.energy f.limit e.peak f.deformation e.gap e.long

end Sys2Proof.Machine
end

section
/-! SUPPORT. RECORD-FETCH and its replies: the statement (R70, R81 to R84, R133). -/

namespace Sys2Proof.Machine

/-! ## The start of a fetch (R81) -/

/-- 11 TABLE 3: the codes that name a head. -/
theorem headOf_isSome (x : Byte) : (headOf x).isSome = true ↔ x.toNat ≤ 1 := by
  unfold headOf
  split
  · next h => simp [h]
  · split
    · next h => simp [h]
    · next h0 h1 => simp only [Option.isSome_none, Bool.false_eq_true, false_iff]; bv_omega

/-- 11 TABLE 3: the head of a head field that names one. -/
theorem headOf_getD {x : Byte} (h : x.toNat ≤ 1) : (headOf x).getD .a = if x = 0 then .a else .b := by
  unfold headOf
  split
  · rfl
  · rw [if_pos (by bv_omega)]
    rfl

/-- R81: what a RECORD-FETCH leaves whose first number or head is good where `ok` says so: the fetch `f` in
progress, or a refusal. -/
def FetchBegun (s : State) (c : Instr) (tag count : Byte) (ok : Prop) (f : Fetch) (t : State) : Prop :=
  let inRange := ok ∧ 1 ≤ count.toNat ∧ count.toNat ≤ 16
  Frame [.store, .ports] s t ∧
    (¬inRange → t.store = s.store ∧ t.ports = ((s.takeRx .u c).reply 2 tag (.refused .range)).ports) ∧
    (inRange → s.store.fetch ≠ none → t.store = s.store ∧
      t.ports = ((s.takeRx .u c).reply 2 tag (.refused .busy)).ports) ∧
    (inRange → s.store.fetch = none → t.store = { s.store with fetch := some f } ∧
      t.ports = (s.takeRx .u c).ports)

theorem State.startFetch_frame (s : State) (tag : Byte) (ok : Bool) (count : Byte) (f : Fetch) :
    Frame [.store, .ports] s (s.startFetch tag ok count f) := by
  have refusal (r : Reply) : Frame [.store, .ports] s (s.reply 2 tag r) := (s.reply_frame _ _ _).mono (by simp)
  unfold State.startFetch
  split
  · exact refusal _
  · split
    · exact refusal _
    · simp [Frame]

/-- R81 steps 2 and 3, and what passes them. -/
theorem State.startFetch_eq (s : State) (tag : Byte) (ok : Bool) (count : Byte) (f : Fetch) :
    s.startFetch tag ok count f =
      if ok = true ∧ 1 ≤ count.toNat ∧ count.toNat ≤ 16 then
        if s.store.fetch = none then { s with store := { s.store with fetch := some f } }
        else s.reply 2 tag (.refused .busy)
      else s.reply 2 tag (.refused .range) := by
  have range : (ok && 1 ≤ count.toNat && count.toNat ≤ 16) = true ↔
      ok = true ∧ 1 ≤ count.toNat ∧ count.toNat ≤ 16 := by
    simp only [Bool.and_eq_true, decide_eq_true_eq, and_assoc]
  unfold State.startFetch
  simp only [Bool.not_eq_true', ← Bool.not_eq_true, range, Option.isSome_iff_ne_none, ne_eq, ite_not]

/-- R81: a RECORD-FETCH in its turn. -/
theorem FetchBegun.of_taken {s : State} {c : Instr} (tag count : Byte) (ok : Bool) (p : Prop) (f g : Fetch)
    (hp : ok = true ↔ p) (hf : p → f = g) (ht : s.inTurn .u c = true) :
    FetchBegun s c tag count p g (s.taken .u c fun u => u.startFetch tag ok count f) := by
  refine ⟨s.taken_frame .u c _ ht (by simp) fun u => u.startFetch_frame tag ok count f, ?_⟩
  rw [s.taken_inTurn .u c _ ht, State.markChanges_store, State.markChanges_ports, State.startFetch_eq,
    State.takeRx_store]
  have passes : ok = true ∧ 1 ≤ count.toNat ∧ count.toNat ≤ 16 ↔
      p ∧ 1 ≤ count.toNat ∧ count.toNat ≤ 16 :=
    and_congr_left' hp
  refine ⟨fun out => ?_, fun inside busy => ?_, fun inside free => ?_⟩
  · rw [if_neg (mt passes.mp out)]
    exact ⟨rfl, rfl⟩
  · rw [if_pos (passes.mpr inside), if_neg busy]
    exact ⟨rfl, rfl⟩
  · rw [if_pos (passes.mpr inside), if_pos free, hf inside.1]
    exact ⟨rfl, rfl⟩

/-! ## The items of a reply (R83, R133) -/

/-- R83: the numbers of one reply. -/
theorem itemNumbers_eq (next left : Nat) : itemNumbers next left =
    if left = 0 then [] else if left = 1 then [next] else [next, nextInCycle next] := by
  unfold itemNumbers
  match left with
  | 0 => rfl
  | 1 => rfl
  | n + 2 => rfl

/-- R83: the number of the bond in flight. -/
theorem HeadCtx.reserved_eq_some (c : HeadCtx) (n : Nat) :
    c.reserved = some n ↔ c.bond.any (fun y => y.record == n) = true := by
  unfold HeadCtx.reserved
  cases c.bond <;> simp

theorem bondItem_found {s : State} {n : Nat} {r : BondRecord}
    (h : (s.store.records.find? fun r => r.number == n) = some r) : bondItem s n = .record r := by
  unfold bondItem
  rw [h]

theorem bondItem_missing {s : State} {n : Nat} (h : (s.store.records.find? fun r => r.number == n) = none) :
    bondItem s n =
      if s.headA.bond.any (fun y => y.record == n) || s.headB.bond.any (fun y => y.record == n) then .notYet n
      else if wasGiven s.store.nextRecord n then .gone n else .notYet n := by
  unfold bondItem
  rw [h]
  simp only [HeadCtx.reserved_eq_some, Bool.or_eq_true]

theorem pullItem_found {s : State} {n : Nat} {r : PullRecord}
    (h : (s.puller.log.find? fun r => r.number == n) = some r) : pullItem s n = .record r := by
  unfold pullItem
  rw [h]

theorem pullItem_missing {s : State} {n : Nat} (h : (s.puller.log.find? fun r => r.number == n) = none) :
    pullItem s n = if wasGiven s.puller.nextPull n then .gone n else .notYet n := by
  unfold pullItem
  rw [h]

/-! ## One frame of a trace (R84) -/

theorem traceFrame_none {e : Engine} (h : e.frozen = none) (tag : Byte) (k : Head) (n place left : Nat) :
    traceFrame e tag k n place left = (.notYet n, none, false) := by
  unfold traceFrame
  rw [h]

section
variable {e : Engine} {y : FrozenTrace} {n : Nat} (h : e.frozen = some y) (tag : Byte) (k : Head)
include h

theorem traceFrame_gone (hn : n ≠ 0 ∧ n ≠ y.record) (place left : Nat) :
    traceFrame e tag k n place left = (.gone y.record, none, false) := by
  unfold traceFrame
  rw [h]
  exact if_pos hn

theorem traceFrame_last (hn : ¬(n ≠ 0 ∧ n ≠ y.record)) {place : Nat} (hl : y.entries.length ≤ place + 8)
    (left : Nat) :
    traceFrame e tag k n place left = (.entries y place ((y.entries.drop place).take 8), none, true) := by
  unfold traceFrame
  rw [h]
  exact (if_neg hn).trans (if_pos hl)

theorem traceFrame_more (hn : ¬(n ≠ 0 ∧ n ≠ y.record)) {place : Nat} (hl : ¬y.entries.length ≤ place + 8)
    (left : Nat) :
    traceFrame e tag k n place left = (.entries y place ((y.entries.drop place).take 8),
      if left ≤ 1 then none else some (.trace tag k y.record (place + 8) (left - 1)), false) := by
  unfold traceFrame
  rw [h]
  exact (if_neg hn).trans (if_neg hl)

end

/-! ## The next reply (R82) -/

theorem fetchReady_iff (s : State) : fetchReady s = true ↔
    s.ports.u.state ≠ .down ∧ s.ports.u.normals ≤ 3 ∧ s.ports.u.tx.length < 8 := by
  unfold fetchReady
  rw [Bool.and_eq_true, Bool.and_eq_true, bne_iff_ne, decide_eq_true_iff, decide_eq_true_iff, and_assoc]
  rfl

/-- R82: without a fetch in progress, or without room, nothing is queued. -/
theorem exec_recordReplyQueued_idle {s : State} (h : s.store.fetch = none ∨ fetchReady s = false) :
    exec .recordReplyQueued s = .next s := by
  change Host.Outcome.next _ = _
  cases hf : s.store.fetch with
  | none => rfl
  | some f => simp [h.resolve_left (by simp [hf])]

/-- R82: the next reply of the fetch in progress is queued. -/
theorem exec_recordReplyQueued_ready {s : State} {f : Fetch} (hf : s.store.fetch = some f)
    (h : fetchReady s = true) : exec .recordReplyQueued s = .next (s.queueReply f) := by
  change Host.Outcome.next _ = _
  simp [hf, h]

/-- R83, R133: a reply with items concerns the store and port U. -/
theorem State.queueReply_bond_frame (s : State) (tag : Byte) (next left : Nat) :
    Frame [.store, .ports] s (s.queueReply (.bond tag next left)) := by
  simp [Frame, State.queueReply]

theorem State.queueReply_pull_frame (s : State) (tag : Byte) (next left : Nat) :
    Frame [.store, .ports] s (s.queueReply (.pull tag next left)) := by
  simp [Frame, State.queueReply]

/-- R84: what the next frame of a trace leaves, by its answer, the fetch that remains and the release. -/
theorem State.queueReply_trace (s : State) (tag : Byte) (h : Head) (n place left : Nat) {a : TraceAnswer}
    {g : Option Fetch} {release : Bool} (hr : traceFrame (s.engine h) tag h n place left = (a, g, release)) :
    let t := s.queueReply (.trace tag h n place left)
    Frame [engineBlock h, .store, .ports] s t ∧
      (t.ports = (s.send .u (.traceReply tag a)).ports ∧ t.store = { s.store with fetch := g }) ∧
      t.engine h = if release then (s.engine h).release else s.engine h := by
  have frame (u : Store) :
      Frame [engineBlock h, .store, .ports] s { s.send .u (.traceReply tag a) with store := u } :=
    Frame.mono (l := [.store, .ports]) (by simp) (by simp [Frame])
  simp only [State.queueReply, hr]
  cases release with
  | false =>
    refine ⟨frame _, ⟨rfl, rfl⟩, ?_⟩
    cases h <;> rfl
  | true =>
    refine ⟨(frame _).trans ((State.updateEngine_frame _ h _).mono (by simp)), ⟨?_, ?_⟩, ?_⟩
    · exact State.updateEngine_ports _ _ _
    · exact State.updateEngine_store _ _ _
    · cases h <;> rfl

/-! ## The statement -/

/-- Settles O55: the four requests are one check over what each names, and a reply is read off the fetch in
progress and, for a trace, off what is frozen. -/
theorem fetchesAndReplies : Obligations.FetchesAndReplies := by
  unfold Obligations.FetchesAndReplies
  constructor
  · intro tag head store first count s starts
    refine ⟨fun ht => ⟨_, rfl, ?_⟩, fun ht => ⟨_, rfl, ?_⟩, fun ht => ⟨_, rfl, ?_⟩,
      fun ht => ⟨_, rfl, ?_, ?_⟩⟩
    · exact FetchBegun.of_taken tag count _ _ _ _ (by simp) (fun _ => rfl) ht
    · exact FetchBegun.of_taken tag count _ _ _ _ (by simp) (fun _ => rfl) ht
    · exact FetchBegun.of_taken tag count _ _ _ _ (headOf_isSome head) (fun k => by rw [headOf_getD k]) ht
    · exact s.taken_frame .u _ _ ht (by simp) fun u => u.reply_frame _ _ _
    · rw [s.taken_inTurn .u _ _ ht, State.markChanges_ports]
  · intro s u ready after numbers past bond pull sends
    have bond_eq : bond = bondItem s := by
      funext k
      cases hk : s.store.records.find? fun r => r.number == k with
      | some r => rw [bondItem_found hk]; simp only [bond, hk]
      | none => rw [bondItem_missing hk]; simp only [bond, hk]; rfl
    have pull_eq : pull = pullItem s := by
      funext k
      cases hk : s.puller.log.find? fun r => r.number == k with
      | some r => rw [pullItem_found hk]; simp only [pull, hk]
      | none => rw [pullItem_missing hk]; simp only [pull, hk]; rfl
    have numbers_eq : numbers = itemNumbers := by
      funext k left
      exact (itemNumbers_eq k left).symm
    by_cases idle : s.store.fetch = none ∨ fetchReady s = false
    · refine ⟨s, exec_recordReplyQueued_idle idle, fun _ => rfl, fun hr f hf => ?_⟩
      have hr : fetchReady s = true := (fetchReady_iff s).mpr hr
      rcases idle with k | k
      · rw [k] at hf; cases hf
      · rw [hr] at k; cases k
    · obtain ⟨fetching, room⟩ := not_or.mp idle
      have room : fetchReady s = true := Bool.eq_true_of_not_eq_false room
      obtain ⟨f, hf⟩ := Option.ne_none_iff_exists'.mp fetching
      refine ⟨_, exec_recordReplyQueued_ready hf room, fun k => ?_, fun _ g hg => ?_⟩
      · exact absurd ((fetchReady_iff s).mp room) (k.resolve_left fetching)
      · obtain rfl : f = g := by rw [hf] at hg; exact Option.some.inj hg
        refine ⟨?_, ?_, ?_⟩
        · rintro tag k left rfl
          rw [bond_eq, numbers_eq]
          exact ⟨s.queueReply_bond_frame tag k left, rfl, rfl⟩
        · rintro tag k left rfl
          rw [pull_eq, numbers_eq]
          exact ⟨s.queueReply_pull_frame tag k left, rfl, rfl⟩
        · rintro tag h n place left rfl
          refine ⟨(s.queueReply_trace tag h n place left rfl).1, fun unfrozen => ?_, fun y hy => ?_⟩
          · obtain ⟨-, sent, engine⟩ :=
              s.queueReply_trace tag h n place left (traceFrame_none unfrozen tag h n place left)
            exact ⟨engine, sent⟩
          · by_cases hn : n ≠ 0 ∧ n ≠ y.record
            · obtain ⟨-, sent, engine⟩ :=
                s.queueReply_trace tag h n place left (traceFrame_gone hy tag h hn place left)
              rw [if_pos hn]
              exact ⟨engine, sent⟩
            · rw [if_neg hn]
              by_cases last : y.entries.length ≤ place + 8
              · obtain ⟨-, sent, engine⟩ :=
                  s.queueReply_trace tag h n place left (traceFrame_last hy tag h hn last left)
                exact (if_pos last).mpr ⟨sent, fun frozen => engine.trans (if_pos frozen)⟩
              · obtain ⟨-, sent, engine⟩ :=
                  s.queueReply_trace tag h n place left (traceFrame_more hy tag h hn last left)
                exact (if_neg last).mpr ⟨engine, sent⟩

end Sys2Proof.Machine
end

section
/-! SUPPORT. The intake of samples: what a list of samples makes of the engine, and the statement (R51 to R57,
R67). -/

namespace Sys2Proof.Machine

/-! ## The greatest current and its place (R56) -/

/-- R56: the greatest current, `m` before the samples `l`. -/
def greatest (m : Nat) (l : List Triple) : Nat := l.foldl (fun m x => max m x.i.toInt.natAbs) m

/-- R56: how many of the samples `l` come before the first one of the greatest current. -/
def firstGreatest (m : Nat) (l : List Triple) : Nat := l.findIdx fun x => x.i.toInt.natAbs == greatest m l

@[simp] theorem greatest_append (m : Nat) (l : List Triple) (x : Triple) :
    greatest m (l ++ [x]) = max (greatest m l) x.i.toInt.natAbs := by
  simp [greatest]

/-- R56: the greatest current is not below the one before, nor below any of the samples. -/
theorem le_greatest (m : Nat) (l : List Triple) :
    m ≤ greatest m l ∧ ∀ x ∈ l, x.i.toInt.natAbs ≤ greatest m l := by
  induction l using List.reverseRecOn with
  | nil => simp [greatest]
  | append_singleton l x ih =>
    obtain ⟨before, among⟩ := ih
    rw [greatest_append]
    refine ⟨before.trans (le_max_left _ _), fun y hy => ?_⟩
    rcases List.mem_append.mp hy with hy | hy
    · exact (among y hy).trans (le_max_left _ _)
    · obtain rfl := List.mem_singleton.mp hy
      exact le_max_right _ _

/-- R56: a greatest current that has risen is that of a sample. -/
theorem firstGreatest_lt {m : Nat} {l : List Triple} (h : greatest m l ≠ m) :
    firstGreatest m l < l.length := by
  suffices ∃ x ∈ l, x.i.toInt.natAbs = greatest m l by
    obtain ⟨x, hx, he⟩ := this
    exact List.findIdx_lt_length_of_exists ⟨x, hx, beq_iff_eq.mpr he⟩
  induction l using List.reverseRecOn with
  | nil => exact absurd rfl h
  | append_singleton l x ih =>
    rw [greatest_append] at h ⊢
    rcases le_total x.i.toInt.natAbs (greatest m l) with hx | hx
    · rw [max_eq_left hx] at h ⊢
      obtain ⟨y, hy, he⟩ := ih h
      exact ⟨y, by simp [hy], he⟩
    · exact ⟨x, by simp, (max_eq_right hx).symm⟩

/-- R56: the peak index that `index` becomes when the samples `l` follow on `n` others. -/
def peakPlace (m index n : Nat) (l : List Triple) : Nat :=
  if greatest m l = m then index else n + firstGreatest m l + 1

/-- R56: a sample moves the peak index only where its current is greater than all before it. -/
theorem peakPlace_append (m index n : Nat) (l : List Triple) (x : Triple) :
    peakPlace m index n (l ++ [x]) =
      if greatest m l < x.i.toInt.natAbs then n + l.length + 1 else peakPlace m index n l := by
  obtain ⟨before, among⟩ := le_greatest m l
  unfold peakPlace
  by_cases hx : greatest m l < x.i.toInt.natAbs
  · rw [if_pos hx]
    have top : greatest m (l ++ [x]) = x.i.toInt.natAbs := by rw [greatest_append, max_eq_right hx.le]
    have absent : l.findIdx (fun y => y.i.toInt.natAbs == x.i.toInt.natAbs) = l.length :=
      List.findIdx_eq_length_of_false fun y hy => by
        simpa using ((among y hy).trans_lt hx).ne
    rw [top, if_neg (by omega : x.i.toInt.natAbs ≠ m), firstGreatest, top, List.findIdx_append, absent]
    simp
  · rw [if_neg hx]
    have top : greatest m (l ++ [x]) = greatest m l := by rw [greatest_append, max_eq_left (not_lt.mp hx)]
    rw [top]
    split
    case isTrue same => rfl
    case isFalse risen =>
      have place : firstGreatest m (l ++ [x]) = firstGreatest m l := by
        rw [firstGreatest, top, List.findIdx_append]
        exact if_pos (firstGreatest_lt risen)
      rw [place]

/-! ## The trace ring (R67) -/

/-- R67: a list of which only the last `k` entries are kept takes one more. -/
theorem push_drop {α : Type} (k : Nat) (hk : 0 < k) (l : List α) (x : α) :
    (if (l.drop (l.length - k)).length < k then l.drop (l.length - k)
      else (l.drop (l.length - k)).drop 1) ++ [x] = (l ++ [x]).drop (l.length + 1 - k) := by
  rw [List.length_drop]
  split
  case isTrue short =>
    rw [show l.length - k = 0 by omega, show l.length + 1 - k = 0 by omega, List.drop_zero, List.drop_zero]
  case isFalse full =>
    rw [List.drop_drop, List.drop_append_of_le_length (by omega)]
    congr 2
    omega

/-! ## A list of samples (R54 to R57) -/

/-- R67: the trace entries of the samples `xs`. -/
def Engine.entriesOf (e : Engine) (xs : List Triple) : List TraceEntry :=
  xs.zipIdx.map fun y => ⟨min 65535 (e.position + y.2 + 1), y.1.v.toInt, y.1.i.toInt, y.1.z.toNat,
    decide (e.windowLimit ≤ e.n + y.2)⟩

/-- R54 to R57, R67: what the samples `xs` make of the engine: those within the window limit accumulate. -/
def Engine.sampled (e : Engine) (xs : List Triple) : Engine :=
  let l := xs.take (e.windowLimit - e.n)
  { e with
    n := e.n + l.length
    energy := e.energy + (l.map fun x => x.v.toInt * x.i.toInt).sum
    peak := greatest e.peak l
    peakIndex := peakPlace e.peak e.peakIndex e.n l
    zMin := l.foldl (fun m x => min m x.z.toNat) e.zMin
    position := min 65535 (e.position + xs.length)
    long := e.long || decide (l.length < xs.length)
    ring := if e.ringState = .following then
        (e.ring ++ e.entriesOf xs).drop (e.ring.length + xs.length - 64)
      else e.ring }

theorem Engine.entriesOf_append (e : Engine) (xs : List Triple) (x : Triple) :
    e.entriesOf (xs ++ [x]) = e.entriesOf xs ++
      [⟨min 65535 (e.position + xs.length + 1), x.v.toInt, x.i.toInt, x.z.toNat,
        decide (e.windowLimit ≤ e.n + xs.length)⟩] := by
  simp [Engine.entriesOf, List.zipIdx_append]

theorem Engine.entriesOf_length (e : Engine) (xs : List Triple) : (e.entriesOf xs).length = xs.length := by
  simp [Engine.entriesOf]

/-- R67: the ring once the sample `x` has entered it. -/
def Engine.pushed (e : Engine) (x : Triple) : List TraceEntry :=
  if e.ringState = .following then
    (if e.ring.length < 64 then e.ring else e.ring.drop 1) ++
      [⟨min 65535 (e.position + 1), x.v.toInt, x.i.toInt, x.z.toNat, decide (e.windowLimit ≤ e.n)⟩]
  else e.ring

/-- R54: a sample beyond the window limit sets LONG and is traced. -/
theorem Engine.takeSample_beyond (e : Engine) (x : Triple) (h : e.windowLimit ≤ e.n) :
    e.takeSample x = { e with position := min 65535 (e.position + 1), ring := e.pushed x, long := true } := by
  simp only [Engine.takeSample, Engine.trace_eq, h, decide_true, if_true, Engine.pushed]
  rfl

/-- R54 to R57: a sample within the window limit is accumulated and traced. -/
theorem Engine.takeSample_within (e : Engine) (x : Triple) (h : ¬e.windowLimit ≤ e.n) :
    e.takeSample x = { e with
      position := min 65535 (e.position + 1)
      ring := e.pushed x
      n := e.n + 1
      energy := e.energy + x.v.toInt * x.i.toInt
      peak := max e.peak x.i.toInt.natAbs
      peakIndex := if e.peak < x.i.toInt.natAbs then e.n + 1 else e.peakIndex
      zMin := min e.zMin x.z.toNat } := by
  have greater (a b : Nat) : (if a < b then b else a) = max a b := by split <;> omega
  have lower (a b : Nat) : (if b < a then b else a) = min a b := by split <;> omega
  simp only [Engine.takeSample, Engine.trace_eq, h, decide_false, Bool.false_eq_true, if_false,
    Engine.accumulate, greater, lower, Engine.pushed]
  rfl

/-- R67: the ring of an engine that takes one sample more. -/
theorem Engine.sampled_pushed (e : Engine) (xs : List Triple) (x : Triple) :
    (e.sampled xs).pushed x = (e.sampled (xs ++ [x])).ring := by
  have entry : e.entriesOf (xs ++ [x]) = e.entriesOf xs ++ [⟨min 65535 ((e.sampled xs).position + 1),
      x.v.toInt, x.i.toInt, x.z.toNat, decide ((e.sampled xs).windowLimit ≤ (e.sampled xs).n)⟩] := by
    rw [Engine.entriesOf_append]
    congr 3
    · simp only [Engine.sampled]
      omega
    · rw [decide_eq_decide]
      simp only [Engine.sampled, Engine.windowLimit, List.length_take]
      omega
  have length : (e.ring ++ e.entriesOf xs).length = e.ring.length + xs.length := by
    rw [List.length_append, Engine.entriesOf_length]
  unfold Engine.pushed
  by_cases following : e.ringState = .following
  · have kept := fun y => push_drop 64 (by omega) (e.ring ++ e.entriesOf xs) y
    rw [length] at kept
    have before : (e.sampled xs).ring = (e.ring ++ e.entriesOf xs).drop (e.ring.length + xs.length - 64) :=
      if_pos following
    have behind : (e.sampled (xs ++ [x])).ring =
        (e.ring ++ e.entriesOf (xs ++ [x])).drop (e.ring.length + (xs ++ [x]).length - 64) := if_pos following
    rw [if_pos (show (e.sampled xs).ringState = .following from following), before, kept, behind, entry,
      List.append_assoc, List.length_append, List.length_singleton, Nat.add_assoc]
  · exact (if_neg (show ¬(e.sampled xs).ringState = .following from following)).trans
      ((if_neg following).trans (if_neg following).symm)

/-- R54: one sample more. -/
theorem Engine.sampled_append (e : Engine) (xs : List Triple) (x : Triple) :
    (e.sampled xs).takeSample x = e.sampled (xs ++ [x]) := by
  have position : min 65535 ((e.sampled xs).position + 1) = min 65535 (e.position + (xs ++ [x]).length) := by
    simp only [Engine.sampled, List.length_append, List.length_singleton]
    omega
  by_cases within : e.n + xs.length < e.windowLimit
  · have before : xs.take (e.windowLimit - e.n) = xs := List.take_of_length_le (by omega)
    have behind : (xs ++ [x]).take (e.windowLimit - e.n) = xs ++ [x] :=
      List.take_of_length_le (by simp; omega)
    have here : ¬(e.sampled xs).windowLimit ≤ (e.sampled xs).n := by
      simp only [Engine.sampled, Engine.windowLimit, List.length_take] at within ⊢
      omega
    rw [Engine.takeSample_within _ _ here, position, Engine.sampled_pushed]
    simp only [Engine.sampled, before, behind]
    simp [peakPlace_append, add_assoc]
  · have behind : (xs ++ [x]).take (e.windowLimit - e.n) = xs.take (e.windowLimit - e.n) :=
      List.take_append_of_le_length (by omega)
    have here : (e.sampled xs).windowLimit ≤ (e.sampled xs).n := by
      simp only [Engine.sampled, Engine.windowLimit, List.length_take] at within ⊢
      omega
    rw [Engine.takeSample_beyond _ _ here, position, Engine.sampled_pushed]
    have long : (xs.take (e.windowLimit - e.n)).length < (xs ++ [x]).length := by
      simp only [List.length_take, List.length_append, List.length_singleton]
      omega
    simp only [Engine.sampled, behind, long, decide_true, Bool.or_true]

/-- R54: the samples are taken in order. -/
theorem Engine.foldl_takeSample (e : Engine) (xs : List Triple) (hp : e.position ≤ 65535)
    (hr : e.ring.length ≤ 64) : xs.foldl Engine.takeSample e = e.sampled xs := by
  induction xs using List.reverseRecOn with
  | nil =>
    have ring : e.ring.length - 64 = 0 := by omega
    simp [Engine.sampled, greatest, peakPlace, Engine.entriesOf, ring, min_eq_right hp]
  | append_singleton xs x ih =>
    rw [List.foldl_append, ih, List.foldl_cons, List.foldl_nil, Engine.sampled_append]

/-! ## A frame of samples (R53) -/

/-- R53: a stamp that lies `d` ahead marks a gap and counts the missing samples. -/
def Engine.jumped (e : Engine) (d : Nat) : Engine :=
  { e with
    gap := e.gap || d != 0
    missing := if d = 0 then e.missing else min 255 (e.missing + d)
    position := min 65535 (e.position + d) }

/-- R53, R54: the position behind a jump saturates once for the whole way. -/
theorem Engine.jumped_position (e : Engine) (d n : Nat) :
    min 65535 ((e.jumped d).position + n) = min 65535 (e.position + d + n) := by
  simp only [Engine.jumped]
  omega

/-- R53: the position saturates, whenever it is held to its range. -/
theorem Engine.takeSample_clamped (e : Engine) (x : Triple) :
    ({ e with position := min 65535 e.position } : Engine).takeSample x = e.takeSample x := by
  have position : satAdd maxU16 (min 65535 e.position) 1 = satAdd maxU16 e.position 1 := by
    unfold satAdd maxU16; omega
  simp only [Engine.takeSample, position]
  rfl

/-- R53, R54: a frame of samples: the jump to its stamp, and its samples in order. -/
theorem Engine.takeFrame_eq (e : Engine) (stamp : Nat) (xs : List Triple) (hx : xs ≠ [])
    (hr : e.ring.length ≤ 64) : e.takeFrame stamp xs =
      { (e.jumped (e.ahead stamp)).sampled xs with expected := (stamp + xs.length) % 256 } := by
  rw [← Engine.foldl_takeSample (e.jumped _) xs (min_le_left _ _) hr]
  unfold Engine.takeFrame
  dsimp only
  by_cases hd : e.ahead stamp = 0
  · obtain ⟨x, xs, rfl⟩ := List.exists_cons_of_ne_nil hx
    have jumped : e.jumped 0 = { e with position := min 65535 e.position } := by simp [Engine.jumped]
    rw [if_pos hd, hd, jumped, List.foldl_cons, List.foldl_cons, Engine.takeSample_clamped]
  · have jumped : e.jumped (e.ahead stamp) = { e with
        gap := true
        missing := satAdd 255 e.missing (e.ahead stamp)
        position := satAdd maxU16 e.position (e.ahead stamp) } := by
      simp [Engine.jumped, hd, satAdd]
    rw [if_neg hd, jumped]

/-! ## The statement -/

/-- R51, R52, R54: a frame that has one to six samples, finds the window opened and is not stale is taken. -/
theorem exec_sample_taken {h : Head} {stamp : Byte} {xs : List Triple} {s : State}
    (ht : s.inTurn h.port (.sample h stamp xs) = true)
    (hx : ¬(xs.length = 0 ∨ 6 < xs.length ∨ (s.engine h).state ≠ .opened ∨
      128 ≤ (s.engine h).ahead stamp.toNat)) :
    exec (.sample h stamp xs) s = .next (((s.takeRx h.port (.sample h stamp xs)).updateEngine h fun e =>
      e.takeFrame stamp.toNat xs).markChanges s) := by
  change Host.Outcome.next _ = _
  simp only [not_or, not_not, not_lt, not_le] at hx
  obtain ⟨filled, six, opened, fresh⟩ := hx
  rw [s.taken_inTurn _ _ _ ht, if_neg (by omega), State.takeRx_engine, if_neg (not_not.mpr opened),
    if_pos fresh]

/-- R51, R52, R53: any other frame is stray, as one event where the number of its samples is wrong, else as
many as it has. -/
theorem exec_sample_stray {h : Head} {stamp : Byte} {xs : List Triple} {s : State}
    (ht : s.inTurn h.port (.sample h stamp xs) = true)
    (hx : xs.length = 0 ∨ 6 < xs.length ∨ (s.engine h).state ≠ .opened ∨
      128 ≤ (s.engine h).ahead stamp.toNat) :
    exec (.sample h stamp xs) s = .next (((s.takeRx h.port (.sample h stamp xs)).stray h
      (if xs.length = 0 ∨ 6 < xs.length then 1 else xs.length)).markChanges s) := by
  change Host.Outcome.next _ = _
  rw [s.taken_inTurn _ _ _ ht, State.takeRx_engine]
  by_cases wrong : xs.length = 0 ∨ 6 < xs.length
  · rw [if_pos wrong, if_pos wrong]
  · rw [if_neg wrong, if_neg wrong]
    by_cases opened : (s.engine h).state = .opened
    · have stale : ¬(s.engine h).ahead stamp.toNat < 128 := by
        simp only [not_or] at wrong
        simpa [wrong.1, wrong.2, opened] using hx
      rw [if_neg (not_not.mpr opened), if_neg stale]
    · rw [if_pos opened]

/-- Settles O36: a frame that is not stray is the jump to its stamp with its samples, taken in order. -/
theorem samplesAccumulate : Obligations.SamplesAccumulate := by
  unfold Obligations.SamplesAccumulate
  intro h stamp xs s hr c e d window k counted traced ht
  have wide {b : Block} {u : State} (f : Frame [b] (s.takeRx h.port c) u)
      (hb : b = headBlock h ∨ b = engineBlock h) :
      Frame [headBlock h, engineBlock h, .ports] s (u.markChanges s) := by
    refine ((s.takeRx_frame _ _).comp f (by simp) fun y hy => ?_).markChanges s
    rw [List.mem_singleton.mp hy]
    rcases hb with rfl | rfl <;> simp
  by_cases hx : xs.length = 0 ∨ 6 < xs.length ∨ e.state ≠ .opened ∨ 128 ≤ d
  · refine ⟨_, exec_sample_stray ht hx, wide (State.updateHead_frame _ h _) (.inl rfl), ?_, ?_⟩
    · rw [State.markChanges_ports, State.stray, State.updateHead_ports]
    · rw [if_pos hx, State.markChanges_engine, State.markChanges_head, State.stray, State.updateHead_engine,
        State.head_updateHead_self, State.takeRx_head, State.takeRx_engine]
      exact ⟨rfl, rfl⟩
  · refine ⟨_, exec_sample_taken ht hx, wide (State.updateEngine_frame _ h _) (.inr rfl), ?_, ?_⟩
    · rw [State.markChanges_ports, State.updateEngine_ports]
    · rw [if_neg hx, State.markChanges_engine, State.markChanges_head, State.engine_updateEngine_self,
        State.updateEngine, State.head_setEngine, State.takeRx_head, State.takeRx_engine]
      have within : xs.take ((e.jumped d).windowLimit - (e.jumped d).n) = counted :=
        List.take_eq_take_min.trans (by rw [min_comm]; rfl)
      have length : counted.length = k := List.length_take_of_le (min_le_left _ _)
      have entries : (e.jumped d).entriesOf xs = traced := by
        refine List.map_congr_left fun y _ => ?_
        rw [Nat.add_assoc, e.jumped_position d, Nat.add_assoc (e.position + d)]
        rfl
      refine ⟨rfl, fun risen => ?_, ?_⟩
      · rw [← length]
        exact firstGreatest_lt risen
      · have filled : xs ≠ [] := fun n => hx (.inl (by rw [n]; rfl))
        refine (e.takeFrame_eq stamp.toNat xs filled hr).trans ?_
        change ({ (e.jumped d).sampled xs with expected := _ } : Engine) = _
        rw [Engine.sampled]
        simp only [within, length, entries, e.jumped_position d]
        rfl

end Sys2Proof.Machine
end

section
/-! SUPPORT. Conditions that end together: their effects compose, whatever the order (R140, R142, R143). -/

namespace Sys2Proof.Machine

/-! ## The list -/

/-- R142: the entries that stay when the conditions of `ends` are over. -/
def keptBy (ends : AlarmEntry → Bool) (l : List AlarmEntry) : List AlarmEntry :=
  l.filter fun y => !(ends y && y.state == .activeAcked)

/-- R140: an entry whose condition is over, where it stays. -/
def AlarmEntry.overBy (ends : AlarmEntry → Bool) (y : AlarmEntry) : AlarmEntry :=
  if ends y = true ∧ y.state = .activeUnacked then { y with state := .clearedUnacked } else y

/-- R140: the list once the conditions of `ends` are over. -/
def listOver (ends : AlarmEntry → Bool) (l : List AlarmEntry) : List AlarmEntry :=
  (keptBy ends l).map (AlarmEntry.overBy ends)

/-- A choice of entries by their pair. -/
def OfPair (ends : AlarmEntry → Bool) : Prop := ∀ y st, ends { y with state := st } = ends y

section
variable {p q : AlarmEntry → Bool} (y : AlarmEntry) (l : List AlarmEntry)

@[simp] theorem AlarmEntry.overBy_cls : (y.overBy p).cls = y.cls := by unfold overBy; split <;> rfl
@[simp] theorem AlarmEntry.overBy_obj : (y.overBy p).obj = y.obj := by unfold overBy; split <;> rfl
@[simp] theorem AlarmEntry.overBy_action : (y.overBy p).action = y.action := by
  unfold overBy; split <;> rfl
@[simp] theorem AlarmEntry.overBy_isPair (c : AlarmClass) (o : AlarmObject) :
    (y.overBy p).isPair c o = y.isPair c o := by simp [AlarmEntry.isPair]

theorem AlarmEntry.overBy_acked : (y.overBy p).state = .activeAcked ↔ y.state = .activeAcked := by
  unfold overBy
  split
  · next h => simp [h.2]
  · rfl

theorem OfPair.overBy (hq : OfPair q) : q (y.overBy p) = q y := by
  unfold AlarmEntry.overBy
  split
  · exact hq y _
  · rfl

theorem AlarmEntry.overBy_still (h : p y = false ∨ y.state ≠ .activeUnacked) : y.overBy p = y := by
  unfold overBy
  rw [if_neg fun k => h.elim (by simp [k.1]) fun n => n k.2]

theorem AlarmEntry.overBy_cleared (h : p y = true) (hs : y.state = .activeUnacked) :
    y.overBy p = { y with state := .clearedUnacked } := if_pos ⟨h, hs⟩

/-- R140: an entry that is over stays over. -/
theorem AlarmEntry.overBy_overBy : (y.overBy p).overBy q = y.overBy fun z => p z || q z := by
  by_cases hs : y.state = .activeUnacked
  · cases hp : p y with
    | true =>
      rw [y.overBy_cleared hp hs, AlarmEntry.overBy_still _ (.inr (by simp)),
        y.overBy_cleared (by simp [hp]) hs]
    | false =>
      rw [y.overBy_still (.inl hp)]
      unfold AlarmEntry.overBy
      simp only [hp, Bool.false_or]
  · rw [y.overBy_still (.inr hs), y.overBy_still (.inr hs), y.overBy_still (.inr hs)]

/-- R142: the entries that leave one after another. -/
theorem keptBy_listOver (hq : OfPair q) : keptBy q (listOver p l) =
    (keptBy (fun z => p z || q z) l).map (AlarmEntry.overBy p) := by
  have same : (fun y => !(q y && y.state == .activeAcked)) ∘ AlarmEntry.overBy p =
      fun y => !(q y && y.state == .activeAcked) := by
    funext y
    simp only [Function.comp, hq.overBy, beq_eq_decide, AlarmEntry.overBy_acked]
  rw [keptBy, listOver, List.filter_map, same, keptBy, keptBy, List.filter_filter]
  congr 2
  funext y
  cases p y <;> cases q y <;> cases y.state <;> rfl

theorem listOver_listOver (hq : OfPair q) : listOver q (listOver p l) = listOver (fun z => p z || q z) l := by
  rw [listOver, keptBy_listOver l hq, List.map_map]
  exact List.map_congr_left fun y _ => y.overBy_overBy

/-- R142: entries leave after others have. -/
theorem keptBy_or : keptBy (fun z => p z || q z) l = (keptBy p l).filter fun y =>
    !(q y && y.state == .activeAcked) := by
  rw [keptBy, keptBy, List.filter_filter]
  congr 1
  funext y
  cases p y <;> cases q y <;> cases y.state <;> rfl

theorem mem_keptBy : y ∈ keptBy p l ↔ y ∈ l ∧ ¬(p y = true ∧ y.state = .activeAcked) := by
  simp [keptBy, imp_iff_not_or]

/-- R143: what an action makes of the heads does not ask whether its condition stands. -/
theorem safeStopStands_map : safeStopStands (l.map (AlarmEntry.overBy p)) = safeStopStands l := by
  simp [safeStopStands, Function.comp_def]

theorem HeadCtx.judge_map (c : HeadCtx) (h : Head) :
    c.judge h (l.map (AlarmEntry.overBy p)) = c.judge h l := by
  simp [HeadCtx.judge, safeStopStands_map, alarmStands, Function.comp_def]

/-- R140: no entry moves where those of `ends` are all cleared. -/
def Unmoved (ends : AlarmEntry → Bool) (l : List AlarmEntry) : Prop :=
  ∀ y ∈ l, ends y = true → y.state = .clearedUnacked

theorem unmoved_iff : Unmoved p l ↔ l.all (fun y => !p y || y.state == .clearedUnacked) = true := by
  simp [Unmoved, imp_iff_not_or]

theorem unmoved_or : Unmoved (fun z => p z || q z) l ↔ Unmoved p l ∧ Unmoved q l := by
  simp only [Unmoved, Bool.or_eq_true]
  exact ⟨fun h => ⟨fun y hy k => h y hy (.inl k), fun y hy k => h y hy (.inr k)⟩,
    fun ⟨h, g⟩ y hy k => k.elim (h y hy) (g y hy)⟩

theorem Unmoved.keptBy_eq {l : List AlarmEntry} (h : Unmoved p l) : keptBy p l = l :=
  List.filter_eq_self.mpr fun y hy => by
    cases hp : p y with
    | true => simp [h y hy hp]
    | false => rfl

theorem Unmoved.listOver_eq {l : List AlarmEntry} (h : Unmoved p l) : listOver p l = l := by
  rw [listOver, h.keptBy_eq]
  refine (List.map_congr_left fun y hy => y.overBy_still ?_).trans (List.map_id l)
  cases hp : p y with
  | true => exact .inr (by simp [h y hy hp])
  | false => exact .inl rfl

end

/-! ## The heads -/

/-- R143: a head that is judged again follows the later list. -/
theorem HeadCtx.judge_judge (c : HeadCtx) (h : Head) (l m : List AlarmEntry) :
    (c.judge h l).judge h m = c.judge h m := by
  rw [HeadCtx.judge_fields, HeadCtx.judge_fields, HeadCtx.judge_fields]
  cases hc : c.state.inFlight <;> simp [hc]

/-- R142, R143: what the end of the conditions of `ends` makes of a head: it is judged where an entry left. -/
def HeadCtx.overBy (c : HeadCtx) (h : Head) (ends : AlarmEntry → Bool) (l : List AlarmEntry) : HeadCtx :=
  if (keptBy ends l).length < l.length then c.judge h (keptBy ends l) else c

theorem HeadCtx.overBy_overBy {p q : AlarmEntry → Bool} (hq : OfPair q) (c : HeadCtx) (h : Head)
    (l : List AlarmEntry) :
    (c.overBy h p l).overBy h q (listOver p l) = c.overBy h (fun z => p z || q z) l := by
  have later : (keptBy (fun z => p z || q z) l).Sublist (keptBy p l) := by
    rw [keptBy_or]; exact List.filter_sublist
  have first : (keptBy p l).length ≤ l.length := List.length_filter_le _ _
  unfold HeadCtx.overBy
  rw [keptBy_listOver l hq, List.length_map, listOver, List.length_map, HeadCtx.judge_map]
  by_cases hp : (keptBy p l).length < l.length
  · rw [if_pos hp, if_pos (later.length_le.trans_lt hp), HeadCtx.judge_judge]
    by_cases hq : (keptBy (fun z => p z || q z) l).length < (keptBy p l).length
    · rw [if_pos hq]
    · rw [if_neg hq, later.eq_of_length_le (not_lt.mp hq)]
  · rw [if_neg hp, first.antisymm (not_lt.mp hp)]

/-! ## The terminal server -/

theorem ListTold.of_term {s u t : State} (h : ListTold u t) (hs : u.term = s.term) : ListTold s t := by
  unfold ListTold at h ⊢
  rwa [hs] at h

/-- R151: the server is told twice of a list that does not grow. -/
theorem ListTold.trans {s u t : State} (h : ListTold s u) (k : ListTold u t)
    (hl : t.alarms.entries.length ≤ u.alarms.entries.length) : ListTold s t := by
  obtain ⟨hu, -, -⟩ := h
  obtain ⟨ht, k1, k0⟩ := k
  have page : u.term.page = s.term.page := by rw [hu]
  refine ⟨?_, fun hp => k1 (page.trans hp), fun hp => k0 (page.trans hp)⟩
  clear k1 k0 page
  generalize t.term.changed = c at ht ⊢
  generalize u.term.changed = d at hu
  rw [ht, hu]
  simp only [Terminal.mk.injEq, and_true, true_and]
  split_ifs <;> omega

end Sys2Proof.Machine
end

section
/-! SUPPORT. The end of the conditions of several entries (R140, R142, R145): one by one, and together. -/

namespace Sys2Proof.Machine

/-! ## Conditions that have ended -/

/-- R140, R142, R143, R151: the conditions of the entries of `ends` have ended, from `s` to `t`. -/
structure ConditionsEnded (ends : AlarmEntry → Bool) (s t : State) : Prop where
  alarms : t.alarms = { s.alarms with
    entries := listOver ends s.alarms.entries
    safeStop := safeStopStands (keptBy ends s.alarms.entries) }
  heads : ∀ h, t.head h = (s.head h).overBy h ends s.alarms.entries
  still : Unmoved ends s.alarms.entries → t.term = s.term
  told : ¬Unmoved ends s.alarms.entries → ListTold s t

/-- R137, R142: what every end of a condition asks of the list: one entry for a pair, and the safe-stop state
as the list has it. -/
structure ListedOnce (a : Alarms) : Prop where
  pairs : (a.entries.map fun e => (e.cls, e.obj)).Nodup
  stops : a.safeStop = safeStopStands a.entries

theorem ListedOnce.unique {a : Alarms} (h : ListedOnce a) {y e : AlarmEntry} (hy : y ∈ a.entries)
    (he : e ∈ a.entries) (hp : y.isPair e.cls e.obj = true) : y = e :=
  List.inj_on_of_nodup_map h.pairs hy he (by simpa [AlarmEntry.isPair] using hp)

theorem AlarmEntry.isPair_self (e : AlarmEntry) : e.isPair e.cls e.obj = true := by
  simp [AlarmEntry.isPair]

theorem AlarmEntry.isPair_ofPair (c : AlarmClass) (o : AlarmObject) : OfPair fun y => y.isPair c o :=
  fun _ _ => rfl

/-- R137: a listed entry is the one that is found by its pair. -/
theorem ListedOnce.find {a : Alarms} (h : ListedOnce a) {e : AlarmEntry} (he : e ∈ a.entries) :
    Alarms.find a.entries e.cls e.obj = some e := by
  cases hf : Alarms.find a.entries e.cls e.obj with
  | none => exact absurd e.isPair_self (List.find?_eq_none.mp hf e he)
  | some y =>
    rw [h.unique (List.mem_of_find?_eq_some hf) he
      (List.find?_some (p := fun y : AlarmEntry => y.isPair e.cls e.obj) hf)]

theorem AlarmEntry.isPair_iff (e : AlarmEntry) (c : AlarmClass) (o : AlarmObject) :
    e.isPair c o = true ↔ e.cls = c ∧ e.obj = o := by
  simp [AlarmEntry.isPair]

/-- Where nothing moves, nothing changes. -/
theorem ConditionsEnded.of_unmoved {ends : AlarmEntry → Bool} {s : State} (hs : ListedOnce s.alarms)
    (h : Unmoved ends s.alarms.entries) : ConditionsEnded ends s s where
  alarms := by rw [h.listOver_eq, h.keptBy_eq, ← hs.stops]
  heads k := by rw [HeadCtx.overBy, h.keptBy_eq, if_neg (lt_irrefl _)]
  still _ := rfl
  told n := absurd h n

theorem ConditionsEnded.listedOnce {ends : AlarmEntry → Bool} {s t : State} (h : ConditionsEnded ends s t)
    (hs : ListedOnce s.alarms) : ListedOnce t.alarms := by
  rw [h.alarms]
  refine ⟨?_, ?_⟩
  · have same : (listOver ends s.alarms.entries).map (fun e => (e.cls, e.obj)) =
        (keptBy ends s.alarms.entries).map fun e => (e.cls, e.obj) := by
      simp [listOver, Function.comp_def]
    dsimp only
    rw [same]
    exact hs.pairs.sublist (List.filter_sublist.map _)
  · exact (safeStopStands_map _).symm

theorem ConditionsEnded.trans {p q : AlarmEntry → Bool} {s u t : State} (h : ConditionsEnded p s u)
    (k : ConditionsEnded q u t) (hq : OfPair q) : ConditionsEnded (fun z => p z || q z) s t := by
  have list : u.alarms.entries = listOver p s.alarms.entries := by rw [h.alarms]
  have length : t.alarms.entries.length ≤ u.alarms.entries.length := by
    rw [k.alarms]
    exact (List.length_map _).trans_le (List.length_filter_le _ _)
  refine ⟨?_, fun i => ?_, fun m => ?_, fun m => ?_⟩
  · rw [k.alarms, h.alarms]
    dsimp only
    rw [listOver_listOver _ hq, keptBy_listOver _ hq, safeStopStands_map]
  · rw [k.heads, h.heads, list, HeadCtx.overBy_overBy hq]
  · obtain ⟨mp, mq⟩ := (unmoved_or _).mp m
    rw [k.still (by rwa [list, mp.listOver_eq]), h.still mp]
  · by_cases mp : Unmoved p s.alarms.entries
    · refine (k.told fun mq => m ((unmoved_or _).mpr ⟨mp, ?_⟩)).of_term (h.still mp)
      rwa [list, mp.listOver_eq] at mq
    · by_cases mq : Unmoved q u.alarms.entries
      · have term := k.still mq
        have entries : t.alarms.entries.length = u.alarms.entries.length := by rw [k.alarms, mq.listOver_eq]
        obtain ⟨h1, h2, h3⟩ := h.told mp
        unfold ListTold
        rw [term, entries]
        exact ⟨h1, h2, h3⟩
      · exact (h.told mp).trans (k.told mq) length

theorem ConditionsEnded.congr {p q : AlarmEntry → Bool} {s t : State} (h : ConditionsEnded p s t)
    (hpq : ∀ y ∈ s.alarms.entries, p y = q y) : ConditionsEnded q s t := by
  have kept : keptBy p s.alarms.entries = keptBy q s.alarms.entries :=
    List.filter_congr fun y hy => by rw [hpq y hy]
  have list : listOver p s.alarms.entries = listOver q s.alarms.entries := by
    rw [listOver, listOver, kept]
    refine List.map_congr_left fun y hy => ?_
    rw [AlarmEntry.overBy, AlarmEntry.overBy, hpq y (List.mem_filter.mp hy).1]
  have unmoved : Unmoved p s.alarms.entries ↔ Unmoved q s.alarms.entries :=
    forall₂_congr fun y hy => by rw [hpq y hy]
  refine ⟨?_, fun i => ?_, fun m => h.still (unmoved.mpr m), fun m => h.told (mt unmoved.mp m)⟩
  · rw [h.alarms, kept, list]
  · rw [h.heads, HeadCtx.overBy, HeadCtx.overBy, kept]

/-! ## One condition (R140) -/

/-- R140: an entry that is not CLEARED moves when its condition ends. -/
theorem not_unmoved_of_mem {l : List AlarmEntry} {e : AlarmEntry} (he : e ∈ l)
    (h : e.state ≠ .clearedUnacked) : ¬Unmoved (fun y => y.isPair e.cls e.obj) l :=
  fun m => h (m e he e.isPair_self)

/-- R140, R145: the note that the end of the condition of an entry that stands queues. -/
def Ports.overNoted (started : Bool) (ps : Ports) (e : AlarmEntry) : Ports :=
  ps.noted started e.cls e.obj e.level (if e.state = .activeAcked then .removed else .cleared)

section
variable {s : State} (hs : ListedOnce s.alarms) {e : AlarmEntry} (he : e ∈ s.alarms.entries)
include hs he

/-- R140: an ACTIVE-UNACKED entry whose condition ends is CLEARED. -/
theorem State.moveAlarm_ended (h : e.state = .activeUnacked) :
    ConditionsEnded (fun y => y.isPair e.cls e.obj) s (s.moveAlarm e .clearedUnacked .cleared) := by
  have kept : keptBy (fun y => y.isPair e.cls e.obj) s.alarms.entries = s.alarms.entries :=
    List.filter_eq_self.mpr fun y hy => by
      by_cases hp : y.isPair e.cls e.obj = true
      · simp [hs.unique hy he hp, h]
      · simp [hp]
  have list : listOver (fun y => y.isPair e.cls e.obj) s.alarms.entries =
      updateEntry s.alarms.entries e.cls e.obj fun y => { y with state := .clearedUnacked } := by
    rw [listOver, kept]
    refine List.map_congr_left fun y hy => ?_
    by_cases hp : y.isPair e.cls e.obj = true
    · rw [y.overBy_cleared hp (by rw [hs.unique hy he hp, h]), if_pos hp]
    · rw [y.overBy_still (.inl (by simpa using hp)), if_neg hp]
  refine ⟨?_, fun k => ?_, fun m => absurd m (not_unmoved_of_mem he (by simp [h])),
    fun _ => s.moveAlarm_told e _ _⟩
  · rw [State.moveAlarm_eq, list, kept, ← hs.stops]
    rfl
  · rw [HeadCtx.overBy, kept, if_neg (lt_irrefl _), State.moveAlarm_eq]
    cases k <;> rfl

/-- R142, R144: the safe-stop state follows the list when an entry leaves. -/
theorem ListedOnce.without_safeStop : (s.alarms.without e).safeStop =
    safeStopStands (s.alarms.entries.filter fun y => !y.isPair e.cls e.obj) := by
  rw [Alarms.without, hs.stops]
  dsimp only
  split
  case isTrue gone => exact gone.2.symm
  case isFalse still =>
    rw [Bool.eq_iff_iff, safeStopStands_iff, safeStopStands_iff]
    constructor
    · rintro ⟨y, hy, ha⟩
      by_cases hp : y.isPair e.cls e.obj = true
      · rw [hs.unique hy he hp] at ha
        rw [← safeStopStands_iff]
        exact Bool.eq_true_of_not_eq_false fun n => still ⟨ha, n⟩
      · exact ⟨y, List.mem_filter.mpr ⟨hy, by simpa using hp⟩, ha⟩
    · rintro ⟨y, hy, ha⟩
      exact ⟨y, (List.mem_filter.mp hy).1, ha⟩

/-- R140, R142: an ACTIVE-ACKED entry whose condition ends leaves. -/
theorem State.removeAlarm_ended (h : e.state = .activeAcked) :
    ConditionsEnded (fun y => y.isPair e.cls e.obj) s (s.removeAlarm e) := by
  have kept : keptBy (fun y => y.isPair e.cls e.obj) s.alarms.entries =
      s.alarms.entries.filter fun y => !y.isPair e.cls e.obj :=
    List.filter_congr fun y hy => by
      by_cases hp : y.isPair e.cls e.obj = true
      · simp [hs.unique hy he hp, h]
      · simp [hp]
  have list : listOver (fun y => y.isPair e.cls e.obj) s.alarms.entries =
      s.alarms.entries.filter fun y => !y.isPair e.cls e.obj := by
    rw [listOver, kept]
    refine (List.map_congr_left fun y hy => y.overBy_still (.inl ?_)).trans (List.map_id _)
    simpa using (List.mem_filter.mp hy).2
  have fewer : (s.alarms.entries.filter fun y => !y.isPair e.cls e.obj).length < s.alarms.entries.length :=
    List.length_filter_lt_length_iff_exists.mpr ⟨e, he, by simp [e.isPair_self]⟩
  refine ⟨?_, fun k => ?_, fun m => absurd m (not_unmoved_of_mem he (by simp [h])),
    fun _ => s.removeAlarm_told e⟩
  · rw [State.removeAlarm_eq, list, kept, ← hs.without_safeStop he]
    rfl
  · rw [HeadCtx.overBy, kept, if_pos fewer, State.removeAlarm_eq]
    cases k <;> rfl

/-- R140: the condition of a listed entry ends. -/
theorem State.conditionGone_ended :
    ConditionsEnded (fun y => y.isPair e.cls e.obj) s (s.conditionGone e.cls e.obj) := by
  unfold State.conditionGone
  rw [hs.find he]
  dsimp only
  cases h : e.state with
  | activeUnacked => exact State.moveAlarm_ended hs he h
  | activeAcked => exact State.removeAlarm_ended hs he h
  | clearedUnacked => exact .of_unmoved hs fun y hy hp => by rw [hs.unique hy he hp, h]

/-- R140, R142: another entry stays as it is. -/
theorem State.conditionGone_mem {y : AlarmEntry} (hy : y ∈ s.alarms.entries) (hne : y ≠ e) :
    y ∈ (s.conditionGone e.cls e.obj).alarms.entries := by
  have other : y.isPair e.cls e.obj = false := by
    rw [← Bool.not_eq_true]
    exact mt (hs.unique hy he) hne
  rw [(State.conditionGone_ended hs he).alarms]
  exact List.mem_map.mpr ⟨y, (mem_keptBy y _).mpr ⟨hy, by simp [other]⟩, y.overBy_still (.inl other)⟩

/-- R140, R145: a note tells of the condition of an entry that stood. -/
theorem State.conditionGone_ports : (s.conditionGone e.cls e.obj).ports =
    if e.state = .clearedUnacked then s.ports else s.ports.overNoted s.mgmt.started e := by
  rw [State.conditionGone_eq, Alarms.over, hs.find he, Ports.overNoted]
  dsimp only
  cases e.state <;> rfl

end

/-! ## Several conditions -/

/-- R140: the entries of a list whose conditions end in its order. -/
theorem State.conditionsGone_list (m : List AlarmEntry) (s : State) (hs : ListedOnce s.alarms)
    (hm : ∀ e ∈ m, e ∈ s.alarms.entries) (hd : m.Nodup) :
    let t := m.foldl (fun s e => s.conditionGone e.cls e.obj) s
    ConditionsEnded (fun y => m.any fun e => y.isPair e.cls e.obj) s t ∧
      t.ports = (m.filter fun e => e.state != .clearedUnacked).foldl (Ports.overNoted s.mgmt.started)
        s.ports := by
  induction m generalizing s with
  | nil => exact ⟨.of_unmoved hs fun _ _ h => by simp at h, rfl⟩
  | cons e m ih =>
    obtain ⟨fresh, distinct⟩ := List.nodup_cons.mp hd
    have he : e ∈ s.alarms.entries := hm e (by simp)
    have first := State.conditionGone_ended hs he
    have mgmt : (s.conditionGone e.cls e.obj).mgmt = s.mgmt := by rw [State.conditionGone_eq]
    obtain ⟨ended, ports⟩ := ih (s.conditionGone e.cls e.obj) (first.listedOnce hs)
      (fun y hy => State.conditionGone_mem hs he (hm y (by simp [hy])) fun n => fresh (n ▸ hy)) distinct
    refine ⟨?_, ?_⟩
    · simpa only [List.any_cons, List.foldl_cons] using
        first.trans ended fun y st => rfl
    · rw [List.foldl_cons, ports, mgmt, State.conditionGone_ports hs he]
      by_cases h : e.state = .clearedUnacked <;> simp [h]

/-- R140, R145: the conditions of the entries of `f` end: all that this does to a list with one entry for each
pair. -/
theorem State.conditionsGone_ended (s : State) (f : AlarmEntry → Bool) (hs : ListedOnce s.alarms) :
    ConditionsEnded f s (s.conditionsGone f) ∧
      (s.conditionsGone f).ports = (s.alarms.entries.filter fun e => f e && e.state != .clearedUnacked).foldl
        (Ports.overNoted s.mgmt.started) s.ports := by
  obtain ⟨ended, ports⟩ := State.conditionsGone_list (s.alarms.entries.filter f) s hs
    (fun e he => (List.mem_filter.mp he).1) (hs.pairs.of_map.filter _)
  refine ⟨ended.congr fun y hy => ?_, ?_⟩
  · rw [Bool.eq_iff_iff, List.any_eq_true]
    constructor
    · rintro ⟨e, he, hp⟩
      obtain ⟨he, hf⟩ := List.mem_filter.mp he
      rwa [hs.unique hy he hp]
    · exact fun hf => ⟨y, List.mem_filter.mpr ⟨hy, hf⟩, y.isPair_self⟩
  · rw [State.conditionsGone, ports, List.filter_filter]
    simp only [Bool.and_comm]

/-- R140, R142, R143: in the words of the statements, over whatever the terminal server marks behind it. -/
theorem ConditionsEnded.conditionsOver {ends : AlarmEntry → Bool} {s u t : State} (h : ConditionsEnded ends s u)
    (old : State) (ht : t = u.markChanges old) : ConditionsOver ends s t := by
  subst ht
  refine ⟨?_, ?_, ?_, ?_⟩
  · rw [State.markChanges_alarms]
    exact h.alarms
  · rw [State.markChanges_headA, ← HeadCtx.judge_eq]
    exact h.heads .a
  · rw [State.markChanges_headB, ← HeadCtx.judge_eq]
    exact h.heads .b
  · split
    case isTrue all =>
      have term := congrArg State.term (u.markChanges_like old)
      rw [← h.still ((unmoved_iff _).mpr all)]
      exact term
    case isFalse moved => exact (h.told (mt (unmoved_iff _).mp moved)).markChanges old

/-! ## On the ports, whatever the list -/

/-- R164, R172: from `p` to `q` frames were queued on port U alone: of its counters only TX-DROP may rise. -/
structure Ports.QueuedOnU (p q : Ports) : Prop where
  others : ∀ x, x ≠ .u → q.get x = p.get x
  count : { q.u.count with txDrop := p.u.count.txDrop } = p.u.count

theorem Ports.QueuedOnU.refl (p : Ports) : Ports.QueuedOnU p p := ⟨fun _ _ => rfl, rfl⟩

theorem Ports.QueuedOnU.trans {p q r : Ports} (h : Ports.QueuedOnU p q) (k : Ports.QueuedOnU q r) :
    Ports.QueuedOnU p r := by
  refine ⟨fun x hx => (k.others x hx).trans (h.others x hx), ?_⟩
  rw [← h.count, ← k.count]

theorem PortRec.enqueue_count (p : PortRec) (x : Port) (r : Rate) (u : Bool) (m : Msg) :
    { (p.enqueue x r u m).count with txDrop := p.count.txDrop } = p.count := by
  unfold PortRec.enqueue
  dsimp only
  split
  · rfl
  · split
    · rfl
    · rw [PortRec.kick_count]

theorem Ports.enqueue_queuedOnU (p : Ports) (u : Bool) (m : Msg) : Ports.QueuedOnU p (p.enqueue .u u m) :=
  ⟨fun x hx => p.enqueue_ne .u x u m hx, p.u.enqueue_count _ _ _ _⟩

theorem State.conditionGone_queuedOnU (s : State) (c : AlarmClass) (o : AlarmObject) :
    Ports.QueuedOnU s.ports (s.conditionGone c o).ports := by
  rw [State.conditionGone_eq]
  dsimp only
  cases (s.alarms.over c o).2 with
  | none => exact .refl _
  | some y =>
    dsimp only [Option.elim_some]
    unfold Ports.noted
    split
    · exact s.ports.enqueue_queuedOnU _ _
    · exact .refl _

/-- R140, R145: the end of conditions queues notes on port U alone. -/
theorem State.conditionsGone_queuedOnU (s : State) (f : AlarmEntry → Bool) :
    Ports.QueuedOnU s.ports (s.conditionsGone f).ports := by
  unfold State.conditionsGone
  generalize s.alarms.entries.filter f = m
  induction m generalizing s with
  | nil => exact .refl _
  | cons e m ih => exact (s.conditionGone_queuedOnU e.cls e.obj).trans (ih _)

/-- R140: where every pair of the entries of `f` is found CLEARED, nothing changes. -/
theorem State.conditionsGone_still (s : State) (f : AlarmEntry → Bool)
    (h : ∀ e, f e = true → (Alarms.find s.alarms.entries e.cls e.obj).all
      (fun y => y.state = .clearedUnacked) = true) : s.conditionsGone f = s := by
  have each : ∀ e ∈ s.alarms.entries.filter f, s.conditionGone e.cls e.obj = s := by
    intro e he
    have all := h e (List.mem_filter.mp he).2
    unfold State.conditionGone
    cases hf : Alarms.find s.alarms.entries e.cls e.obj with
    | none => rfl
    | some y =>
      rw [hf] at all
      have cleared : y.state = .clearedUnacked := by simpa using all
      dsimp only
      rw [cleared]
  unfold State.conditionsGone
  generalize s.alarms.entries.filter f = m at each
  induction m with
  | nil => rfl
  | cons e m ih =>
    rw [List.foldl_cons, each e (by simp)]
    exact ih fun y hy => each y (by simp [hy])

end Sys2Proof.Machine
end

section
/-! SUPPORT. Trace capture and release, and the clearing of results, pull statistics and counters: the statement
(R68, R70, R80, R126, R140, R177). -/

namespace Sys2Proof.Machine

/-! ## What the operands name -/

/-- 11 TABLE 20: the heads that a head field names, with 2 for BOTH. -/
theorem headsOf_eq (x : Byte) : headsOf x = if 2 < x.toNat then none
    else some ([Head.a, .b].filter fun y => x == 2 || headOf x == some y) := by
  by_cases h0 : x = 0
  · subst h0; rfl
  · by_cases h1 : x = 1
    · subst h1; rfl
    · by_cases h2 : x = 2
      · subst h2; rfl
      · rw [if_pos (by bv_omega), headsOf, if_neg h0, if_neg h1, if_neg h2]

theorem headsOf_eq_none (x : Byte) : 2 < x.toNat ↔ headsOf x = none := by
  rw [headsOf_eq]
  split <;> simp_all

/-- A field beyond BOTH names no head. -/
theorem not_names_head {x : Byte} (h : 2 < x.toNat) (y : Head) : (x == 2 || headOf x == some y) = false := by
  have h0 : x ≠ 0 := by rintro rfl; simp at h
  have h1 : x ≠ 1 := by rintro rfl; simp at h
  have h2 : x ≠ 2 := by rintro rfl; simp at h
  rw [headOf, if_neg h0, if_neg h1, beq_eq_false_iff_ne.mpr h2]
  rfl

/-- 11 TABLE 20: the ports that CLEAR-COUNTERS names, with 6 for ALL. -/
theorem countersOf_eq (x : Byte) : countersOf x = if 6 < x.toNat then none
    else some (allPorts.filter fun p => x == 6 || portOf x == some p) := by
  unfold countersOf
  by_cases h6 : x = 6
  · subst h6; rfl
  · rw [if_neg h6]
    cases hp : portOf x with
    | none =>
      have := (portOf_eq_none x).mp hp
      rw [if_pos (by bv_omega)]
      rfl
    | some p =>
      have : ¬6 ≤ x.toNat := fun k => by simp [(portOf_eq_none x).mpr k] at hp
      rw [if_neg (by omega)]
      have h6 : (x == 6) = false := by simpa using h6
      rw [h6]
      cases p <;> rfl

/-! ## One request -/

/-- What is like a state keeps its frame. -/
theorem Like.frame {l : List Block} {s u t : State} (h : Like u t) (k : Frame l s u) : Frame l s t := by
  refine k.trans ?_
  rw [h]
  simp [Frame]

theorem Like.ports {u t : State} (h : Like u t) : t.ports = u.ports := by rw [h]
theorem Like.puller {u t : State} (h : Like u t) : t.puller = u.puller := by rw [h]
theorem Like.head {u t : State} (h : Like u t) (k : Head) : t.head k = u.head k := by
  rw [h]; cases k <;> rfl
theorem Like.engine {u t : State} (h : Like u t) (k : Head) : t.engine k = u.engine k := by
  rw [h]; cases k <;> rfl

section
variable {l : List Block} {s t : State} (h : Frame l s t)
include h

theorem Frame.ports_eq (hl : Block.ports ∉ l) : t.ports = s.ports := by
  obtain ⟨-, -, -, -, -, -, -, -, -, -, -, ports, -⟩ := h
  exact ports hl

theorem Frame.puller_eq (hl : Block.puller ∉ l) : t.puller = s.puller := by
  obtain ⟨-, -, -, -, -, -, -, -, puller, -⟩ := h
  exact puller hl

theorem Frame.head_eq (k : Head) (hl : headBlock k ∉ l) : t.head k = s.head k := by
  obtain ⟨-, -, headA, headB, -⟩ := h
  cases k
  · exact headA hl
  · exact headB hl

end

/-- R179: an operation that leaves port U to the reply of its request. -/
theorem Like.replied {l : List Block} {s u t : State} {c : Instr} {tag : Byte}
    (h : Like (u.reply 3 tag .accepted) t) (hf : Frame l (s.takeRx .u c) u) (hl : Block.ports ∉ l) :
    Frame (.ports :: l) s t ∧ t.ports = ((s.takeRx .u c).reply 3 tag .accepted).ports := by
  have up : Frame (.ports :: l) (s.takeRx .u c) u := hf.mono fun _ => List.mem_cons_of_mem _
  refine ⟨h.frame ?_, ?_⟩
  · exact (((s.takeRx_frame _ _).mono (by simp)).trans up).trans ((State.reply_frame _ _ _ _).mono (by simp))
  · rw [h.ports, State.reply_ports, State.reply_ports, hf.ports_eq hl]

/-- R68, R70: a CONTROL request that changes the engine of the head it names. -/
theorem exec_controlEngine {s : State} {c : Instr} {tag x : Byte} {g : Engine → Engine}
    (hx : exec c s = .next (s.controlOn c tag (headOf x) fun h u => (u.updateEngine h g, .accepted)))
    (ht : s.inTurn .u c = true) :
    ∃ t, exec c s = .next t ∧
      if headOf x = none then Frame [.ports] s t ∧
        t.ports = ((s.takeRx .u c).reply 3 tag (.refused .range)).ports
      else Frame [engineBlock ((headOf x).getD .a), .ports] s t ∧
        t.ports = ((s.takeRx .u c).reply 3 tag .accepted).ports ∧
        t.engine ((headOf x).getD .a) = g (s.engine ((headOf x).getD .a)) := by
  obtain ⟨t, he, h⟩ := exec_control (f := fun u => u.updateEngine ((headOf x).getD .a) g) hx ht Iff.rfl
    fun h hh => by rw [headOperand_some hh]
  refine ⟨t, he, ?_⟩
  by_cases hn : headOf x = none
  · rw [if_pos hn] at h ⊢
    exact h
  · rw [if_neg hn] at h ⊢
    obtain ⟨frame, ports⟩ := h.replied (State.updateEngine_frame _ _ _)
      (by cases (headOf x).getD .a <;> simp [engineBlock])
    refine ⟨frame.mono (by simp), ports, ?_⟩
    rw [h.engine, State.reply, State.send_engine, State.engine_updateEngine_self, State.takeRx_engine]

/-! ## Results and pull statistics (R80, R126) -/

/-- R80: the heads of `l` are cleared. -/
def State.resultsCleared (s : State) (l : List Head) : State :=
  l.foldl (fun (s : State) h => s.updateHead h HeadCtx.clearResults) s

theorem State.resultsCleared_frame (s : State) (l : List Head) :
    Frame [.headA, .headB] s (s.resultsCleared l) :=
  Frame.foldl _ (fun t h => (t.updateHead_frame h _).mono (by cases h <;> simp [headBlock])) l s

theorem State.resultsCleared_head (s : State) (n : Head → Bool) (h : Head) :
    (s.resultsCleared ([Head.a, .b].filter n)).head h =
      if n h = true then (s.head h).clearResults else s.head h := by
  cases ha : n .a <;> cases hb : n .b <;> cases h <;> simp [ha, hb] <;> rfl

/-- R126: the statistics of the heads of `l` are cleared. -/
def Puller.statsCleared (p : Puller) (l : List Head) : Puller :=
  l.foldl (fun (p : Puller) h => p.setStats h PullStats.cleared) p

theorem Puller.statsCleared_eq (p : Puller) (n : Head → Bool) :
    p.statsCleared ([Head.a, .b].filter n) = { p with
    statsA := if n .a = true then PullStats.cleared else p.statsA
    statsB := if n .b = true then PullStats.cleared else p.statsB } := by
  cases ha : n .a <;> cases hb : n .b <;> simp [ha, hb] <;> rfl

theorem controlClearResults_clears (tag x : Byte) (s : State) :
    let c : Instr := .controlClearResults tag x
    s.inTurn .u c = true → ∃ t, exec c s = .next t ∧ Frame [.headA, .headB, .ports] s t ∧
      (∀ h, t.head h = if x == 2 || headOf x == some h then (s.head h).clearResults else s.head h) ∧
      t.ports = ((s.takeRx .u c).reply 3 tag (if 2 < x.toNat then .refused .range else .accepted)).ports := by
  intro c ht
  obtain ⟨t, he, h⟩ := exec_control (s := s) (c := c) (tag := tag) (op := fun l u => u.resultsCleared l)
    (f := fun u => u.resultsCleared ([Head.a, .b].filter fun y => x == 2 || headOf x == some y))
    rfl ht (headsOf_eq_none x) fun l hl => by
      rw [headsOf_eq] at hl
      split at hl
      · simp at hl
      · rw [← Option.some.inj hl]
  refine ⟨t, he, ?_⟩
  by_cases hx : 2 < x.toNat
  · rw [if_pos hx] at h ⊢
    refine ⟨h.1.mono (by simp), fun k => ?_, h.2⟩
    rw [not_names_head hx]
    exact h.1.head_eq k (by cases k <;> simp [headBlock])
  · rw [if_neg hx] at h ⊢
    obtain ⟨frame, ports⟩ := h.replied (State.resultsCleared_frame _ _) (by simp)
    refine ⟨frame.mono (by simp), fun k => ?_, ports⟩
    rw [h.head, State.reply, State.send_head, State.resultsCleared_head, State.takeRx_head]

/-- R126: what CLEAR-PULL-STATS makes of the pull controller. -/
def Puller.clearedBy (p : Puller) (x : Byte) : Puller := { p with
  statsA := if x == 2 || headOf x == some .a then PullStats.cleared else p.statsA
  statsB := if x == 2 || headOf x == some .b then PullStats.cleared else p.statsB
  stray := if x = 2 then 0 else p.stray }

theorem controlClearPullStats_clears (tag x : Byte) (s : State) :
    let c : Instr := .controlClearPullStats tag x
    s.inTurn .u c = true → ∃ t, exec c s = .next t ∧ Frame [.puller, .ports] s t ∧
      t.puller = s.puller.clearedBy x ∧
      t.ports = ((s.takeRx .u c).reply 3 tag (if 2 < x.toNat then .refused .range else .accepted)).ports := by
  intro c ht
  obtain ⟨t, he, h⟩ := exec_control (s := s) (c := c) (tag := tag)
    (op := fun l u => { u with puller :=
      if x = 2 then { u.puller.statsCleared l with stray := 0 } else u.puller.statsCleared l })
    (f := fun u => { u with puller := u.puller.clearedBy x })
    rfl ht (headsOf_eq_none x) fun l hl => by
      rw [headsOf_eq] at hl
      split at hl
      · simp at hl
      · rw [← Option.some.inj hl]
        funext u
        rw [Puller.statsCleared_eq, Puller.clearedBy]
        split <;> rfl
  refine ⟨t, he, ?_⟩
  by_cases hx : 2 < x.toNat
  · rw [if_pos hx] at h ⊢
    refine ⟨h.1.mono (by simp), ?_, h.2⟩
    have h2 : x ≠ 2 := by rintro rfl; simp at hx
    rw [Puller.clearedBy, not_names_head hx, not_names_head hx, if_neg h2]
    exact h.1.puller_eq (by simp)
  · rw [if_neg hx] at h ⊢
    obtain ⟨frame, ports⟩ := h.replied (s := s) (c := c) (l := [.puller]) (by simp [Frame]) (by simp)
    exact ⟨frame.mono (by simp), h.puller, ports⟩

/-! ## The counters of the ports (R177) -/

/-- R177: the ports that CLEAR-COUNTERS names. -/
def namesPort (x : Byte) (p : Port) : Bool := x == 6 || portOf x == some p

theorem namesPort_iff (x : Byte) (p : Port) : namesPort x p = true ↔ x = 6 ∨ portOf x = some p := by
  simp [namesPort]

/-- R177: the counters of the ports of `n` are cleared. -/
def Ports.zeroed (ps : Ports) (n : Port → Bool) : Ports :=
  (allPorts.filter n).foldl (fun q p => q.update p fun r => { r with count := Counters.zero }) ps

theorem Ports.foldl_update_get (f : PortRec → PortRec) (l : List Port) (hl : l.Nodup) (ps : Ports) (y : Port) :
    (l.foldl (fun q p => q.update p f) ps).get y = if y ∈ l then f (ps.get y) else ps.get y := by
  induction l generalizing ps with
  | nil => rfl
  | cons p l ih =>
    obtain ⟨fresh, distinct⟩ := List.nodup_cons.mp hl
    rw [List.foldl_cons, ih distinct]
    by_cases hy : y = p
    · subst hy
      simp [fresh]
    · simp [hy]

theorem mem_allPorts (p : Port) : p ∈ allPorts := by cases p <;> decide

theorem Ports.zeroed_get (ps : Ports) (n : Port → Bool) (y : Port) : (ps.zeroed n).get y =
    if n y = true then { ps.get y with count := Counters.zero } else ps.get y := by
  rw [Ports.zeroed, Ports.foldl_update_get _ _ (List.Nodup.filter _ (by decide))]
  simp [mem_allPorts]

theorem State.foldl_updatePort (f : PortRec → PortRec) (l : List Port) (s : State) :
    l.foldl (fun (s : State) x => s.updatePort x f) s =
      { s with ports := l.foldl (fun q x => q.update x f) s.ports } := by
  induction l generalizing s with
  | nil => rfl
  | cons x l ih => rw [List.foldl_cons, ih]; rfl

/-- R140: the alarms LINK-ERROR of the ports that are named. -/
def ofNamedLine (x : Byte) (y : AlarmEntry) : Bool :=
  y.cls == .linkError && allPorts.any fun p => namesPort x p && y.obj == .port p

theorem ofNamedLine_iff (x : Byte) (y : AlarmEntry) :
    ofNamedLine x y = true ↔ y.cls = .linkError ∧ ∃ p, namesPort x p = true ∧ y.obj = .port p := by
  simp [ofNamedLine, mem_allPorts]

/-- R135: at most four alarms are LINK-ERROR. -/
theorem ofNamedLine_length (x : Byte) (f : AlarmEntry → Bool) {l : List AlarmEntry} (h : ListInv l) :
    (l.filter fun y => ofNamedLine x y && f y).length ≤ 4 := by
  obtain ⟨pairs, objects, -⟩ := h
  have distinct := pairs.sublist ((List.filter_sublist (p := fun y => ofNamedLine x y && f y)).map
    fun e => (e.cls, e.obj))
  have known : ∀ e ∈ (l.filter fun y => ofNamedLine x y && f y).map fun e => (e.cls, e.obj),
      e ∈ AlarmClass.linkError.objects.map fun o => (AlarmClass.linkError, o) := by
    intro e he
    obtain ⟨y, hy, rfl⟩ := List.mem_map.mp he
    obtain ⟨hy, hf⟩ := List.mem_filter.mp hy
    obtain ⟨hc, -⟩ := (ofNamedLine_iff x y).mp (Bool.and_eq_true_iff.mp hf).1
    have ho := objects y hy
    rw [hc] at ho ⊢
    exact List.mem_map.mpr ⟨y.obj, List.contains_iff_mem.mp ho, rfl⟩
  simpa [AlarmClass.objects] using (distinct.subperm known).length_le

/-- R145, R172: what the notes of conditions that end queue on port U. -/
theorem Ports.overNoted_grows (b : Bool) (m : List AlarmEntry) (ps : Ports) :
    PortRec.Grows m.length 0 ps.u (m.foldl (Ports.overNoted b) ps).u := by
  induction m generalizing ps with
  | nil => exact .refl _
  | cons e m ih =>
    have noted : PortRec.Grows 1 0 ps.u (ps.overNoted b e).u := ps.noted_grows _ _ _ _ _
    exact (noted.trans (ih _)).mono (by simp [Nat.add_comm]) le_rfl

/-- R177: the part with the request taken and the counters of the named ports cleared. -/
def State.countersCleared (s : State) (tag x : Byte) : State :=
  { s.takeRx .u (.controlClearCounters tag x) with
    ports := (s.takeRx .u (.controlClearCounters tag x)).ports.zeroed (namesPort x) }

/-- R140, R177: the counters are cleared, the conditions end, and the request is answered. -/
theorem exec_controlClearCounters {tag x : Byte} {s : State}
    (ht : s.inTurn .u (.controlClearCounters tag x) = true) (hx : ¬6 < x.toNat) :
    exec (.controlClearCounters tag x) s = .next ((((s.countersCleared tag x).conditionsGone
      (ofNamedLine x)).reply 3 tag .accepted).markChanges s) := by
  change Host.Outcome.next _ = _
  rw [State.controlOn, State.control, State.request, State.taken_inTurn _ _ _ _ ht, countersOf_eq, if_neg hx]
  dsimp only
  rw [State.foldl_updatePort]
  have named : (fun e : AlarmEntry => e.cls == .linkError &&
      (allPorts.filter fun p => x == 6 || portOf x == some p).any fun x => e.obj == .port x) =
      ofNamedLine x := by
    funext e
    rw [List.any_filter]
    rfl
  rw [named]
  rfl

theorem exec_controlClearCounters_refused {tag x : Byte} {s : State}
    (ht : s.inTurn .u (.controlClearCounters tag x) = true) (hx : 6 < x.toNat) :
    exec (.controlClearCounters tag x) s =
      .next (((s.takeRx .u (.controlClearCounters tag x)).reply 3 tag (.refused .range)).markChanges s) := by
  change Host.Outcome.next _ = _
  rw [State.controlOn, State.control, State.request, State.taken_inTurn _ _ _ _ ht, countersOf_eq, if_pos hx]

/-- R177: each port once the counters of the named ones are cleared. -/
theorem State.countersCleared_port (s : State) (tag x : Byte) (p : Port) :
    (s.countersCleared tag x).ports.get p = if namesPort x p = true then
        { (s.takeRx .u (.controlClearCounters tag x)).port p with count := Counters.zero }
      else (s.takeRx .u (.controlClearCounters tag x)).port p :=
  Ports.zeroed_get _ _ p

/-- R177: port U once the counters of the named ports are cleared. -/
theorem State.countersCleared_u (s : State) (tag x : Byte) :
    let u := (s.takeRx .u (.controlClearCounters tag x)).ports.u
    (s.countersCleared tag x).ports.u =
      { u with count := if x = 6 ∨ portOf x = some .u then Counters.zero else u.count } := by
  intro u
  refine (s.countersCleared_port tag x .u).trans ?_
  by_cases hn : x = 6 ∨ portOf x = some .u
  · rw [if_pos ((namesPort_iff x .u).mpr hn), if_pos hn]
    rfl
  · rw [if_neg (mt (namesPort_iff x .u).mp hn), if_neg hn]
    rfl

section
variable (s : State) (tag x : Byte)

/-- What CLEAR-COUNTERS leaves where it names ports. -/
def State.clearCounters : State :=
  (((s.countersCleared tag x).conditionsGone (ofNamedLine x)).reply 3 tag .accepted).markChanges s

theorem State.clearCounters_ports : (s.clearCounters tag x).ports =
    ((s.countersCleared tag x).conditionsGone (ofNamedLine x)).ports.enqueue .u false
      (.controlReply 3 tag .accepted) := by
  rw [State.clearCounters, State.markChanges_ports, State.reply_ports]

theorem State.clearCounters_frame :
    Frame [.headA, .headB, .alarms, .term, .ports] s (s.clearCounters tag x) := by
  have cleared : Frame [.headA, .headB, .alarms, .term, .ports] s (s.countersCleared tag x) := by
    simp [Frame, State.countersCleared]
  exact ((cleared.trans (State.conditionsGone_frame _ _)).trans
    ((State.reply_frame _ _ _ _).mono (by simp))).markChanges s

/-- R140, R145, R177: what is queued stands on port U, whatever the list. -/
theorem State.clearCounters_queuedOnU :
    Ports.QueuedOnU (s.countersCleared tag x).ports (s.clearCounters tag x).ports := by
  rw [State.clearCounters_ports]
  exact (State.conditionsGone_queuedOnU _ _).trans (Ports.enqueue_queuedOnU _ _ _)

variable {s}

theorem AlarmInv.listedOnce (h : AlarmInv s) : ListedOnce s.alarms := ⟨h.1.1, h.2.1⟩

theorem State.clearCounters_ended (h : ListedOnce s.alarms) :
    ConditionsOver (ofNamedLine x) s (s.clearCounters tag x) ∧
      (s.clearCounters tag x).ports =
        ((s.alarms.entries.filter fun y => ofNamedLine x y && y.state != .clearedUnacked).foldl
          (Ports.overNoted s.mgmt.started) (s.countersCleared tag x).ports).enqueue .u false
          (.controlReply 3 tag .accepted) := by
  obtain ⟨⟨alarms, heads, still, told⟩, ports⟩ :=
    (s.countersCleared tag x).conditionsGone_ended (ofNamedLine x) h
  have replied : ConditionsEnded (ofNamedLine x) (s.countersCleared tag x)
      (((s.countersCleared tag x).conditionsGone (ofNamedLine x)).reply 3 tag .accepted) :=
    ⟨alarms, fun k => by rw [State.reply, State.send_head, heads], still, told⟩
  refine ⟨replied.conditionsOver s rfl, ?_⟩
  rw [State.clearCounters_ports, ports]
  rfl

/-- R140: without an alarm to end, the reply alone is queued. -/
theorem State.clearCounters_still (h : ∀ p ∈ allPorts, (x = 6 ∨ portOf x = some p) →
    (Alarms.find s.alarms.entries .linkError (.port p)).all (fun y => y.state = .clearedUnacked) = true) :
    (s.clearCounters tag x).ports =
      (s.countersCleared tag x).ports.enqueue .u false (.controlReply 3 tag .accepted) := by
  rw [State.clearCounters_ports, State.conditionsGone_still]
  intro e he
  obtain ⟨hc, p, hp, ho⟩ := (ofNamedLine_iff x e).mp he
  rw [hc, ho]
  exact h p (mem_allPorts p) ((namesPort_iff x p).mp hp)

/-- R172: at most four notes come before the reply, so a queue of three has room for it. -/
theorem State.clearCounters_carries (h : AlarmInv s) (hs : (s.countersCleared tag x).ports.u.state ≠ .down)
    (hl : (s.countersCleared tag x).ports.u.tx.length ≤ 3) :
    (s.clearCounters tag x).ports.u.Carries (.controlReply 3 tag .accepted) := by
  rw [(State.clearCounters_ended tag x h.listedOnce).2]
  have four := ofNamedLine_length x (fun y => y.state != .clearedUnacked) h.1
  have grows := Ports.overNoted_grows s.mgmt.started
    (s.alarms.entries.filter fun y => ofNamedLine x y && y.state != .clearedUnacked)
    (s.countersCleared tag x).ports
  generalize List.foldl (Ports.overNoted s.mgmt.started) _ _ = q at grows ⊢
  refine PortRec.enqueue_self q.u .u _ _ _ (grows.live hs) ?_
  have length := grows.length
  have normals := grows.normals.trans (Nat.add_le_add_right (PortRec.normals_le _) 0)
  exact Bool.and_eq_true_iff.mpr ⟨decide_eq_true (show _ < 8 by omega),
    Bool.or_eq_true_iff.mpr (.inr (decide_eq_true (show _ < 6 by omega)))⟩

end

/-! ## The statement -/

/-- Settles O58: each request is its operation over what its field names; CLEAR-COUNTERS is read off the cleared
counters, the conditions that end together, and what they queue. -/
theorem capturesAndClears : Obligations.CapturesAndClears := by
  unfold Obligations.CapturesAndClears
  intro tag x on s answer h e named cleared stats cc
  refine ⟨fun ht => ?_, fun ht => ?_, fun ht => ?_, fun ht => ?_, fun ht => ?_⟩
  · obtain ⟨t, he, k⟩ := exec_controlEngine rfl ht
    refine ⟨t, he, ?_⟩
    split at k
    · next hn => exact (if_pos hn).mpr k
    · next hn =>
      obtain ⟨frame, ports, engine⟩ := k
      exact (if_neg hn).mpr ⟨frame, engine, ports⟩
  · obtain ⟨t, he, k⟩ := exec_controlEngine rfl ht
    refine ⟨t, he, ?_⟩
    split at k
    · next hn => exact (if_pos hn).mpr k
    · next hn => exact (if_neg hn).mpr k
  · obtain ⟨t, he, frame, heads, ports⟩ := controlClearResults_clears tag x s ht
    exact ⟨t, he, frame, heads .a, heads .b, ports⟩
  · exact controlClearPullStats_clears tag x s ht
  · by_cases hx : 6 < x.toNat
    · refine ⟨_, exec_controlClearCounters_refused ht hx, (if_pos hx).mpr ⟨?_, State.markChanges_ports _ s⟩⟩
      exact ((s.takeRx_frame _ _).trans (State.reply_frame _ _ _ _)).markChanges s
    · refine ⟨s.clearCounters tag x, exec_controlClearCounters ht hx, (if_neg hx).mpr ?_⟩
      have queued := s.clearCounters_queuedOnU tag x
      have port := s.countersCleared_port tag x
      refine ⟨fun p _ hp hu => ?_, fun p _ h6 hp hu => ?_, ?_, fun inv => ?_, s.clearCounters_frame tag x⟩
      · rw [State.port, queued.others p hu, port, if_pos ((namesPort_iff x p).mpr hp)]
      · rw [State.port, queued.others p hu, port, if_neg (mt (namesPort_iff x p).mp (not_or.mpr ⟨h6, hp⟩))]
        exact State.port_updatePort_ne _ _ _ _ hu
      · intro named u start
        have begun : (s.countersCleared tag x).ports.u = start := s.countersCleared_u tag x
        refine ⟨?_, fun inv hs hl => ?_, fun cleared => ?_⟩
        · rw [← begun]
          exact queued.count
        · exact State.clearCounters_carries tag x inv (by rw [begun]; exact hs) (by rw [begun]; exact hl)
        · rw [State.clearCounters_still tag x cleared]
          exact congrArg (fun p : PortRec => p.enqueue .u p.rate false _) begun
      · intro ends note zeroed
        have zeroed_eq : zeroed = (s.countersCleared tag x).ports := by
          rw [State.countersCleared, Ports.zeroed, List.foldl_filter]
          simp only [namesPort_iff]
          rfl
        rw [zeroed_eq]
        exact State.clearCounters_ended tag x inv.listedOnce

end Sys2Proof.Machine
end

section
/-! SUPPORT. What the invariants of strips and pulls read of the state, said once, and the operations that leave it
as it is (R86, R88, R98, R99, R103, R113, R119 to R121). -/

namespace Sys2Proof.Machine

/-! ## What the invariants read -/

/-- What the invariants read of a strip: its id and its pull state. -/
def Strip.tag (x : Strip) : Nat × PullState := (x.id, x.pullState)

/-- R119: a pull state in which no pull stands. -/
def PullState.still : PullState → Bool
  | .waiting | .ordered => false
  | .none | .complete => true

theorem Strip.quiet_eq (x : Strip) : x.quiet = x.pullState.still := by
  unfold Strip.quiet
  cases x.pullState <;> rfl

/-- What the invariants of strips and pulls read of the track and of the pull controller, but for the held
request. -/
structure Lane where
  entry : Option (Nat × PullState)
  bond : Option (Nat × PullState)
  pull : Option (Nat × PullState)
  exit : Option (Nat × PullState)
  known : Bool
  inFlight : Option FlightRequest
  magIn : MagInState × Nat
  magOut : MagOutState × Nat
  taken : Nat
  introduced : Nat
  delivered : Nat
  dropped : Nat
  current : Option CurrentPull
  ordersQueued : Nat
  timer : Option Nat

def State.lane (s : State) : Lane where
  entry := s.track.entry.map Strip.tag
  bond := s.track.bond.map Strip.tag
  pull := s.track.pull.map Strip.tag
  exit := s.track.exit.map Strip.tag
  known := s.track.known
  inFlight := s.track.inFlight
  magIn := (s.track.magIn.state, s.track.magIn.cursor)
  magOut := (s.track.magOut.state, s.track.magOut.cursor)
  taken := s.track.taken
  introduced := s.track.introduced
  delivered := s.track.delivered
  dropped := s.track.dropped
  current := s.puller.current
  ordersQueued := s.puller.ordersQueued
  timer := s.puller.timer

/-- The tags of the strips on the track, from ENTRY to EXIT. -/
def Lane.tags (v : Lane) : List (Nat × PullState) :=
  v.entry.toList ++ v.bond.toList ++ v.pull.toList ++ v.exit.toList

/-- R113: none of the four counts has reached its greatest value. -/
def Lane.Unsaturated (v : Lane) : Prop :=
  v.taken < maxU32 ∧ v.introduced < maxU32 ∧ v.delivered < maxU32 ∧ v.dropped < maxU32

/-- R91 to R94, R103: what a TRANSFER in flight says of EXIT and of the magazines. -/
structure Lane.Agrees (v : Lane) (q : FlightRequest) : Prop where
  exit : q.outSlot.isSome = v.exit.isSome
  magIn : ∀ k ∈ q.inSlot, q.inChanged = false → v.magIn = (.ready, k)
  magOut : ∀ k ∈ q.outSlot, q.outChanged = false → v.magOut = (.ready, k)

/-- R88, R99, R102, R103, R113: the invariant of the strips, where a request is `held` or not. -/
structure Lane.Sound (v : Lane) (held : Bool) : Prop where
  ids : (v.tags.map Prod.fst).Nodup
  unknown : v.known = false → v.inFlight = none ∧ held = false
  held : held = true → v.inFlight = none
  flight : ∀ q ∈ v.inFlight, q.kind = .transfer → v.Agrees q
  conserved : v.Unsaturated → v.taken + v.introduced = v.tags.length + v.delivered + v.dropped

/-- R119 to R121: what a current pull says of the strip at PULL and of the pull controller. -/
structure Lane.Stands (v : Lane) (c : CurrentPull) : Prop where
  strip : ∃ y, v.pull = some y ∧ y.1 = c.strip ∧ y.2.still = false ∧
    (y.2 = .waiting → v.ordersQueued = 0 ∧ v.timer = none) ∧ (y.2 = .ordered → v.timer.isSome = true)
  orders : v.ordersQueued ≤ c.tasks.length
  awaits : c.tasks.any (fun y => y.result.isNone) = true

/-- R119: strips at ENTRY, BOND and EXIT have no pull. -/
structure Lane.Beside (v : Lane) : Prop where
  entry : ∀ y ∈ v.entry, y.2.still = true
  bond : ∀ y ∈ v.bond, y.2.still = true
  exit : ∀ y ∈ v.exit, y.2.still = true

/-- R98, R99, R119 to R121, R128: the invariant of the pulls. -/
structure Lane.Pulls (v : Lane) : Prop where
  beside : v.Beside
  flight : ∀ q ∈ v.inFlight, q.kind = .transfer → ∀ y ∈ v.pull, y.2.still = true
  idle : v.current = none → v.timer = none ∧ ∀ y ∈ v.pull, y.2.still = true
  stands : ∀ c ∈ v.current, v.Stands c

theorem State.lane_tags (s : State) : s.lane.tags = s.track.strips.map Strip.tag := by
  simp only [Lane.tags, State.lane, Track.strips, List.map_append, Option.toList_map]

theorem State.lane_ids (s : State) : s.lane.tags.map Prod.fst = s.track.strips.map fun x => x.id := by
  rw [s.lane_tags, List.map_map]
  rfl

theorem trackInv_iff (s : State) : TrackInv s ↔ s.lane.Sound s.track.held.isSome := by
  have lanes : s.lane.tags.length = s.track.strips.length := by rw [s.lane_tags, List.length_map]
  have agrees (q : FlightRequest) : s.lane.Agrees q ↔ q.outSlot.isSome = s.track.exit.isSome ∧
      (∀ k ∈ q.inSlot, q.inChanged = false → s.track.magIn.state = .ready ∧ s.track.magIn.cursor = k) ∧
      (∀ k ∈ q.outSlot, q.outChanged = false → s.track.magOut.state = .ready ∧ s.track.magOut.cursor = k) := by
    constructor
    · intro ⟨e, i, o⟩
      exact ⟨by simpa [State.lane] using e, fun k hk hc => Prod.mk.inj (i k hk hc),
        fun k hk hc => Prod.mk.inj (o k hk hc)⟩
    · intro ⟨e, i, o⟩
      exact ⟨by simpa [State.lane] using e, fun k hk hc => Prod.ext_iff.mpr (i k hk hc),
        fun k hk hc => Prod.ext_iff.mpr (o k hk hc)⟩
  constructor
  · intro ⟨ids, unknown, held, flight, conserved⟩
    refine ⟨s.lane_ids ▸ ids, fun hk => ?_, held, fun q hq hk => (agrees q).mpr (flight q hq hk),
      fun h => (conserved h).trans (by rw [lanes]; rfl)⟩
    obtain ⟨h1, h2⟩ := unknown hk
    exact ⟨h1, by rw [h2]; rfl⟩
  · intro ⟨ids, unknown, held, flight, conserved⟩
    refine ⟨s.lane_ids ▸ ids, fun hk => ?_, held, fun q hq hk => (agrees q).mp (flight q hq hk),
      fun h => (conserved h).trans (by rw [lanes]; rfl)⟩
    obtain ⟨h1, h2⟩ := unknown hk
    exact ⟨h1, by simpa using h2⟩

/-- A strip at a place, read off its tag. -/
theorem forall_tag {x : Option Strip} {p : PullState → Prop} :
    (∀ y ∈ x.map Strip.tag, p y.2) ↔ ∀ y ∈ x, p y.pullState := by
  cases x <;> simp [Strip.tag]

theorem quiet_iff (x : Option Strip) :
    (∀ y ∈ x, y.quiet = true) ↔ ∀ y ∈ x.map Strip.tag, y.2.still = true := by
  rw [forall_tag (p := fun y => y.still = true)]
  simp only [Strip.quiet_eq]

theorem pullInv_iff (s : State) : PullInv s ↔ TrackInv s ∧ s.lane.Pulls := by
  have stands (c : CurrentPull) : s.lane.Stands c ↔ s.track.pull.isSome = true ∧
      (∀ x ∈ s.track.pull, x.id = c.strip ∧ x.quiet = false ∧
        (x.pullState = .waiting → s.puller.ordersQueued = 0 ∧ s.puller.timer = none) ∧
        (x.pullState = .ordered → s.puller.timer.isSome = true)) ∧
      s.puller.ordersQueued ≤ c.tasks.length ∧ c.tasks.any (fun y => y.result.isNone) = true := by
    constructor
    · intro ⟨⟨y, hy, h⟩, o, a⟩
      obtain ⟨x, hx, rfl⟩ := Option.map_eq_some_iff.mp (show s.track.pull.map Strip.tag = some y from hy)
      rw [hx]
      refine ⟨rfl, fun z hz => ?_, o, a⟩
      cases hz
      rw [Strip.quiet_eq]
      exact h
    · intro ⟨hp, h, o, a⟩
      obtain ⟨x, hx⟩ := Option.isSome_iff_exists.mp hp
      have hx' := h x hx
      rw [Strip.quiet_eq] at hx'
      exact ⟨⟨x.tag, by simp [State.lane, hx], hx'⟩, o, a⟩
  constructor
  · intro ⟨t, ⟨idle, current⟩, flight, e, b, x⟩
    exact ⟨t, ⟨(quiet_iff _).mp e, (quiet_iff _).mp b, (quiet_iff _).mp x⟩,
      fun q hq hk => (quiet_iff _).mp (flight q hq hk),
      fun h => ⟨(idle h).1, (quiet_iff _).mp (idle h).2⟩, fun c hc => (stands c).mpr (current c hc)⟩
  · intro ⟨t, ⟨e, b, x⟩, flight, idle, current⟩
    exact ⟨t, ⟨fun h => ⟨(idle h).1, (quiet_iff _).mpr (idle h).2⟩, fun c hc => (stands c).mp (current c hc)⟩,
      fun q hq hk => (quiet_iff _).mpr (flight q hq hk),
      (quiet_iff _).mpr e, (quiet_iff _).mpr b, (quiet_iff _).mpr x⟩

/-- A held request that ends breaks no invariant of the strips. -/
theorem Lane.Sound.mono {v : Lane} {a b : Bool} (h : v.Sound a) (hb : b = true → a = true) : v.Sound b := by
  refine ⟨h.ids, fun hk => ?_, fun hh => h.held (hb hh), h.flight, h.conserved⟩
  obtain ⟨h1, h2⟩ := h.unknown hk
  refine ⟨h1, ?_⟩
  cases b with
  | false => rfl
  | true => rw [hb rfl] at h2; cases h2

/-- With a pull state that is still at PULL, no pull stands. -/
theorem Lane.Pulls.current_none {v : Lane} (h : v.Pulls) (hs : ∀ y ∈ v.pull, y.2.still = true) :
    v.current = none := by
  cases hc : v.current with
  | none => rfl
  | some c =>
    obtain ⟨y, hy, -, hn, -⟩ := (h.stands c hc).strip
    rw [hs y hy] at hn
    cases hn

/-! ## What every step keeps -/

/-- From `s` to `t` the invariants of strips and pulls are kept. -/
structure Tracked (s t : State) : Prop where
  track : TrackInv s → TrackInv t
  pulls : PullInv s → PullInv t

theorem Tracked.refl (s : State) : Tracked s s := ⟨id, id⟩

theorem Tracked.trans {s t u : State} (h : Tracked s t) (k : Tracked t u) : Tracked s u :=
  ⟨k.track ∘ h.track, k.pulls ∘ h.pulls⟩

theorem Tracked.ite {c : Prop} [Decidable c] {s t u : State} (ht : Tracked s t) (hu : Tracked s u) :
    Tracked s (if c then t else u) := by
  split
  · exact ht
  · exact hu

/-- The two invariants, one over the other. -/
theorem Tracked.of_lane {s t : State}
    (track : s.lane.Sound s.track.held.isSome → t.lane.Sound t.track.held.isSome)
    (pulls : s.lane.Sound s.track.held.isSome → s.lane.Pulls → t.lane.Pulls) : Tracked s t := by
  refine ⟨fun h => ?_, fun h => ?_⟩
  · rw [trackInv_iff] at h ⊢
    exact track h
  · rw [pullInv_iff, trackInv_iff] at h ⊢
    exact ⟨track h.1, pulls h.1 h.2⟩

/-- From `s` to `t` the strips, their magazines and their pulls stay, but that a held request may end. -/
structure Steady (s t : State) : Prop where
  lane : t.lane = s.lane
  held : t.track.held.isSome = true → s.track.held.isSome = true

theorem Steady.refl (s : State) : Steady s s := ⟨rfl, id⟩

theorem Steady.trans {s t u : State} (h : Steady s t) (k : Steady t u) : Steady s u :=
  ⟨k.lane.trans h.lane, h.held ∘ k.held⟩

theorem Steady.ite {c : Prop} [Decidable c] {s t u : State} (ht : Steady s t) (hu : Steady s u) :
    Steady s (if c then t else u) := by
  split
  · exact ht
  · exact hu

theorem Steady.foldl {α : Type} (f : State → α → State) (hf : ∀ s a, Steady s (f s a)) (xs : List α)
    (s : State) : Steady s (xs.foldl f s) := by
  induction xs generalizing s with
  | nil => exact Steady.refl s
  | cons a xs ih => exact (hf s a).trans (ih _)

theorem Steady.tracked {s t : State} (h : Steady s t) : Tracked s t :=
  .of_lane (fun k => by rw [h.lane]; exact k.mono h.held) fun _ k => by rw [h.lane]; exact k

/-- An operation that leaves the track, and of the pull controller what the invariants read. -/
theorem Steady.of_same {s t : State} (ht : t.track = s.track) (hc : t.puller.current = s.puller.current)
    (ho : t.puller.ordersQueued = s.puller.ordersQueued) (hm : t.puller.timer = s.puller.timer) :
    Steady s t :=
  ⟨by simp only [State.lane, ht, hc, ho, hm], by rw [ht]; exact id⟩

theorem Steady.of_frame {l : List Block} {s t : State} (h : Frame l s t) (ht : Block.track ∉ l)
    (hp : Block.puller ∉ l) : Steady s t := by
  obtain ⟨-, -, -, -, -, -, -, track, puller, -⟩ := h
  have puller := puller hp
  exact .of_same (track ht) (by rw [puller]) (by rw [puller]) (by rw [puller])

end Sys2Proof.Machine
end

section
/-! SUPPORT. The operations of the other blocks leave strips and pulls in place; the index gate keeps their
invariants (R88, R98 to R103). -/

namespace Sys2Proof.Machine

/-! ## Operations that leave strips and pulls in place -/

theorem State.markChanges_steady (s old : State) : Steady s (s.markChanges old) :=
  .of_frame (s.markChanges_frame old []) (by simp) (by simp)

theorem State.updatePort_steady (s : State) (x : Port) (f : PortRec → PortRec) : Steady s (s.updatePort x f) :=
  .of_frame (s.updatePort_frame x f) (by simp) (by simp)

theorem State.send_steady (s : State) (x : Port) (m : Msg) : Steady s (s.send x m) :=
  .of_frame (s.send_frame x m) (by simp) (by simp)

theorem State.forward_steady (s : State) (c : Instr) : Steady s (s.forward c) :=
  .of_frame (s.forward_frame c) (by simp) (by simp)

theorem State.reply_steady (s : State) (k t : Byte) (r : Reply) : Steady s (s.reply k t r) := s.send_steady _ _

theorem State.takeRx_steady (s : State) (x : Port) (c : Instr) : Steady s (s.takeRx x c) := s.updatePort_steady x _

theorem State.setHead_steady (s : State) (h : Head) (c : HeadCtx) : Steady s (s.setHead h c) :=
  .of_frame (s.setHead_frame h c) (by cases h <;> simp [headBlock]) (by cases h <;> simp [headBlock])

theorem State.updateHead_steady (s : State) (h : Head) (f : HeadCtx → HeadCtx) : Steady s (s.updateHead h f) :=
  s.setHead_steady h _

theorem State.updateEngine_steady (s : State) (h : Head) (f : Engine → Engine) : Steady s (s.updateEngine h f) :=
  .of_frame (s.updateEngine_frame h f) (by cases h <;> simp [engineBlock]) (by cases h <;> simp [engineBlock])

/-- R101, R102: a held request that ends. -/
theorem State.refuseHeld_steady (s : State) (r : Reason) : Steady s (s.refuseHeld r) := by
  rw [State.refuseHeld_eq]
  exact ⟨rfl, fun h => by cases h⟩

/-- R138, R139, R144: a raise ends no more than a held request. -/
theorem State.raise_steady (s : State) (c : AlarmClass) (o : AlarmObject) : Steady s (s.raise c o) := by
  rw [State.raise_eq]
  dsimp only
  split
  · exact ⟨rfl, fun h => by cases h⟩
  · exact .of_same rfl rfl rfl rfl

theorem State.conditionGone_steady (s : State) (c : AlarmClass) (o : AlarmObject) :
    Steady s (s.conditionGone c o) := .of_frame (s.conditionGone_frame c o) (by simp) (by simp)

theorem State.abortCause_steady (s : State) (h : Head) : Steady s (s.abortCause h) :=
  .of_frame (s.abortCause_frame h) (by cases h <;> simp [headBlock]) (by cases h <;> simp [headBlock])

theorem State.stray_steady (s : State) (h : Head) (n : Nat) : Steady s (s.stray h n) := s.updateHead_steady h _

theorem State.releasePins_steady (s : State) (f : BondRecord → Bool) : Steady s (s.releasePins f) :=
  .of_frame (s.releasePins_frame f) (by simp) (by simp)

theorem State.pullWake_steady (s : State) : Steady s s.pullWake :=
  .of_frame s.pullWake_frame (by simp) (by simp)

/-- A track whose strips keep their tags, with all else that the invariants read. -/
theorem Steady.of_track (s : State) (t : Track) (h : ({ s with track := t } : State).lane = s.lane)
    (hh : t.held = s.track.held) : Steady s { s with track := t } :=
  ⟨h, by rw [show ({ s with track := t } : State).track.held = s.track.held from hh]; exact id⟩

theorem map_tag_map (x : Option Strip) (f : Strip → Strip) (hf : ∀ y, (f y).tag = y.tag) :
    (x.map f).map Strip.tag = x.map Strip.tag := by
  simp [Function.comp_def, hf]

/-- The strip at BOND changes, but for its id and its pull state. -/
theorem Steady.of_bond (s : State) (x : Option Strip) (h : x.map Strip.tag = s.track.bond.map Strip.tag) :
    Steady s { s with track := { s.track with bond := x } } :=
  .of_track s _ (by simp only [State.lane, h]) rfl

theorem State.updateUnit_steady (s : State) (u : Nat) (f : UnitRecord → UnitRecord) :
    Steady s (s.updateUnit u f) := .of_bond s _ (map_tag_map _ _ fun _ => rfl)

/-! ## The close of a bond, but for the gate -/

theorem State.raises_steady (s : State) (l : List AlarmClass) (o : AlarmObject) :
    Steady s (l.foldl (fun (s : State) a => s.raise a o) s) :=
  .foldl (fun (s : State) a => s.raise a o) (fun t a => t.raise_steady a o) l s

theorem State.weakRunStep_steady (s : State) (h : Head) (f : Figures) (n : Nat) :
    Steady s (s.weakRunStep h f n) := by
  unfold State.weakRunStep
  exact .ite ((s.updateHead_steady h _).trans (State.raise_steady _ _ _)) (s.updateHead_steady h _)

theorem State.closeAlarmed_steady (s : State) (h : Head) (b : Bond) (f : Figures) (limit : Nat) :
    Steady s (s.closeAlarmed h b f limit) := (s.raises_steady _ _).trans (State.weakRunStep_steady _ h f limit)

theorem State.closeBegun_steady (s : State) (h : Head) (b : Bond) (f : Figures) (late link : Bool) :
    Steady s (s.closeBegun h b f late link) := by
  have recorded (y : Store) : Steady s { s with store := y } := .of_same rfl rfl rfl rfl
  unfold State.closeBegun
  exact ((recorded _).trans (State.updateEngine_steady _ h fun _ => _)).trans (State.setHead_steady _ h _)

theorem State.unitMoved_steady (s : State) (h : Head) (b : Bond) (c : BondClass) (x : Strip)
    (hx : s.track.bond = some x) : Steady s (s.unitMoved h b c x) := by
  unfold State.unitMoved
  refine Steady.trans ?_ (State.updateHead_steady _ h _)
  exact (Steady.of_bond s (some (x.updateUnit b.unit _)) (by rw [hx]; rfl)).trans (.of_same rfl rfl rfl rfl)

theorem State.moveUnit_steady (s : State) (h : Head) (b : Bond) (c : BondClass) :
    Steady s (s.moveUnit h b c) := by
  cases hx : s.track.bond with
  | none => rw [s.moveUnit_none h b c hx]; exact .refl s
  | some x =>
    rw [s.moveUnit_eq h b c x hx]
    exact .ite ((s.unitMoved_steady h b c x hx).trans (State.raise_steady _ _ _)) (s.unitMoved_steady h b c x hx)

theorem State.closeDone_steady (s : State) (h : Head) (b : Bond) (f : Figures) (late link : Bool) :
    Steady s (s.closeDone h b f late link) := by
  unfold State.closeDone State.closeMoved
  exact ((((s.closeBegun_steady h b f late link).trans (State.closeAlarmed_steady _ h b f _)).trans
    (State.send_steady _ _ _)).trans (State.moveUnit_steady _ h b _)).trans (State.updateHead_steady _ h _)

/-! ## The index gate (R97 to R100, R103) -/

/-- R98: what a request with no blocking reason finds. -/
structure GateOpen (s : State) (k : IndexKind) : Prop where
  pull : k = .transfer → ∀ x ∈ s.track.pull, x.quiet = true
  output : k = .transfer → s.track.exit.isSome = true → s.track.magOut.state = .ready

theorem gateOpen_of_empty {s : State} {k : IndexKind} (h : (s.blockingReasons k).empty = true) : GateOpen s k := by
  rw [GateReasons.empty_iff, State.blockingReasons_eq] at h
  obtain ⟨-, hp, ho⟩ := GateReasons.mk.inj h
  refine ⟨fun hk x hx => ?_, fun hk he => ?_⟩
  · subst hk
    rw [Option.mem_def.mp hx] at hp
    simpa [Strip.quiet, bne, ← Bool.not_or] using hp
  · subst hk
    simpa [he] using ho

/-- R103: a request on a KNOWN track, with none held or in flight, that finds the gate open. -/
theorem State.forwardIndex_tracked (s : State) (k : IndexKind) (known : s.track.known = true)
    (held : s.track.held = none) (hg : GateOpen s k) : Tracked s (s.forwardIndex k) := by
  unfold State.forwardIndex
  extract_lets i o
  refine Tracked.ite (.of_lane (fun h => ?_) fun _ h => ?_) (s.send_steady _ _).tracked
  · refine ⟨h.ids, fun hk => absurd (known.symm.trans hk) (by simp), fun hh => ?_, fun q hq hk => ?_, h.conserved⟩
    · rw [show ({ s.send .ix (.index k i o) with track := _ } : State).track.held = s.track.held from rfl, held] at hh
      cases hh
    · cases hq
      cases hk
      refine ⟨?_, fun n hn _ => ?_, fun n hn _ => ?_⟩
      · cases hx : s.track.exit <;> simp [o, State.lane, Track.orderedOut, hx]
      · have hn : (if s.track.magIn.state = .ready then some s.track.magIn.cursor else none) = some n := hn
        split at hn
        · next hr => cases hn; exact Prod.ext hr rfl
        · cases hn
      · have hn : (if s.track.exit.isSome then some s.track.magOut.cursor else none) = some n := hn
        split at hn
        · next hr => cases hn; exact Prod.ext (hg.output rfl hr) rfl
        · cases hn
  · refine ⟨⟨h.beside.entry, h.beside.bond, h.beside.exit⟩, fun q hq hk => ?_, h.idle, fun c hc => ?_⟩
    · cases hq
      exact (quiet_iff _).mp (hg.pull hk)
    · obtain ⟨strip, orders, awaits⟩ := h.stands c hc
      exact ⟨strip, orders, awaits⟩

/-- R97 to R99: a request that has passed its checks. -/
theorem State.gateIndex_tracked (s : State) (k : IndexKind) (known : s.track.known = true)
    (held : s.track.held = none) (free : s.track.inFlight = none) : Tracked s (s.gateIndex k) := by
  unfold State.gateIndex
  extract_lets r
  split
  · next hr => exact s.forwardIndex_tracked k known held (gateOpen_of_empty hr)
  · exact .of_lane (fun h => ⟨h.ids, fun hk => absurd (known.symm.trans hk) (by simp), fun _ => free, h.flight,
      h.conserved⟩) fun _ h => ⟨h.beside, h.flight, h.idle, h.stands⟩

/-- A KNOWN track is one on which a request is held. -/
theorem State.known_of_held {s : State} (h : TrackInv s) (hh : s.track.held.isSome = true) :
    s.track.known = true := by
  obtain ⟨-, unknown, -⟩ := h
  cases hk : s.track.known with
  | true => rfl
  | false => rw [(unknown hk).2] at hh; cases hh

/-- What holds where the strips are sound need be shown there alone. -/
theorem Tracked.of_sound {s t : State} (h : TrackInv s → Tracked s t) : Tracked s t :=
  ⟨fun k => (h k).track k, fun k => (h k.1).pulls k⟩

/-- R100: the gate judges a held request. -/
theorem State.releaseGate_tracked (s : State) : Tracked s s.releaseGate := by
  unfold State.releaseGate
  split
  · exact .refl s
  · next q hq =>
    refine .of_sound fun hs => ?_
    have known : s.track.known = true := State.known_of_held hs (by rw [hq]; rfl)
    extract_lets r
    split
    · next hr =>
      have dropped : Steady s { s with track := { s.track with held := none, holdTimer := none } } :=
        ⟨rfl, fun h => by cases h⟩
      have hg := gateOpen_of_empty hr
      exact dropped.tracked.trans (State.forwardIndex_tracked _ q.kind known rfl ⟨hg.pull, hg.output⟩)
    · have kept : Steady s { s with track := { s.track with held := some ⟨q.kind, r⟩ } } :=
        ⟨rfl, fun _ => by rw [hq]; rfl⟩
      exact kept.tracked

theorem State.claimEnded_tracked (s : State) (h : Head) : Tracked s (s.claimEnded h) :=
  (s.updateHead_steady h _).tracked.trans (State.releaseGate_tracked _)

/-- R33: the close of a bond, whose claim may end. -/
theorem State.closeBond_tracked (s : State) (h : Head) (lift late link : Bool) :
    Tracked s (s.closeBond h lift late link) := by
  cases hb : (s.head h).bond with
  | none => rw [s.closeBond_none h lift late link hb]; exact .refl s
  | some b =>
    rw [s.closeBond_eq h b lift late link hb]
    have done := (s.closeDone_steady h b ((s.engine h).figures lift) late link).tracked
    exact .ite (done.trans (State.claimEnded_tracked _ h)) done

theorem State.rejectPending_steady (s : State) (f : Nat → Bool) : Steady s (s.rejectPending f) := by
  unfold State.rejectPending
  split
  · exact .refl s
  · next x hx =>
    exact (Steady.of_bond s (some { x with units := _ }) (by rw [hx]; rfl)).trans (State.releasePins_steady _ _)

end Sys2Proof.Machine
end

section
/-! SUPPORT. Pull testing keeps the invariants of strips and pulls (R119 to R122, R125, R128 to R130). -/

namespace Sys2Proof.Machine

/-! ## What pull testing changes of a lane -/

/-- Another pull at PULL, of the same strip, and another state of the pull controller. -/
def Lane.repull (v : Lane) (pull : Option (Nat × PullState)) (current : Option CurrentPull) (orders : Nat)
    (timer : Option Nat) : Lane :=
  { v with pull := pull, current := current, ordersQueued := orders, timer := timer }

/-- R113: pull testing moves no strip. -/
theorem Lane.Sound.repull {v : Lane} {b : Bool} (h : v.Sound b) {pull : Option (Nat × PullState)}
    (hp : pull.map Prod.fst = v.pull.map Prod.fst) (current : Option CurrentPull) (orders : Nat)
    (timer : Option Nat) : (v.repull pull current orders timer).Sound b := by
  have ids : (v.repull pull current orders timer).tags.map Prod.fst = v.tags.map Prod.fst := by
    have := congrArg Option.toList hp
    simp only [Option.toList_map] at this
    simp [Lane.tags, Lane.repull, this]
  have length : (v.repull pull current orders timer).tags.length = v.tags.length := by
    rw [← List.length_map (f := Prod.fst), ids, List.length_map]
  refine ⟨ids ▸ h.ids, h.unknown, h.held, fun q hq hk => ?_, fun hu => (h.conserved hu).trans ?_⟩
  · obtain ⟨e, i, o⟩ := h.flight q hq hk
    exact ⟨e, i, o⟩
  · rw [length]
    rfl

theorem Lane.repulled (v : Lane) (x : PullState) :
    (v.pull.map fun y => (y.1, x)).map Prod.fst = v.pull.map Prod.fst := by
  rw [Option.map_map]
  rfl

/-! ## Results are given -/

/-- From `s` to `t` results are given to tasks of the current pull, and strips and magazines stay. -/
structure Answers (s t : State) : Prop where
  lane : t.lane = { s.lane with current := t.puller.current }
  held : t.track.held.isSome = true → s.track.held.isSome = true

theorem Steady.answers {s t : State} (h : Steady s t) : Answers s t := by
  refine ⟨?_, h.held⟩
  rw [show t.puller.current = s.lane.current from congrArg Lane.current h.lane]
  exact h.lane

theorem Answers.refl (s : State) : Answers s s := (Steady.refl s).answers

theorem Answers.trans {s t u : State} (h : Answers s t) (k : Answers t u) : Answers s u :=
  ⟨by rw [k.lane, h.lane], h.held ∘ k.held⟩

theorem Answers.ite {c : Prop} [Decidable c] {s t u : State} (ht : Answers s t) (hu : Answers s u) :
    Answers s (if c then t else u) := by
  split
  · exact ht
  · exact hu

theorem Answers.sound {s t : State} (h : Answers s t) (k : TrackInv s) : TrackInv t := by
  rw [trackInv_iff] at k ⊢
  rw [h.lane]
  exact (k.mono h.held).repull rfl _ _ _

theorem Answers.beside {s t : State} (h : Answers s t) (k : s.lane.Beside) : t.lane.Beside := by
  rw [h.lane]
  exact ⟨k.entry, k.bond, k.exit⟩

/-- A pull controller that differs in its current pull, and in what the invariants do not read. -/
theorem Answers.of_puller (s : State) (p : Puller) (ho : p.ordersQueued = s.puller.ordersQueued)
    (ht : p.timer = s.puller.timer) : Answers s { s with puller := p } :=
  ⟨by simp only [State.lane, ho, ht], id⟩

theorem State.updatePullStrip_steady (s : State) (f : Strip → Strip) (hf : ∀ x, (f x).tag = x.tag) :
    Steady s (s.updatePullStrip f) :=
  .of_track s _ (by simp only [State.lane, map_tag_map _ f hf]) rfl

theorem Strip.countPull_tag (x : Strip) (v : Verdict) : (x.countPull v).tag = x.tag := by cases v <;> rfl

/-- R125: a pull record answers one task. -/
theorem State.writePull_answers (s : State) (k : Nat) (v : Verdict) (f : Option Nat) (m : Option PullMode) :
    Answers s (s.writePull k v f m) := by
  unfold State.writePull
  split
  · exact .refl s
  · split
    · exact .refl s
    · extract_lets h n r run a p q s1 s2 s3
      have counted : Answers s { s with puller := q } :=
        .of_puller s q (by simp only [q]; cases h <;> rfl) (by simp only [q]; cases h <;> rfl)
      have recorded : Steady { s with puller := q } s1 := .of_same rfl rfl rfl rfl
      have h1 : Answers s s1 := counted.trans recorded.answers
      have h2 : Answers s s2 := h1.trans (s1.updatePullStrip_steady _ fun x => x.countPull_tag v).answers
      have h3 : Answers s s3 := .ite (h2.trans (s2.raise_steady _ _).answers) h2
      exact h3.trans (s3.send_steady _ _).answers

/-- R125: the task that is answered. -/
theorem State.writePull_current (s : State) (k : Nat) (v : Verdict) (f : Option Nat) (m : Option PullMode)
    {c : CurrentPull} {y : Task} (hc : s.puller.current = some c) (hy : c.tasks[k]? = some y) :
    (s.writePull k v f m).puller.current =
      some { c with tasks := c.tasks.set k { y with result := some s.puller.nextPull } } := by
  unfold State.writePull
  split
  · next h0 => rw [hc] at h0; cases h0
  next d hd =>
  rw [hc] at hd
  cases hd
  split
  · next h0 => rw [hy] at h0; cases h0
  next z hz =>
  rw [hy] at hz
  cases hz
  extract_lets h n r run a p q s1 s2 s3
  have h3 : s3.puller = s2.puller := by
    simp only [s3]
    split
    · exact (s2.raise_frame _ _).puller_eq (by simp)
    · rfl
  have hq : q.current = p.current := by simp only [q]; cases h <;> rfl
  calc (s3.send .u _).puller.current = s2.puller.current := congrArg Puller.current h3
    _ = p.current := hq

theorem State.giveNoResults_answers (s : State) : Answers s s.giveNoResults := by
  unfold State.giveNoResults
  split
  · exact .refl s
  · next c _ =>
    have each (l : List Nat) (t : State) : Answers t (l.foldl (fun s k =>
        if (c.tasks[k]?).elim false (fun t => t.result.isNone) then s.writePull k .noResult none none
        else s) t) := by
      induction l generalizing t with
      | nil => exact .refl t
      | cons k l ih => exact Answers.trans (.ite (t.writePull_answers _ _ _ _) (.refl t)) (ih _)
    exact each _ s

theorem State.strayPull_steady (s : State) : Steady s s.strayPull := .of_same rfl rfl rfl rfl

/-! ## The end of a pull (R128) -/

/-- What the end of a pull makes of what the invariants read, before the gate judges. -/
def Lane.ended (v : Lane) : Lane := v.repull (v.pull.map fun y => (y.1, .complete)) none v.ordersQueued none

theorem State.endPull_eq (s : State) : ∃ u : State, s.endPull = u.releaseGate ∧ u.lane = s.lane.ended ∧
    u.track.held = s.track.held := by
  unfold State.endPull
  extract_lets timedOut a s1 s2 s3
  have h2 : s2.lane = s.lane.ended := by
    simp only [s2, s1, State.lane, State.updatePullStrip, Lane.ended, Lane.repull, Option.map_map]
    rfl
  refine ⟨s3, rfl, ?_⟩
  have gone : Frame leaveBlocks s2 (s2.conditionGone .pullTimeout .pullStation) := s2.conditionGone_frame _ _
  simp only [s3]
  split
  · exact ⟨h2, rfl⟩
  · refine ⟨(Steady.lane (State.conditionGone_steady _ _ _)).trans h2, ?_⟩
    obtain ⟨-, -, -, -, -, -, -, track, -⟩ := gone
    rw [track (by simp)]
    rfl

theorem Lane.Sound.ended {v : Lane} {b : Bool} (h : v.Sound b) : v.ended.Sound b := h.repull (v.repulled _) _ _ _

theorem Lane.Beside.ended {v : Lane} (h : v.Beside) : v.ended.Pulls := by
  have still : ∀ y ∈ v.ended.pull, y.2.still = true := by
    intro y hy
    obtain ⟨z, -, rfl⟩ := Option.map_eq_some_iff.mp
      (show v.pull.map (fun y => (y.1, PullState.complete)) = some y from hy)
    rfl
  exact ⟨⟨h.entry, h.bond, h.exit⟩, fun _ _ _ => still, fun _ => ⟨rfl, still⟩, nofun⟩

theorem State.endPull_track (s : State) (h : TrackInv s) : TrackInv s.endPull := by
  obtain ⟨u, hu, lane, held⟩ := s.endPull_eq
  rw [trackInv_iff] at h
  rw [hu]
  exact u.releaseGate_tracked.track (by rw [trackInv_iff, lane, held]; exact h.ended)

/-- R128: the end of a pull needs no more of the pull that ends. -/
theorem State.endPull_pulls (s : State) (h : TrackInv s) (hb : s.lane.Beside) : PullInv s.endPull := by
  obtain ⟨u, hu, lane, held⟩ := s.endPull_eq
  rw [trackInv_iff] at h
  rw [hu]
  refine u.releaseGate_tracked.pulls ?_
  rw [pullInv_iff, trackInv_iff, lane, held]
  exact ⟨h.ended, hb.ended⟩

theorem PullInv.beside {s : State} (h : PullInv s) : s.lane.Beside := ((pullInv_iff s).mp h).2.beside

/-- R129, R130: results are given, and the pull ends. -/
theorem Answers.ends {s t : State} (h : Answers s t) : Tracked s t.endPull :=
  ⟨fun k => t.endPull_track (h.sound k), fun k => t.endPull_pulls (h.sound k.1) (h.beside (PullInv.beside k))⟩

/-! ## Results and orders (R121, R122, R129) -/

/-- R122: a task awaits its result while not every task has one. -/
theorem CurrentPull.awaits_of_not_all {c : CurrentPull} (h : ¬(c.tasks.all fun t => t.result.isSome) = true) :
    c.tasks.any (fun y => y.result.isNone) = true := by
  simpa using h

/-- R122, R125: a result that leaves a task waiting. -/
theorem State.writePull_tracked (s : State) (k : Nat) (v : Verdict) (f : Option Nat) (m : Option PullMode)
    {c : CurrentPull} {y : Task} (hc : s.puller.current = some c) (hy : c.tasks[k]? = some y)
    (hw : ¬(s.writePull k v f m).puller.current.elim false (fun c => c.tasks.all fun t => t.result.isSome) = true) :
    Tracked s (s.writePull k v f m) := by
  have answers := s.writePull_answers k v f m
  rw [s.writePull_current k v f m hc hy] at hw
  refine .of_lane (fun h => ?_) fun _ h => ?_
  · rw [← trackInv_iff] at h ⊢
    exact answers.sound h
  · obtain ⟨strip, orders, -⟩ := h.stands c hc
    rw [answers.lane, s.writePull_current k v f m hc hy]
    refine ⟨⟨h.beside.entry, h.beside.bond, h.beside.exit⟩, h.flight, nofun, fun d hd => ?_⟩
    cases hd
    exact ⟨strip, by simpa using orders, CurrentPull.awaits_of_not_all hw⟩

theorem State.takeResult_tracked (s : State) (strip unit wire force : Nat) (mode : Option PullMode) :
    Tracked s (s.takeResult strip unit wire force mode) := by
  unfold State.takeResult
  split
  · next c m hc =>
    split
    · split
      · exact s.strayPull_steady.tracked
      · next k hk =>
        extract_lets f loop t
        have at_k : ∃ y, c.tasks[k]? = some y := by
          obtain ⟨hl, -⟩ := List.findIdx?_eq_some_iff_getElem.mp hk
          exact ⟨_, List.getElem?_eq_getElem hl⟩
        obtain ⟨y, hy⟩ := at_k
        split
        · exact (s.writePull_answers _ _ _ _).ends
        · next hw => exact s.writePull_tracked _ _ _ _ hc hy hw
    · exact s.strayPull_steady.tracked
  · exact s.strayPull_steady.tracked

theorem State.takePullAbort_tracked (s : State) (strip : Nat) : Tracked s (s.takePullAbort strip) := by
  unfold State.takePullAbort
  split
  · exact s.strayPull_steady.tracked
  · exact .ite s.giveNoResults_answers.ends s.strayPull_steady.tracked

/-- The pull state of the strip at PULL, where one of a pull stands. -/
theorem State.pullState_tag {s : State} {x : PullState} (h : s.pullState = x) (hx : x ≠ .none) :
    ∃ y, s.lane.pull = some y ∧ y.2 = x := by
  unfold State.pullState at h
  cases hp : s.track.pull with
  | none => rw [hp] at h; exact absurd h.symm hx
  | some z => rw [hp] at h; exact ⟨z.tag, by simp [State.lane, hp], h⟩

/-- R121: an order is queued for the current pull `c`. -/
theorem State.queueOrder_tracked (s : State) : Tracked s s.queueOrder := by
  unfold State.queueOrder
  split
  · exact .refl s
  · next c hc =>
    split
    · next hg =>
      extract_lets l first s1 a s2
      have length : s.puller.ordersQueued + l.length ≤ max s.puller.ordersQueued c.tasks.length := by
        simp only [l, Puller.nextTasks, List.length_map, List.length_take, List.length_drop]
        omega
      have lane : (if first then s2.updatePullStrip fun x => { x with pullState := .ordered } else s2).lane =
          s.lane.repull (if first then s.lane.pull.map fun y => (y.1, .ordered) else s.lane.pull) s.puller.current
            (s.puller.ordersQueued + l.length) (if first then some s.puller.timeout else s.puller.timer) := by
        cases hf : first
        · simp [State.lane, Lane.repull, a, s2, s1, hf]
        · simp [State.updatePullStrip, State.lane, Lane.repull, Option.map_map, Function.comp_def, Strip.tag,
            a, s2, s1, hf]
      have held : (if first then s2.updatePullStrip fun x => { x with pullState := .ordered } else s2).track.held =
          s.track.held := by cases first <;> rfl
      refine .of_lane (fun h => ?_) fun _ h => ?_
      · rw [lane, held]
        refine h.repull ?_ _ _ _
        split
        · exact s.lane.repulled _
        · rfl
      · rw [lane]
        obtain ⟨⟨y, hy, own, -, waits, runs⟩, orders, awaits⟩ := h.stands c hc
        have hs : y.2 = .waiting ∨ y.2 = .ordered := by
          rcases hg.1 with h0 | h0
          · obtain ⟨z, hz, hz2⟩ := State.pullState_tag h0 (by simp)
            rw [hy] at hz; cases hz; exact .inl hz2
          · obtain ⟨z, hz, hz2⟩ := State.pullState_tag h0 (by simp)
            rw [hy] at hz; cases hz; exact .inr hz2
        have moving : ∀ q ∈ s.lane.inFlight, q.kind ≠ .transfer := fun q hq hk => by
          have := h.flight q hq hk y hy
          rcases hs with h0 | h0 <;> rw [h0] at this <;> cases this
        have first_iff : first = true ↔ y.2 = .waiting := by
          have : s.pullState = y.2 := by
            obtain ⟨x, hx, rfl⟩ := Option.map_eq_some_iff.mp (show s.track.pull.map Strip.tag = some y from hy)
            simp [State.pullState, hx, Strip.tag]
          simp [first, this]
        refine ⟨⟨h.beside.entry, h.beside.bond, h.beside.exit⟩, fun q hq hk => absurd hk (moving q hq),
          fun h0 => (by rw [show s.puller.current = none from h0] at hc; cases hc), fun d hd => ?_⟩
        obtain rfl : c = d := Option.some.inj (hc.symm.trans hd)
        refine ⟨?_, ?_, awaits⟩
        · by_cases hf : first = true
          · exact ⟨(y.1, .ordered), by simp [Lane.repull, hf, hy], own, rfl, nofun,
              fun _ => by simp [Lane.repull, hf]⟩
          · have ho : y.2 = .ordered := hs.resolve_left (mt first_iff.mpr hf)
            refine ⟨y, by simp [Lane.repull, hf, hy], own, by rw [ho]; rfl,
              fun h0 => (by rw [ho] at h0; cases h0), fun h0 => ?_⟩
            simpa [Lane.repull, State.lane, hf] using runs h0
        · have : s.puller.ordersQueued ≤ c.tasks.length := orders
          have := length
          change s.puller.ordersQueued + l.length ≤ c.tasks.length
          omega
    · exact .refl s

/-! ## The start of a pull (R119) -/

/-- R119: the current pull that starts for the strip `x`. -/
def State.pullOf (s : State) (x : Strip) : CurrentPull :=
  let u := s.releasePins fun r => r.strip == x.id && !((x.units[r.unit]?).elim false fun y => y.state == .done)
  ⟨x.id, x.device, u.tasksOf x, (u.tables.plan x.device).limit, false⟩

theorem State.takePull_lane (s : State) (x : Strip) :
    (s.takePull x).lane = s.lane.repull s.lane.pull (some (s.pullOf x)) 0 s.puller.timer := rfl

theorem State.tasksOf_unanswered (s : State) (x : Strip) : ∀ y ∈ s.tasksOf x, y.result = none := by
  intro y hy
  obtain ⟨p, -, hp⟩ := List.mem_filterMap.mp hy
  split at hp
  · obtain ⟨q, -, rfl⟩ := Option.map_eq_some_iff.mp hp
    rfl
  · cases hp

/-- R119, R120: a pull with a task waits. -/
theorem State.openPull_waits (s : State) (c : CurrentPull) (hc : s.puller.current = some c) (ht : c.tasks ≠ []) :
    ∃ u : State, s.openPull = u ∧ u.lane = s.lane.repull (s.lane.pull.map fun y => (y.1, .waiting))
      s.puller.current s.puller.ordersQueued s.puller.timer ∧ u.track.held = s.track.held := by
  have some_task : ¬(s.puller.current.elim true fun c => c.tasks.isEmpty) = true := by simpa [hc] using ht
  refine ⟨_, if_neg some_task, ?_⟩
  have woken := State.pullWake_frame (s.updatePullStrip fun x => { x with pullState := .waiting })
  refine ⟨(State.pullWake_steady _).lane.trans ?_, ?_⟩
  · simp only [State.updatePullStrip, State.lane, Lane.repull, Option.map_map]
    rfl
  · obtain ⟨-, -, -, -, -, -, -, track, -⟩ := woken
    rw [track (by simp)]
    rfl

theorem State.openPull_ends (s : State) (c : CurrentPull) (hc : s.puller.current = some c) (ht : c.tasks = []) :
    s.openPull = s.endPull := if_pos (by simp [hc, ht])

theorem State.happens_steady (s : State) (body : State → State) : Steady (body s) (s.happens body) :=
  State.markChanges_steady _ s

/-- R119: the start of a pull, where none stands. -/
theorem State.startPull_tracked (s : State) : (TrackInv s → TrackInv s.startPull) ∧
    (PullInv s → s.puller.current = none → s.track.inFlight = none → PullInv s.startPull) := by
  unfold State.startPull
  split
  · exact ⟨id, fun h _ _ => h⟩
  · next x hx =>
    split
    · have taken : (s.happens fun s => s.takePull x).lane =
          s.lane.repull s.lane.pull (some (s.pullOf x)) 0 s.puller.timer :=
        (s.happens_steady _).lane.trans (s.takePull_lane x)
      have held : (s.happens fun s => s.takePull x).track.held = s.track.held := by simp [State.takePull]
      have current : (s.happens fun s => s.takePull x).puller.current = some (s.pullOf x) :=
        congrArg Lane.current taken
      generalize s.happens (fun s => s.takePull x) = t at taken held current
      have sound (h : TrackInv s) : TrackInv t := by
        rw [trackInv_iff] at h ⊢
        rw [taken, held]
        exact h.repull rfl _ _ _
      have marked := t.happens_steady State.openPull
      by_cases ht : (s.pullOf x).tasks = []
      · rw [t.openPull_ends _ current ht] at marked
        refine ⟨fun h => marked.tracked.track (t.endPull_track (sound h)),
          fun h _ _ => marked.tracked.pulls (t.endPull_pulls (sound h.1) ?_)⟩
        have beside := PullInv.beside h
        rw [taken]
        exact ⟨beside.entry, beside.bond, beside.exit⟩
      · obtain ⟨u, hu, lane, same⟩ := t.openPull_waits _ current ht
        rw [hu] at marked
        have usound (h : TrackInv s) : TrackInv u := by
          have h := sound h
          rw [trackInv_iff] at h ⊢
          rw [lane, same]
          exact h.repull (t.lane.repulled _) _ _ _
        refine ⟨fun h => marked.tracked.track (usound h), fun h free moves => marked.tracked.pulls ?_⟩
        obtain ⟨-, pulls⟩ := (pullInv_iff s).mp h
        refine (pullInv_iff u).mpr ⟨usound h.1, ?_⟩
        rw [lane, current, show t.puller.ordersQueued = 0 from congrArg Lane.ordersQueued taken,
          show t.puller.timer = s.puller.timer from congrArg Lane.timer taken, taken]
        refine ⟨⟨pulls.beside.entry, pulls.beside.bond, pulls.beside.exit⟩,
          fun q hq => ?_, nofun, fun c hc => ?_⟩
        · have hq : s.track.inFlight = some q := hq
          rw [moves] at hq; cases hq
        · cases hc
          refine ⟨⟨(x.id, .waiting), by simp [Lane.repull, State.lane, hx, Strip.tag], rfl, rfl,
            fun _ => ⟨rfl, (pulls.idle free).1⟩, nofun⟩, Nat.zero_le _, ?_⟩
          obtain ⟨y, l, hl⟩ := List.exists_cons_of_ne_nil ht
          have hy : y ∈ (s.pullOf x).tasks := by rw [hl]; exact List.mem_cons_self
          exact List.any_eq_true.mpr ⟨y, hy, by rw [State.tasksOf_unanswered _ x y hy]; rfl⟩
    · exact ⟨id, fun h _ _ => h⟩

end Sys2Proof.Machine
end

section
/-! SUPPORT. Index operations, jams and magazines: what each leaves of the track, and that the invariants of strips
and pulls are kept (R91 to R99, R103 to R109). -/

namespace Sys2Proof.Machine

/-! ## Requests that end (R105, R109) -/

/-- With no request in flight the invariant of the strips speaks of ids and counts alone. -/
theorem Lane.Sound.grounded {v : Lane} {b : Bool} (h : v.Sound b) :
    ({ v with inFlight := none } : Lane).Sound b :=
  ⟨h.ids, fun hk => ⟨rfl, (h.unknown hk).2⟩, fun _ => rfl, nofun, h.conserved⟩

theorem Lane.Sound.lost {v : Lane} {b : Bool} (h : v.Sound b) :
    ({ v with inFlight := none, known := false } : Lane).Sound false :=
  ⟨h.ids, fun _ => ⟨rfl, rfl⟩, nofun, nofun, h.conserved⟩

theorem Lane.Pulls.grounded {v : Lane} (h : v.Pulls) (known : Bool) :
    ({ v with inFlight := none, known := known } : Lane).Pulls := by
  refine ⟨⟨h.beside.entry, h.beside.bond, h.beside.exit⟩, nofun, h.idle, fun c hc => ?_⟩
  obtain ⟨strip, orders, awaits⟩ := h.stands c hc
  exact ⟨strip, orders, awaits⟩

/-- R102, R109: the track of a jam, before its alarms. -/
def State.jammed (s : State) : State :=
  ({ s with track := { s.track with inFlight := none, doneTimer := none, known := false } } : State).refuseHeld
    .unknown

theorem State.jam_eq (s : State) : s.jam = (s.jammed.raise .jam .track).raise .trackUnknown .track := rfl

theorem State.jammed_track (s : State) : s.jammed.track = { s.track with
    inFlight := none
    doneTimer := none
    known := false
    held := none
    holdTimer := if s.track.held.isSome then none else s.track.holdTimer } := by
  rw [State.jammed, State.refuseHeld_eq]
  rfl

theorem State.jam_tracked (s : State) : Tracked s s.jam := by
  have lane : s.jammed.lane = { s.lane with inFlight := none, known := false } := by
    simp only [State.jammed, State.refuseHeld_eq]
    rfl
  have ended : Tracked s s.jammed := by
    refine .of_lane (fun h => ?_) fun _ h => ?_
    · rw [lane, s.jammed_track]
      exact h.lost
    · rw [lane]
      exact h.grounded false
  exact ended.trans ((State.raise_steady _ _ _).trans (State.raise_steady _ _ _)).tracked

/-- R105: a STEP that is done. -/
theorem State.stepDone_tracked (s : State) : Tracked s s.stepDone := by
  have lane : s.stepDone.lane = { s.lane with inFlight := none } := by
    simp only [State.stepDone, State.lane, Option.map_map]
    rfl
  refine .of_lane (fun h => ?_) fun _ h => ?_
  · rw [lane]
    exact h.grounded
  · rw [lane]
    exact h.grounded s.lane.known

/-! ## Index requests (R96 to R99) -/

/-- R96: a request that passes finds the track KNOWN, with no request held or in flight. -/
theorem indexReason_none {s : State} (h : indexReason s = none) :
    s.mgmt.run = true ∧ s.track.known = true ∧ safeStopStands s.alarms.entries = false ∧
      (s.port .ix).state ≠ .down ∧ s.track.inFlight = none ∧ s.track.held = none := by
  unfold indexReason at h
  split at h
  · cases h
  next hr =>
  split at h
  · cases h
  next hk =>
  split at h
  · cases h
  next hs =>
  split at h
  · cases h
  next hp =>
  split at h
  · cases h
  next hb =>
  rw [not_or] at hb
  exact ⟨by simpa using hr, by simpa using hk, by simpa using hs, hp, by simpa using hb.1, by simpa using hb.2⟩

theorem State.rejectPending_track (s : State) (f : Nat → Bool) :
    ∃ x, (s.rejectPending f).track = { s.track with bond := x } := by
  unfold State.rejectPending
  split
  · exact ⟨s.track.bond, rfl⟩
  · exact ⟨_, rfl⟩

/-- R97, R98: a request behind the rejection of PENDING units. -/
theorem State.gateRejected_tracked (s : State) (f : Nat → Bool) (k : IndexKind) (known : s.track.known = true)
    (held : s.track.held = none) (free : s.track.inFlight = none) :
    Tracked s ((s.rejectPending f).gateIndex k) := by
  obtain ⟨x, hx⟩ := s.rejectPending_track f
  exact (s.rejectPending_steady f).tracked.trans
    (State.gateIndex_tracked _ k (by rw [hx]; exact known) (by rw [hx]; exact held) (by rw [hx]; exact free))

theorem State.stepChecks_tracked (s : State) (skip : Bool) (h : indexReason s = none) :
    Tracked s (s.stepChecks skip) := by
  obtain ⟨-, known, -, -, free, held⟩ := indexReason_none h
  unfold State.stepChecks
  split
  · exact (s.send_steady _ _).tracked
  · exact .ite (s.send_steady _ _).tracked (.ite (s.send_steady _ _).tracked
      (s.gateRejected_tracked _ _ known held free))

theorem State.transferChecks_tracked (s : State) (skip : Bool) (h : indexReason s = none) :
    Tracked s (s.transferChecks skip) := by
  obtain ⟨-, known, -, -, free, held⟩ := indexReason_none h
  exact .ite (s.send_steady _ _).tracked (s.gateRejected_tracked _ _ known held free)

/-! ## Magazines (R91, R93, R94) -/

/-- R91, R103: a MAG-IN frame marks the request in flight. -/
def FlightRequest.markIn (q : FlightRequest) : FlightRequest :=
  if q.kind = .transfer then { q with inChanged := true } else q

/-- R94, R103: a MAG-OUT frame marks the request in flight. -/
def FlightRequest.markOut (q : FlightRequest) : FlightRequest :=
  if q.kind = .transfer then { q with outChanged := true } else q

@[simp] theorem FlightRequest.markIn_kind (q : FlightRequest) : q.markIn.kind = q.kind := by
  unfold FlightRequest.markIn; split <;> rfl

@[simp] theorem FlightRequest.markOut_kind (q : FlightRequest) : q.markOut.kind = q.kind := by
  unfold FlightRequest.markOut; split <;> rfl

theorem FlightRequest.markIn_transfer {q : FlightRequest} (h : q.kind = .transfer) :
    q.markIn = { q with inChanged := true } := if_pos h

theorem FlightRequest.markOut_transfer {q : FlightRequest} (h : q.kind = .transfer) :
    q.markOut = { q with outChanged := true } := if_pos h

/-- The lane of another request in flight, of another magazine. -/
theorem Lane.Pulls.of_flight {v : Lane} (h : v.Pulls) (q : Option FlightRequest)
    (hq : ∀ r ∈ q, r.kind = .transfer → ∃ z ∈ v.inFlight, z.kind = .transfer) (i : MagInState × Nat)
    (o : MagOutState × Nat) : ({ v with inFlight := q, magIn := i, magOut := o } : Lane).Pulls := by
  refine ⟨⟨h.beside.entry, h.beside.bond, h.beside.exit⟩, fun r hr hk => ?_, h.idle, fun c hc => ?_⟩
  · obtain ⟨z, hz, hk⟩ := hq r hr hk
    exact h.flight z hz hk
  · obtain ⟨strip, orders, awaits⟩ := h.stands c hc
    exact ⟨strip, orders, awaits⟩

theorem Lane.Sound.of_flight {v : Lane} {b : Bool} (h : v.Sound b) (f : FlightRequest → FlightRequest)
    (i : MagInState × Nat) (o : MagOutState × Nat)
    (hf : ∀ q, (f q).kind = q.kind)
    (hq : ∀ q, q.kind = .transfer → v.Agrees q →
      ({ v with inFlight := v.inFlight.map f, magIn := i, magOut := o } : Lane).Agrees (f q)) :
    ({ v with inFlight := v.inFlight.map f, magIn := i, magOut := o } : Lane).Sound b := by
  refine ⟨h.ids, fun hk => ?_, fun hb => ?_, fun r hr hk => ?_, h.conserved⟩
  · obtain ⟨h1, h2⟩ := h.unknown hk
    exact ⟨by rw [h1]; rfl, h2⟩
  · rw [h.held hb]; rfl
  · obtain ⟨q, hqv, rfl⟩ := Option.map_eq_some_iff.mp (show v.inFlight.map f = some r from hr)
    rw [hf] at hk
    exact hq q hk (h.flight q hqv hk)

/-- R91: another input magazine, by a MAG-IN frame. -/
theorem State.setMagIn_tracked (s : State) (m : MagIn) (n : Nat) :
    Tracked s { s with track := { s.track.setMagIn m with loadCount := n } } := by
  have lane : ({ s with track := { s.track.setMagIn m with loadCount := n } } : State).lane =
      { s.lane with
        inFlight := s.lane.inFlight.map FlightRequest.markIn
        magIn := (m.state, m.cursor)
        magOut := s.lane.magOut } := rfl
  refine .of_lane (fun h => ?_) fun _ h => ?_
  · rw [lane]
    refine Lane.Sound.of_flight h _ _ _ FlightRequest.markIn_kind fun q hk a => ?_
    rw [FlightRequest.markIn_transfer hk]
    exact ⟨a.exit, nofun, a.magOut⟩
  · rw [lane]
    refine h.of_flight _ (fun r hr hk => ?_) _ _
    obtain ⟨q, hq, rfl⟩ := Option.map_eq_some_iff.mp (show s.lane.inFlight.map _ = some r from hr)
    exact ⟨q, hq, by simpa using hk⟩

/-- R94: another output magazine, by a MAG-OUT frame. -/
theorem State.setMagOut_tracked (s : State) (m : MagOut) : Tracked s { s with track := s.track.setMagOut m } := by
  have lane : ({ s with track := s.track.setMagOut m } : State).lane =
      { s.lane with
        inFlight := s.lane.inFlight.map FlightRequest.markOut
        magIn := s.lane.magIn
        magOut := (m.state, m.cursor) } := rfl
  refine .of_lane (fun h => ?_) fun _ h => ?_
  · rw [lane]
    refine Lane.Sound.of_flight h _ _ _ FlightRequest.markOut_kind fun q hk a => ?_
    rw [FlightRequest.markOut_transfer hk]
    exact ⟨a.exit, a.magIn, nofun⟩
  · rw [lane]
    refine h.of_flight _ (fun r hr hk => ?_) _ _
    obtain ⟨q, hq, rfl⟩ := Option.map_eq_some_iff.mp (show s.lane.inFlight.map _ = some r from hr)
    exact ⟨q, hq, by simpa using hk⟩

theorem State.magInGone_tracked (s : State) : Tracked s s.magInGone :=
  s.setMagIn_tracked s.track.magIn.remove s.track.loadCount

theorem State.magOutGone_tracked (s : State) : Tracked s s.magOutGone :=
  (s.setMagOut_tracked s.track.magOut.remove).trans (State.releaseGate_tracked _)

/-- R93: a stop on the next slot, which no request in flight has been ordered. -/
theorem State.exhaust_tracked (s : State) (m : MagIn)
    (hq : ∀ q ∈ s.track.inFlight, q.inSlot ≠ some s.track.magIn.cursor) :
    Tracked s { s with track := { s.track with magIn := m } } := by
  refine .of_lane (fun h => ⟨h.ids, h.unknown, h.held, fun q hf hk => ?_, h.conserved⟩) fun _ h => ?_
  · obtain ⟨e, i, o⟩ := h.flight q hf hk
    refine ⟨e, fun k hs hu => ?_, o⟩
    have : s.track.magIn.cursor = k := congrArg Prod.snd (i k hs hu)
    exact absurd (this ▸ hs) (hq q hf)
  · exact h.of_flight s.lane.inFlight (fun r hr hk => ⟨r, hr, hk⟩) (m.state, m.cursor) s.lane.magOut

theorem State.setStop_tracked (s : State) (k : Nat) (set : Bool) : Tracked s (s.setStop k set).1 := by
  have slots (m : MagIn) (h : (m.state, m.cursor) = (s.track.magIn.state, s.track.magIn.cursor)) :
      Tracked s { s with track := { s.track with magIn := m } } :=
    (Steady.of_track s { s.track with magIn := m } (by simp only [State.lane, h]) rfl).tracked
  unfold State.setStop
  extract_lets m
  split
  · exact .refl s
  · split
    · exact .refl s
    next hb =>
    split
    · split
      · next hk =>
        have exhausted (m : MagIn) := s.exhaust_tracked m fun q hq hs => hb (by
          rw [Option.mem_def.mp hq, hk.1]
          simpa using hs)
        exact (exhausted _).trans (State.raise_steady _ _ _).tracked
      · exact slots _ rfl
    · exact .refl s
    · exact .refl s
    · split
      · exact slots _ rfl
      · exact .refl s
    · exact .refl s
    · exact .refl s

/-! ## A TRANSFER that agrees (R107, R108) -/

/-- R106: what an INDEX-DONE TRANSFER that agrees says. -/
structure TransferAgrees (t : Track) (q : FlightRequest) (i o : Option Nat) : Prop where
  kind : q.kind = .transfer
  input : ∀ k ∈ i, q.inSlot = some k ∧ q.inChanged = false ∧ ∀ x ∈ t.strips, x.id ≠ t.stripId k
  output : o.isSome = q.outSlot.isSome

theorem transferAgrees_of {t : Track} {q : FlightRequest} {i o : Option Nat}
    (h : transferMismatch t q i o = false) : TransferAgrees t q i o := by
  simp only [transferMismatch, Bool.or_eq_false_iff] at h
  obtain ⟨⟨⟨⟨⟨hk, hi⟩, hc⟩, ho⟩, -⟩, hn⟩ := h
  refine ⟨by simpa using hk, fun k hik => ?_, ?_⟩
  · cases hik
    cases hs : q.inSlot with
    | none => rw [hs] at hi; cases hi
    | some n =>
      rw [hs] at hi
      exact ⟨by simpa using hi, by simpa using hc, by simpa using hn⟩
  · cases hq : q.outSlot <;> cases o <;> simp [hq] at ho ⊢

/-- R102: a raise with no held request leaves the track. -/
theorem State.raise_track_of_unheld (s : State) (c : AlarmClass) (o : AlarmObject) (h : s.track.held = none) :
    (s.raise c o).track = s.track := by
  rw [State.raise_eq]
  dsimp only
  split
  · exact Track.dropHeld_none _ h
  · rfl

theorem State.raiseIf_track_of_unheld (s : State) (p : Prop) [Decidable p] (c : AlarmClass) (o : AlarmObject)
    (h : s.track.held = none) : (if p then s.raise c o else s).track = s.track := by
  split
  · exact s.raise_track_of_unheld c o h
  · rfl

/-- R94, R107 step 1: the track once the strip `x`, at EXIT, has been delivered into slot `r`. -/
def Track.delivers (t : Track) (r : Nat) (x : Strip) : Track := { t with
  magOut := t.magOut.fill r
  delivered := satAdd maxU32 t.delivered 1
  lastDelivered := some ⟨x.id, x.doneCount, x.rejectCount⟩
  exit := none }

theorem State.deliver_none (s : State) (r : Nat) (hx : s.track.exit = none) : s.deliver r = s := by
  unfold State.deliver
  rw [hx]

theorem State.deliver_some (s : State) (r : Nat) (x : Strip) (hx : s.track.exit = some x) : s.deliver r =
    let u : State := { s with track := { s.track with magOut := s.track.magOut.fill r } }
    let v := if (s.track.magOut.fill r).state = .full then u.raise .magOutFull .track else u
    ({ v with track := { v.track with
      delivered := satAdd maxU32 v.track.delivered 1
      lastDelivered := some ⟨x.id, x.doneCount, x.rejectCount⟩
      exit := none } } : State).send .u (x.report (some r)) := by
  unfold State.deliver
  rw [hx]

theorem State.deliver_track (s : State) (r : Nat) (h : s.track.held = none) :
    (s.deliver r).track = s.track.exit.elim s.track (s.track.delivers r) := by
  cases hx : s.track.exit with
  | none => rw [s.deliver_none r hx]; rfl
  | some x =>
    rw [s.deliver_some r x hx]
    extract_lets a u v b
    have same : v.track = u.track := u.raiseIf_track_of_unheld _ _ _ h
    rw [State.send_track]
    simp only [b, same]
    rfl

/-- R92, R107 step 5, R108: the track once slot `k` of the input magazine has given what was reported. -/
def Track.draws (t : Track) (T : Tables) (i : Option Nat) (k : Nat) : Track :=
  let u := { t with magIn := t.magIn.passSlot k (if i = none then .empty else .taken) }
  let n := satAdd maxU32 t.stripCounter 1
  let interval := (T.plan t.inputType).interval
  if i = none then u
  else { u with
    entry := some (T.newStrip (t.stripId k) t.inputType 0 (0 < interval && n % interval == 0))
    taken := satAdd maxU32 t.taken 1
    stripCounter := n }

/-- R107 step 5: the slot that a request draws from. -/
def FlightRequest.drawn (q : FlightRequest) : Option Nat := if q.inChanged then none else q.inSlot

theorem State.drawStrip_none (s : State) (q : FlightRequest) (i : Option Nat) (hk : q.drawn = none) :
    s.drawStrip q i = s := by
  unfold State.drawStrip
  split
  · rfl
  · next hc =>
    rw [FlightRequest.drawn, if_neg hc] at hk
    rw [hk]

theorem State.drawStrip_some (s : State) (q : FlightRequest) (i : Option Nat) (k : Nat) (hk : q.drawn = some k) :
    s.drawStrip q i =
      let m := s.track.magIn.passSlot k (if i = none then .empty else .taken)
      let u : State := { s with track := { s.track with magIn := m } }
      let v := if i = none then u else u.takeStrip k
      if m.state = .exhausted then v.raise .magInEmpty .track else v := by
  unfold State.drawStrip
  split
  · next hc => rw [FlightRequest.drawn, if_pos hc] at hk; cases hk
  · next hc =>
    rw [FlightRequest.drawn, if_neg hc] at hk
    rw [hk]

theorem State.drawStrip_track (s : State) (q : FlightRequest) (i : Option Nat) (h : s.track.held = none) :
    (s.drawStrip q i).track = q.drawn.elim s.track (s.track.draws s.tables i) := by
  cases hk : q.drawn with
  | none => rw [s.drawStrip_none q i hk]; rfl
  | some k =>
    rw [s.drawStrip_some q i k hk]
    extract_lets m a u v
    have taken : v.track = s.track.draws s.tables i k := by
      cases i with
      | none => rfl
      | some r => rfl
    have held : v.track.held = none := by
      simp only [v]
      split <;> exact h
    rw [v.raiseIf_track_of_unheld _ _ _ held, taken]
    rfl

/-- R107: the moves of a TRANSFER that agrees, before a pull starts. -/
def State.transferMoved (s : State) (c : Instr) (q : FlightRequest) (i o : Option Nat) : State :=
  let u : State := { s with track := { s.track with inFlight := none, doneTimer := none } }
  ((o.elim u fun r => u.happens fun s => s.deliver r).moveStrips.happens fun s => s.drawStrip q i).forward c

theorem State.transferDone_eq (s : State) (c : Instr) (q : FlightRequest) (i o : Option Nat) :
    s.transferDone c q i o = (s.transferMoved c q i o).startPull := rfl

/-- R107 steps 2 to 4: every strip moves one position. -/
def Track.moves (t : Track) : Track :=
  { t with
    exit := t.pull
    pull := t.bond
    bond := t.entry.map fun x => { x with window := 0 }
    entry := none }

/-- R107 step 1: the track once a strip reported as delivered has left EXIT. -/
def Track.reported (t : Track) (o : Option Nat) : Track :=
  o.elim t fun r => t.exit.elim t (t.delivers r)

/-- R107: the track behind the moves. -/
def Track.transferred (t : Track) (T : Tables) (q : FlightRequest) (i o : Option Nat) : Track :=
  let u := (({ t with inFlight := none, doneTimer := none } : Track).reported o).moves
  q.drawn.elim u (u.draws T i)

theorem State.forward_track (s : State) (c : Instr) : (s.forward c).track = s.track := by
  obtain ⟨-, -, -, -, -, -, -, track, -⟩ := s.forward_frame c
  exact track (by simp)

theorem Track.reported_held (t : Track) (o : Option Nat) : (t.reported o).held = t.held := by
  unfold Track.reported
  cases o with
  | none => rfl
  | some r => cases t.exit <;> rfl

theorem Track.reported_inFlight (t : Track) (o : Option Nat) : (t.reported o).inFlight = t.inFlight := by
  unfold Track.reported
  cases o with
  | none => rfl
  | some r => cases t.exit <;> rfl

/-- R107, R108: what the moves leave of the requests: the one in flight has ended. -/
theorem Track.transferred_requests (t : Track) (T : Tables) (q : FlightRequest) (i o : Option Nat) :
    (t.transferred T q i o).held = t.held ∧ (t.transferred T q i o).inFlight = none := by
  have draws (u : Track) (k : Nat) : (u.draws T i k).held = u.held ∧ (u.draws T i k).inFlight = u.inFlight := by
    unfold Track.draws
    dsimp only
    split <;> exact ⟨rfl, rfl⟩
  unfold Track.transferred
  extract_lets u
  have held : u.held = t.held := Track.reported_held _ o
  have ended : u.inFlight = none := Track.reported_inFlight _ o
  cases q.drawn with
  | none => exact ⟨held, ended⟩
  | some k => exact ⟨(draws u k).1.trans held, (draws u k).2.trans ended⟩

theorem State.deliver_frame (s : State) (r : Nat) : Frame raiseBlocks s (s.deliver r) := by
  unfold State.deliver
  split
  · exact .refl _ s
  · extract_lets m a s1 s2 b s3
    have h1 : Frame raiseBlocks s s1 := by simp [Frame, s1]
    have h2 : Frame raiseBlocks s s2 := .ite (h1.trans (s1.raise_frame _ _)) h1
    have h3 : Frame raiseBlocks s s3 := h2.trans (by simp [Frame, s3])
    exact h3.comp (s3.send_frame _ _) (by simp) (by simp)

theorem State.moveStrips_frame (s : State) : Frame [.track, .store] s s.moveStrips := by
  have exits (t : State) : Frame [.track, .store] t t.pullToExit := by
    unfold State.pullToExit
    cases t.track.pull with
    | none => simp [Frame]
    | some x => exact Frame.trans (by simp [Frame]) ((State.releasePins_frame _ _).mono (by simp))
  have pulls (t : State) : Frame [.track, .store] t t.bondToPull := by simp [Frame, State.bondToPull]
  have bonds (t : State) : Frame [.track, .store] t t.entryToBond := by simp [Frame, State.entryToBond]
  exact ((s.happens_frame _ (exits s)).trans (State.happens_frame _ _ (pulls _))).trans
    (State.happens_frame _ _ (bonds _))

theorem State.drawStrip_frame (s : State) (q : FlightRequest) (i : Option Nat) :
    Frame raiseBlocks s (s.drawStrip q i) := by
  unfold State.drawStrip
  split
  · exact .refl _ s
  · split
    · exact .refl _ s
    · next k _ =>
      extract_lets m a t u
      have passed : Frame raiseBlocks s t := by simp [Frame, t]
      have taken : Frame raiseBlocks s u :=
        .ite passed (passed.trans (by simp [Frame, State.takeStrip]))
      exact .ite (taken.trans (u.raise_frame _ _)) taken

theorem State.transferMoved_frame (s : State) (c : Instr) (q : FlightRequest) (i o : Option Nat) :
    Frame (.store :: raiseBlocks) s (s.transferMoved c q i o) := by
  have up {t u : State} (k : Frame raiseBlocks t u) : Frame (.store :: raiseBlocks) t u := k.mono (by simp)
  unfold State.transferMoved
  extract_lets a u
  have ended : Frame (.store :: raiseBlocks) s u := by simp [Frame, u]
  have delivered : Frame (.store :: raiseBlocks) s (o.elim u fun r => u.happens fun s => s.deliver r) := by
    cases o with
    | none => exact ended
    | some r => exact ended.trans (u.happens_frame (fun s => s.deliver r) (up (u.deliver_frame r)))
  exact ((delivered.trans ((State.moveStrips_frame _).mono (by simp))).trans
    (State.happens_frame _ _ (up (State.drawStrip_frame _ q i)))).trans ((State.forward_frame _ c).mono (by simp))

theorem State.transferMoved_track (s : State) (c : Instr) (q : FlightRequest) (i o : Option Nat)
    (h : s.track.held = none) :
    (s.transferMoved c q i o).track = s.track.transferred s.tables q i o := by
  unfold State.transferMoved Track.transferred
  extract_lets a u b
  have delivered : (o.elim u fun r => u.happens fun s => s.deliver r).track = u.track.reported o := by
    cases o with
    | none => rfl
    | some r => simpa [Track.reported] using u.deliver_track r h
  have frame : Frame raiseBlocks u (o.elim u fun r => u.happens fun s => s.deliver r) := by
    cases o with
    | none => exact .refl _ u
    | some r => exact u.happens_frame (fun s => s.deliver r) (u.deliver_frame r)
  generalize (o.elim u fun r => u.happens fun s => s.deliver r) = v at delivered frame
  have held : v.track.held = none := by rw [delivered, Track.reported_held]; exact h
  have tables : v.moveStrips.tables = s.tables := by
    obtain ⟨-, t1, -⟩ := v.moveStrips_frame
    obtain ⟨-, t2, -⟩ := frame
    exact (t1 (by simp)).trans (t2 (by simp))
  rw [State.forward_track, State.happens_track, State.drawStrip_track _ _ _ (by simpa using held), tables,
    State.moveStrips_track, delivered]
  rfl

/-- R107: strips that move one position, where the one at EXIT is delivered and `x` is new at ENTRY. -/
def Lane.advance (v : Lane) (x : Option (Nat × PullState)) (m : MagInState × Nat) (n : MagOutState × Nat) : Lane :=
  { v with
    entry := x
    bond := v.entry
    pull := v.bond
    exit := v.pull
    inFlight := none
    magIn := m
    magOut := n
    taken := x.elim v.taken fun _ => satAdd maxU32 v.taken 1
    delivered := v.exit.elim v.delivered fun _ => satAdd maxU32 v.delivered 1 }

/-- R113: a count that has not reached its greatest value has counted each strip. -/
theorem counted_of_lt {α : Type} {n : Nat} {x : Option α} (h : x.elim n (fun _ => satAdd maxU32 n 1) < maxU32) :
    n < maxU32 ∧ x.elim n (fun _ => satAdd maxU32 n 1) = n + x.toList.length := by
  cases x with
  | none => exact ⟨h, rfl⟩
  | some y =>
    simp only [Option.elim, satAdd, Option.toList_some, List.length_singleton] at h ⊢
    omega

/-- R88, R107, R113: the invariant of the strips, kept by strips that move. -/
theorem Lane.Sound.advance {v : Lane} {b : Bool} (h : v.Sound b) {x : Option (Nat × PullState)}
    (fresh : ∀ y ∈ x, y.1 ∉ v.tags.map Prod.fst) (m : MagInState × Nat) (n : MagOutState × Nat) :
    (v.advance x m n).Sound b := by
  have tags : (v.advance x m n).tags = x.toList ++ (v.entry.toList ++ v.bond.toList ++ v.pull.toList) := by
    simp [Lane.tags, Lane.advance]
  have old : v.tags = (v.entry.toList ++ v.bond.toList ++ v.pull.toList) ++ v.exit.toList := rfl
  refine ⟨?_, fun hk => ⟨rfl, (h.unknown hk).2⟩, fun _ => rfl, nofun, fun ⟨t, i, d, p⟩ => ?_⟩
  · have ids := h.ids
    rw [old, List.map_append] at ids
    rw [tags, List.map_append]
    refine List.nodup_append'.mpr ⟨by cases x <;> simp, (List.nodup_append'.mp ids).1, ?_⟩
    intro a ha hb
    obtain ⟨y, hy, rfl⟩ := List.mem_map.mp ha
    refine fresh y (by simpa using hy) ?_
    rw [old, List.map_append]
    exact List.mem_append_left _ hb
  · obtain ⟨ht, taken⟩ := counted_of_lt (x := x) t
    obtain ⟨hd, delivered⟩ := counted_of_lt (x := v.exit) d
    have all := h.conserved ⟨ht, i, hd, p⟩
    rw [old, List.length_append] at all
    rw [tags, List.length_append]
    change _ + v.introduced = _ + v.exit.elim v.delivered _ + v.dropped
    change x.elim v.taken _ + v.introduced = _
    omega

/-- R107, R119: with no pull at PULL none stands behind the moves. -/
theorem Lane.Pulls.advance {v : Lane} (h : v.Pulls) {x : Option (Nat × PullState)}
    (free : ∀ y ∈ v.pull, y.2.still = true) (hx : ∀ y ∈ x, y.2.still = true) (m : MagInState × Nat)
    (n : MagOutState × Nat) : (v.advance x m n).Pulls := by
  refine ⟨⟨hx, h.beside.entry, free⟩, nofun, fun hc => ⟨(h.idle hc).1, h.beside.bond⟩, fun c hc => ?_⟩
  rw [show (v.advance x m n).current = none from h.current_none free] at hc
  cases hc

/-- R107: the lane behind a TRANSFER that agrees. -/
theorem TransferAgrees.lane {s t : State} {q : FlightRequest} {i o : Option Nat}
    (a : TransferAgrees s.track q i o) (exits : o.isSome = s.track.exit.isSome)
    (ht : t.track = s.track.transferred s.tables q i o) (hp : t.puller = s.puller) :
    t.lane = s.lane.advance (i.map fun k => (s.track.stripId k, .none)) (t.track.magIn.state, t.track.magIn.cursor)
      (t.track.magOut.state, t.track.magOut.cursor) := by
  have tag (x : Option Strip) : (x.map fun y => { y with window := 0 }).map Strip.tag = x.map Strip.tag := by
    cases x <;> rfl
  have drawn : ∀ k ∈ i, q.drawn = some k := by
    intro k hk
    obtain ⟨hs, hc, -⟩ := a.input k hk
    simp [FlightRequest.drawn, hc, hs]
  simp only [State.lane, Lane.advance, ht, hp]
  cases o with
  | none =>
    have hx : s.track.exit = none := by simpa using exits.symm
    cases i with
    | none => cases hd : q.drawn <;>
        simp [Track.transferred, hd, Track.reported, Track.moves, Track.draws, hx, tag]
    | some k =>
      simp [Track.transferred, drawn k rfl, Track.reported, Track.moves, Track.draws, hx, tag]
      rfl
  | some r =>
    obtain ⟨x, hx⟩ := Option.isSome_iff_exists.mp exits.symm
    cases i with
    | none => cases hd : q.drawn <;>
        simp [Track.transferred, hd, Track.reported, Track.moves, Track.draws, hx, tag, Track.delivers]
    | some k =>
      simp [Track.transferred, drawn k rfl, Track.reported, Track.moves, Track.draws, hx, tag, Track.delivers]
      rfl

/-- R102: no request is held where one is in flight. -/
theorem TrackInv.unheld {s : State} (h : TrackInv s) {q : FlightRequest} (hq : s.track.inFlight = some q) :
    s.track.held = none := by
  obtain ⟨-, -, held, -⟩ := h
  cases hd : s.track.held with
  | none => rfl
  | some r => rw [held (by rw [hd]; rfl)] at hq; cases hq

/-- R98, R99: no pull stands where a TRANSFER is in flight. -/
theorem Lane.Pulls.free {v : Lane} (h : v.Pulls) {q : FlightRequest} (hq : v.inFlight = some q)
    (hk : q.kind = .transfer) : v.current = none := h.current_none (h.flight q hq hk)

/-- R107: an operation that moves the strips as an INDEX-DONE TRANSFER that agrees. -/
theorem TransferAgrees.tracked {s t : State} {q : FlightRequest} {i o : Option Nat}
    (a : TransferAgrees s.track q i o) (hq : s.track.inFlight = some q) (hp : t.puller = s.puller)
    (ht : s.track.held = none → t.track = s.track.transferred s.tables q i o) : Tracked s t := by
  have lane (h : s.lane.Sound s.track.held.isSome) := a.lane (a.output.trans (h.flight q hq a.kind).exit |>.trans
    (by simp [State.lane])) (ht (TrackInv.unheld ((trackInv_iff s).mpr h) hq)) hp
  refine .of_lane (fun h => ?_) fun h p => ?_
  · have unheld := TrackInv.unheld ((trackInv_iff s).mpr h) hq
    have fresh : ∀ y ∈ i.map fun k => (s.track.stripId k, PullState.none), y.1 ∉ s.lane.tags.map Prod.fst := by
      intro y hy
      obtain ⟨k, hk, rfl⟩ := Option.map_eq_some_iff.mp hy
      rw [s.lane_ids]
      intro hm
      obtain ⟨x, hx, hid⟩ := List.mem_map.mp hm
      exact (a.input k hk).2.2 x hx hid
    rw [lane h]
    refine (h.advance fresh _ _).mono fun hh => ?_
    rwa [ht unheld, (Track.transferred_requests _ _ _ _ _).1] at hh
  · rw [lane h]
    refine p.advance (p.flight q hq a.kind) (fun y hy => ?_) _ _
    obtain ⟨k, -, rfl⟩ := Option.map_eq_some_iff.mp hy
    rfl

theorem State.transferMoved_tracked (s : State) (c : Instr) {q : FlightRequest} {i o : Option Nat}
    (hq : s.track.inFlight = some q) (a : TransferAgrees s.track q i o) : Tracked s (s.transferMoved c q i o) :=
  a.tracked hq ((s.transferMoved_frame c q i o).puller_eq (by simp)) (s.transferMoved_track c q i o)

/-- R107, R119: no pull is current and no request in flight where a pull is to start. -/
theorem State.transferDone_tracked (s : State) (c : Instr) {q : FlightRequest} {i o : Option Nat}
    (hq : s.track.inFlight = some q) (a : TransferAgrees s.track q i o) : Tracked s (s.transferDone c q i o) := by
  have moved := s.transferMoved_tracked c hq a
  obtain ⟨track, pulls⟩ := (s.transferMoved c q i o).startPull_tracked
  rw [s.transferDone_eq]
  refine ⟨fun h => track (moved.track h), fun h => pulls (moved.pulls h) ?_ ?_⟩
  · rw [(s.transferMoved_frame c q i o).puller_eq (by simp)]
    exact Lane.Pulls.free ((pullInv_iff s).mp h).2 hq a.kind
  · rw [s.transferMoved_track c q i o (TrackInv.unheld ((pullInv_iff s).mp h).1 hq)]
    exact (Track.transferred_requests _ _ _ _ _).2

end Sys2Proof.Machine
end

section
/-! SUPPORT. What an accepted TRACK-SET makes of the strips, of their pins and of the pull controller, step by step
(R78, R112, R132). -/

namespace Sys2Proof.Machine

/-! ## Positions (R86) -/

/-- The strip at position `k`, from 0 ENTRY to 3 EXIT. -/
def Track.place (t : Track) : Nat → Option Strip
  | 0 => t.entry
  | 1 => t.bond
  | 2 => t.pull
  | _ => t.exit

/-- The track with other strips at its positions. -/
def Track.replaced (t : Track) (f : Nat → Option Strip) : Track :=
  { t with entry := f 0, bond := f 1, pull := f 2, exit := f 3 }

theorem Track.replaced_place (t : Track) : t.replaced t.place = t := rfl

theorem Track.place_replaced (t : Track) (f : Nat → Option Strip) {k : Nat} (hk : k < 4) :
    (t.replaced f).place k = f k := by
  match k, hk with
  | 0, _ => rfl
  | 1, _ => rfl
  | 2, _ => rfl
  | 3, _ => rfl

theorem Track.replaced_congr (t : Track) {f g : Nat → Option Strip} (h : ∀ k < 4, f k = g k) :
    t.replaced f = t.replaced g := by
  unfold Track.replaced
  rw [h 0 (by omega), h 1 (by omega), h 2 (by omega), h 3 (by omega)]

theorem Track.setPosition_replaced (t : Track) (f : Nat → Option Strip) {k : Nat} (x : Option Strip) (hk : k < 4) :
    (t.replaced f).setPosition k x = t.replaced fun j => if j = k then x else f j := by
  match k, hk with
  | 0, _ => rfl
  | 1, _ => rfl
  | 2, _ => rfl
  | 3, _ => rfl

theorem Track.strips_eq (t : Track) : t.strips = (List.range 4).filterMap t.place := by
  have split (x : Option Strip) (l : List Strip) : x.toList ++ l = (match x with
      | none => l
      | some y => y :: l) := by cases x <;> rfl
  simp only [Track.strips, show List.range 4 = [0, 1, 2, 3] from rfl, List.filterMap_cons, List.filterMap_nil,
    Track.place, List.append_assoc]
  cases t.entry <;> cases t.bond <;> cases t.pull <;> cases t.exit <;> rfl

theorem Track.mem_strips {t : Track} {x : Strip} : x ∈ t.strips ↔ ∃ k < 4, t.place k = some x := by
  simp [Track.strips_eq, List.mem_filterMap]

theorem Track.mem_placed {t : Track} {x : Strip} {k : Nat} (h : (x, k) ∈ t.placed) :
    t.place k = some x ∧ k < 4 := by
  simp only [Track.placed, List.mem_filterMap] at h
  obtain ⟨⟨z, j⟩, hz, hy⟩ := h
  obtain ⟨w, hw, he⟩ := Option.map_eq_some_iff.mp hy
  simp only at hw he
  obtain ⟨rfl, rfl⟩ := Prod.mk.inj he
  have at_j := (zipIdx_mem _ _ _).mp hz
  rw [hw] at at_j
  have hj : j < 4 := (List.getElem?_eq_some_iff.mp at_j).1
  refine ⟨?_, hj⟩
  match j, hj with
  | 0, _ => simpa [Track.positions, Track.place] using at_j
  | 1, _ => simpa [Track.positions, Track.place] using at_j
  | 2, _ => simpa [Track.positions, Track.place] using at_j
  | 3, _ => simpa [Track.positions, Track.place] using at_j

theorem Track.find_some {t : Track} {i k : Nat} {x : Strip} (h : t.find i = some (x, k)) :
    t.place k = some x ∧ x.id = i ∧ k < 4 := by
  obtain ⟨place, hk⟩ := Track.mem_placed (List.mem_of_find?_eq_some h)
  exact ⟨place, by simpa using List.find?_some h, hk⟩

theorem Track.strips_placed (t : Track) : t.strips = t.placed.map Prod.fst := by
  simp only [Track.strips, Track.placed, Track.positions]
  cases t.entry <;> cases t.bond <;> cases t.pull <;> cases t.exit <;> rfl

theorem Track.find_isSome (t : Track) (i : Nat) : (t.find i).isSome = t.strips.any fun x => x.id == i := by
  rw [Bool.eq_iff_iff, t.strips_placed, List.any_map, Track.find, List.find?_isSome, List.any_eq_true]
  rfl

/-- R88: strips of one id are at one position. -/
theorem Track.place_inj {t : Track} (h : (t.strips.map fun x => x.id).Nodup) {j k : Nat} {x y : Strip}
    (hj : j < 4) (hk : k < 4) (hx : t.place j = some x) (hy : t.place k = some y) (hid : x.id = y.id) : j = k := by
  have apart {i l : Nat} (hl : l < 4) (hil : i < l) {v w : Strip} (hv : t.place i = some v)
      (hw : t.place l = some w) : v.id ≠ w.id := by
    rw [Track.strips_eq, List.map_filterMap, List.Nodup, List.pairwise_filterMap, List.pairwise_iff_getElem] at h
    have := h i l (by simp; omega) (by simpa using hl) hil v.id (by simp [hv]) w.id (by simp [hw])
    exact this
  rcases Nat.lt_trichotomy j k with h0 | h0 | h0
  · exact absurd hid (apart hk h0 hx hy)
  · exact h0
  · exact absurd hid.symm (apart hj h0 hy hx)

/-- R88: the strip at a position is the one found by its id. -/
theorem Track.find_place {t : Track} (h : (t.strips.map fun x => x.id).Nodup) {k : Nat} {x : Strip} (hk : k < 4)
    (hx : t.place k = some x) : t.find x.id = some (x, k) := by
  have found : (t.find x.id).isSome = true := by
    rw [Track.find_isSome]
    exact List.any_eq_true.mpr ⟨x, Track.mem_strips.mpr ⟨k, hk, hx⟩, by simp⟩
  obtain ⟨⟨y, j⟩, hy⟩ := Option.isSome_iff_exists.mp found
  obtain ⟨hp, hid, hj⟩ := Track.find_some hy
  obtain rfl := Track.place_inj h hj hk hp hx hid
  rw [hp] at hx
  cases hx
  exact hy

/-! ## What the steps of a TRACK-SET do (R78, R113, R132) -/

/-- R113: a count to which `k` have been added, one by one. -/
def tally (n k : Nat) : Nat := if k = 0 then n else satAdd maxU32 n k

@[simp] theorem tally_zero (n : Nat) : tally n 0 = n := rfl

theorem tally_tally (n a b : Nat) : tally (tally n a) b = tally n (a + b) := by
  unfold tally satAdd
  split <;> split <;> split <;> omega

theorem tally_of_lt {n k : Nat} (h : tally n k < maxU32) : n < maxU32 ∧ tally n k = n + k := by
  unfold tally satAdd at h ⊢
  split at h
  · simp_all
  · rw [if_neg (by assumption)]
    omega

/-- R78: a record of a strip whose pins are released. -/
def BondRecord.freed (p : Nat → Bool) (r : BondRecord) : BondRecord :=
  if p r.strip then { r with pinned := false } else r

/-- R78: the records of the strips of `p` are released. -/
def Store.freed (x : Store) (p : Nat → Bool) : Store := { x with records := x.records.map (BondRecord.freed p) }

theorem BondRecord.freed_freed (p q : Nat → Bool) (r : BondRecord) :
    (r.freed p).freed q = r.freed fun i => p i || q i := by
  unfold BondRecord.freed
  cases hp : p r.strip <;> cases hq : q r.strip <;> simp [hp, hq]

theorem Store.freed_freed (x : Store) (p q : Nat → Bool) : (x.freed p).freed q = x.freed fun i => p i || q i := by
  unfold Store.freed
  rw [List.map_map]
  congr 1
  exact List.map_congr_left fun r _ => r.freed_freed p q

theorem Store.freed_none (x : Store) : x.freed (fun _ => false) = x := by
  unfold Store.freed BondRecord.freed
  simp

/-- R132: the pull controller where a pull has been discarded, or not. -/
def Puller.discarded (p : Puller) (b : Bool) : Puller := if b then { p with timer := none, current := none } else p

theorem Puller.discarded_discarded (p : Puller) (a b : Bool) :
    (p.discarded a).discarded b = p.discarded (a || b) := by
  cases a <;> cases b <;> rfl

/-- What steps of a TRACK-SET do: the strips at the positions behind them, the strips whose pins they release,
whether they discard the pull, and how many strips they drop and introduce. -/
structure Restating where
  place : Nat → Option Strip
  frees : Nat → Bool
  discards : Bool
  drops : Nat
  news : Nat

/-- From `s` to `t` the steps have done what `r` says, and nothing else to the track, the store and the pull
controller. -/
structure Restates (r : Restating) (s t : State) : Prop where
  track : t.track = { s.track.replaced r.place with
    dropped := tally s.track.dropped r.drops, introduced := tally s.track.introduced r.news }
  store : t.store = s.store.freed r.frees
  puller : t.puller = s.puller.discarded r.discards
  tables : t.tables = s.tables

theorem Restates.trans {r q : Restating} {s t u : State} (h : Restates r s t) (k : Restates q t u) :
    Restates ⟨q.place, fun i => r.frees i || q.frees i, r.discards || q.discards, r.drops + q.drops,
      r.news + q.news⟩ s u := by
  refine ⟨?_, ?_, ?_, k.tables.trans h.tables⟩
  · rw [k.track, h.track, ← tally_tally, ← tally_tally]
    rfl
  · rw [k.store, h.store, Store.freed_freed]
  · rw [k.puller, h.puller, Puller.discarded_discarded]

theorem Restates.happens {r : Restating} {s : State} {body : State → State} (h : Restates r s (body s)) :
    Restates r s (s.happens body) := by
  obtain ⟨track, store, puller, tables⟩ := h
  exact ⟨by rw [State.happens_track, track], by rw [State.happens_store, store],
    by rw [State.happens_puller, puller], by rw [State.happens_tables, tables]⟩

theorem Restates.refl (s : State) : Restates ⟨s.track.place, fun _ => false, false, 0, 0⟩ s s :=
  ⟨rfl, (Store.freed_none _).symm, rfl, rfl⟩

/-- What steps do is what they are said to do in other words. -/
theorem Restates.congr {r q : Restating} {s t : State} (h : Restates r s t) (place : ∀ k < 4, r.place k = q.place k)
    (frees : r.frees = q.frees) (discards : r.discards = q.discards) (drops : r.drops = q.drops)
    (news : r.news = q.news) : Restates q s t := by
  obtain ⟨track, store, puller, tables⟩ := h
  refine ⟨?_, frees ▸ store, discards ▸ puller, tables⟩
  rw [track, Track.replaced_congr s.track place, drops, news]

/-! ## Strips that are dropped (R112 step 3) -/

theorem State.dropStrip_restates (s : State) (x : Strip) :
    Restates ⟨s.track.place, fun i => x.id == i, x.pulling, 1, 0⟩ s (s.dropStrip x) := by
  have freed : (s.send .u (x.report none)).releaseStrip x.id = { s.send .u (x.report none) with
      store := s.store.freed fun i => x.id == i } := by
    unfold State.releaseStrip State.releasePins Store.freed BondRecord.freed
    simp [Bool.beq_comm]
  unfold State.dropStrip
  rw [freed]
  cases x.pulling <;> exact ⟨rfl, rfl, rfl, rfl⟩

theorem State.dropStrips_restates (s : State) (l : List (Strip × Nat)) :
    Restates ⟨s.track.place, fun i => l.any fun y => y.1.id == i, l.any fun y => y.1.pulling, l.length, 0⟩ s
      (l.foldl (fun (s : State) y => s.dropStrip y.1) s) := by
  induction l generalizing s with
  | nil => exact .refl s
  | cons y l ih =>
    have first := s.dropStrip_restates y.1
    refine (first.trans (ih _)).congr (fun k _ => ?_) rfl rfl (Nat.add_comm _ _) rfl
    rw [first.track]
    match k with
    | 0 | 1 | 2 | _ + 3 => rfl

/-- R112 step 3: the positions behind the drops. -/
def leftBy (moves : List StripMove) (k : Nat) : Option Strip :=
  (moves.find? fun m => m.was == k).map fun m => m.strip

theorem State.dropOthers_restates (s : State) (ids : List Nat) (moves : List StripMove) :
    let gone := s.track.placed.filter fun y => !ids.contains y.1.id
    Restates ⟨leftBy moves, fun i => gone.any fun y => y.1.id == i, gone.any fun y => y.1.pulling, gone.length, 0⟩
      s (s.dropOthers ids moves) := by
  intro gone
  obtain ⟨track, store, puller, tables⟩ := s.dropStrips_restates gone
  refine ⟨?_, store, puller, tables⟩
  unfold State.dropOthers
  dsimp only
  rw [track]
  rfl

/-! ## Strips that move (R112 step 4) -/

/-- The strip of a move, once it has moved: the pull of one that leaves PULL is discarded (R132). -/
def StripMove.settled (m : StripMove) : Strip :=
  if m.was = m.now then m.strip
  else if m.strip.pulling then { m.strip with pullState := .none } else m.strip

/-- R132: the move ends a pull. -/
def StripMove.discards (m : StripMove) : Bool := m.was != m.now && m.strip.pulling

/-- R78: the move takes its strip to EXIT. -/
def StripMove.exits (m : StripMove) : Bool := m.was != m.now && m.now == 3

theorem State.moveExisting_restates (s : State) (m : StripMove) (hw : m.was < 4) (hn : m.now < 4)
    (hs : s.track.place m.was = some m.strip) :
    Restates ⟨fun k => if k = m.now then some m.settled else if k = m.was then none else s.track.place k,
      fun i => m.exits && m.strip.id == i, m.discards, 0, 0⟩ s (s.moveExisting m) := by
  unfold State.moveExisting StripMove.settled StripMove.exits StripMove.discards
  by_cases h : m.was = m.now
  · simp only [h, if_true, bne_self_eq_false, Bool.false_and]
    refine (Restates.refl s).congr (fun k _ => ?_) rfl rfl rfl rfl
    dsimp only
    split
    · next hk => rw [hk, ← h, hs]
    · rfl
  · rw [if_neg h, if_neg h]
    extract_lets y u v x
    have set : (v.track.setPosition m.was none).setPosition m.now (some x) = v.track.replaced fun k =>
        if k = m.now then some x else if k = m.was then none else v.track.place k := by
      have once := v.track.setPosition_replaced v.track.place none hw
      rw [v.track.replaced_place] at once
      rw [once, Track.setPosition_replaced _ _ _ hn]
    have exits : (m.was != m.now) = true := by simpa using h
    have discarded : u = { s with puller := s.puller.discarded m.strip.pulling } := by
      simp only [u]
      cases m.strip.pulling <;> rfl
    have freed : v = { u with store := s.store.freed fun i => m.now == 3 && m.strip.id == i } := by
      simp only [v, discarded]
      split
      · next hn => simp [hn, State.releaseStrip, State.releasePins, Store.freed, BondRecord.freed, Bool.beq_comm]
      · next hn =>
        simp only [beq_eq_false_iff_ne.mpr hn, Bool.false_and, Store.freed_none]
    rw [set, exits]
    simp only [Bool.true_and]
    rw [freed, discarded]
    exact ⟨rfl, rfl, rfl, rfl⟩

/-- The moves of a TRACK-SET go from `k` on towards EXIT, and none overtakes another (R111 steps 6 and 7). -/
def Ascends : Nat → List StripMove → Prop
  | _, [] => True
  | k, m :: l => k ≤ m.was ∧ m.was ≤ m.now ∧ m.now < 4 ∧ (∀ n ∈ l, m.now < n.now) ∧ Ascends (m.was + 1) l

theorem Ascends.was_ge {k : Nat} {l : List StripMove} (h : Ascends k l) : ∀ m ∈ l, k ≤ m.was ∧ m.was ≤ m.now := by
  induction l generalizing k with
  | nil => nofun
  | cons m l ih =>
    obtain ⟨hk, hn, -, -, rest⟩ := h
    intro n hm
    rcases List.mem_cons.mp hm with rfl | hm
    · exact ⟨hk, hn⟩
    · obtain ⟨h1, h2⟩ := ih rest n hm
      exact ⟨by omega, h2⟩

/-- The positions behind the moves of step 4. -/
def takenBy (moves : List StripMove) (k : Nat) : Option Strip :=
  (moves.find? fun m => m.now == k).map StripMove.settled

theorem takenBy_cons (m : StripMove) (l : List StripMove) (k : Nat) :
    takenBy (m :: l) k = if m.now = k then some m.settled else takenBy l k := by
  unfold takenBy
  rw [List.find?_cons]
  by_cases h : m.now = k
  · simp [h]
  · simp [h, beq_eq_false_iff_ne.mpr h]

theorem leftBy_cons (m : StripMove) (l : List StripMove) (k : Nat) :
    leftBy (m :: l) k = if m.was = k then some m.strip else leftBy l k := by
  unfold leftBy
  rw [List.find?_cons]
  by_cases h : m.was = k
  · simp [h]
  · simp [h, beq_eq_false_iff_ne.mpr h]

/-- Nothing stands, and nothing arrives, ahead of the first move. -/
theorem Ascends.behind {j k : Nat} {l : List StripMove} (h : Ascends j l) (hk : k < j) :
    leftBy l k = none ∧ takenBy l k = none := by
  have far := h.was_ge
  constructor
  · rw [leftBy, List.find?_eq_none.mpr fun m hm => by have := far m hm; simp; omega]
    rfl
  · rw [takenBy, List.find?_eq_none.mpr fun m hm => by have := far m hm; simp; omega]
    rfl

/-- R112 step 4: the strip nearest EXIT moves first, so that each finds its place free. -/
theorem State.moveAll_restates (s : State) (moves : List StripMove) (lo : Nat) (h : Ascends lo moves)
    (hs : ∀ k < 4, lo ≤ k → s.track.place k = leftBy moves k) :
    Restates ⟨fun k => if k < lo then s.track.place k else takenBy moves k,
      fun i => moves.any fun m => m.exits && m.strip.id == i, moves.any StripMove.discards, 0, 0⟩ s
      (moves.foldr (fun m (s : State) => s.happens fun s => s.moveExisting m) s) := by
  induction moves generalizing lo with
  | nil =>
    refine (Restates.refl s).congr (fun k hk => ?_) rfl rfl rfl rfl
    dsimp only
    split
    · rfl
    · exact hs k hk (by omega)
  | cons m l ih =>
    obtain ⟨hk, hn, hlt, ahead, rest⟩ := h
    have inner := ih (m.was + 1) rest fun k hk4 hk => by
      rw [hs k hk4 (by omega), leftBy_cons, if_neg (by omega)]
    have stands : s.track.place m.was = some m.strip := by
      rw [hs m.was (by omega) hk, leftBy_cons, if_pos rfl]
    rw [List.foldr_cons]
    generalize l.foldr (fun m (s : State) => s.happens fun s => s.moveExisting m) s = u at inner
    have places {k : Nat} (hk : k < 4) : u.track.place k = if k < m.was + 1 then s.track.place k else takenBy l k := by
      rw [inner.track]
      exact Track.place_replaced s.track (fun k => if k < m.was + 1 then s.track.place k else takenBy l k) hk
    have moved := u.moveExisting_restates m (by omega) hlt (by rw [places (by omega), if_pos (by omega), stands])
    refine (inner.trans moved.happens).congr (fun k hk4 => ?_) ?_ ?_ rfl rfl
    · dsimp only
      rw [places hk4, takenBy_cons]
      by_cases h1 : k = m.now
      · subst h1
        simp only [if_true]
        rw [if_neg (by omega)]
      · rw [if_neg h1, if_neg (Ne.symm h1)]
        by_cases h2 : k < lo
        · rw [if_pos h2, if_neg (by omega), if_pos (by omega)]
        · rw [if_neg h2]
          by_cases h3 : k < m.was + 1
          · rw [if_pos h3, (rest.behind h3).2]
            split
            · rfl
            · rw [hs k hk4 (by omega), leftBy_cons, if_neg (by omega), (rest.behind h3).1]
          · rw [if_neg h3, if_neg (by omega)]
    · funext i
      simp [Bool.or_comm]
    · simp [Bool.or_comm]

end Sys2Proof.Machine
end

section
/-! SUPPORT. The strips, pins and pull controller behind an accepted TRACK-SET, and that the invariants of strips and
pulls are kept (R88, R111 to R113, R119, R132). -/

namespace Sys2Proof.Machine

/-! ## The steps together (R112) -/

/-- R112 step 4: the move that an entry at position `y.2` asks for. -/
def moveOf (t : Track) (y : PosSpec × Nat) : Option StripMove :=
  match y.1 with
  | .existing i => (t.find i).map fun z => ⟨z.1, z.2, y.2⟩
  | .empty | .new _ _ _ => none

/-- R112 step 4: the moves that the entries ask for. -/
def movesOf (t : Track) (specs : List PosSpec) : List StripMove := specs.zipIdx.filterMap (moveOf t)

theorem moveOf_now {t : Track} {y : PosSpec × Nat} {m : StripMove} (h : moveOf t y = some m) : m.now = y.2 := by
  obtain ⟨p, k⟩ := y
  cases p with
  | existing i =>
    obtain ⟨z, -, rfl⟩ := Option.map_eq_some_iff.mp (show (t.find i).map _ = some m from h)
    rfl
  | empty => cases h
  | new => cases h

/-- The move to a position is the one of its entry. -/
theorem takenBy_movesOf (t : Track) (specs : List PosSpec) (k : Nat) :
    takenBy (movesOf t specs) k = (specs[k]?).bind fun p => (moveOf t (p, k)).map StripMove.settled := by
  have general (n j : Nat) : takenBy ((specs.zipIdx n).filterMap (moveOf t)) (n + j) =
      (specs[j]?).bind fun p => (moveOf t (p, n + j)).map StripMove.settled := by
    induction specs generalizing n j with
    | nil => rfl
    | cons p l ih =>
      rw [List.zipIdx_cons, List.filterMap_cons]
      cases j with
      | zero =>
        have later : takenBy ((l.zipIdx (n + 1)).filterMap (moveOf t)) n = none := by
          rw [takenBy, List.find?_eq_none.mpr]
          · rfl
          · intro m hm
            obtain ⟨y, hy, hm⟩ := List.mem_filterMap.mp hm
            have := List.le_snd_of_mem_zipIdx hy
            rw [moveOf_now hm]
            simp
            omega
        cases hm : moveOf t (p, n) with
        | none => simpa [hm] using later
        | some m => simp [takenBy_cons, moveOf_now hm, hm]
      | succ j =>
        have := ih (n + 1) j
        rw [show n + 1 + j = n + (j + 1) by omega] at this
        cases hm : moveOf t (p, n) with
        | none => simpa [hm] using this
        | some m =>
          simp only [takenBy_cons, moveOf_now hm]
          rw [if_neg (by omega), this]
          rfl
  have := general 0 k
  rwa [Nat.zero_add] at this

/-- R112 step 5: a NEW strip stands where its entry says. -/
def PosSpec.newAt (T : Tables) (p : PosSpec) (x : Option Strip) : Option Strip :=
  match p with
  | .new i d f => some (T.newStrip i d f false)
  | .empty | .existing _ => x

def PosSpec.isNew : PosSpec → Bool
  | .new _ _ _ => true
  | .empty | .existing _ => false

theorem State.introduce_restates (s : State) (p : PosSpec) {k : Nat} (hk : k < 4) :
    Restates ⟨fun j => if j = k then p.newAt s.tables (s.track.place j) else s.track.place j, fun _ => false, false,
      0, if p.isNew then 1 else 0⟩ s (s.introduce (p, k)) := by
  have same (q : PosSpec) (hq : ∀ x, q.newAt s.tables x = x) : Restates ⟨fun j =>
      if j = k then q.newAt s.tables (s.track.place j) else s.track.place j, fun _ => false, false, 0, 0⟩ s s :=
    (Restates.refl s).congr (fun j _ => by simp only [hq, ite_self]) rfl rfl rfl rfl
  cases p with
  | empty => exact same .empty fun _ => rfl
  | existing i => exact same (.existing i) fun _ => rfl
  | new i d f =>
    refine ⟨?_, (Store.freed_none _).symm, rfl, rfl⟩
    have set := s.track.setPosition_replaced s.track.place (some (s.tables.newStrip i d f false)) hk
    rw [s.track.replaced_place] at set
    simp only [State.introduce, set]
    have places : (fun j => if j = k then some (s.tables.newStrip i d f false) else s.track.place j) =
        fun j => if j = k then (PosSpec.new i d f).newAt s.tables (s.track.place j) else s.track.place j := rfl
    rw [places]
    rfl

/-- R112 step 5: the NEW strips of the entries from position `n` on. -/
theorem State.introduceAll_restates (s : State) (l : List PosSpec) (n : Nat) (hl : n + l.length ≤ 4) :
    Restates ⟨fun j => if n ≤ j then (l[j - n]?).elim (s.track.place j) fun p => p.newAt s.tables (s.track.place j)
        else s.track.place j, fun _ => false, false, 0, l.countP PosSpec.isNew⟩ s
      ((l.zipIdx n).foldl (fun (s : State) y => s.happens fun s => s.introduce y) s) := by
  induction l generalizing s n with
  | nil => exact (Restates.refl s).congr (fun j _ => by simp) rfl rfl rfl rfl
  | cons p l ih =>
    rw [List.length_cons] at hl
    have first := Restates.happens (body := fun s => s.introduce (p, n))
      (s.introduce_restates p (show n < 4 by omega))
    rw [List.zipIdx_cons, List.foldl_cons]
    generalize (s.happens fun s => s.introduce (p, n)) = u at first
    have rest := ih u (n + 1) (by omega)
    have places {j : Nat} (hj : j < 4) : u.track.place j =
        if j = n then p.newAt s.tables (s.track.place j) else s.track.place j := by
      rw [first.track]
      exact Track.place_replaced s.track
        (fun j => if j = n then p.newAt s.tables (s.track.place j) else s.track.place j) hj
    refine (first.trans rest).congr (fun j hj => ?_) rfl rfl rfl ?_
    · dsimp only
      rw [places hj, first.tables]
      by_cases h1 : j = n
      · subst h1
        rw [if_neg (by omega), if_pos rfl, if_pos (Nat.le_refl j), Nat.sub_self]
        rfl
      · rw [if_neg h1]
        by_cases h2 : n ≤ j
        · rw [if_pos (by omega), if_pos h2, show j - n = j - (n + 1) + 1 by omega]
          rfl
        · rw [if_neg (by omega), if_neg h2]
    · rw [List.countP_cons]
      exact Nat.add_comm _ _

/-- R112: the strip that an entry of a TRACK-SET leaves at position `k`. -/
def PosSpec.settles (T : Tables) (t : Track) (p : PosSpec) (k : Nat) : Option Strip :=
  p.newAt T ((moveOf t (p, k)).map StripMove.settled)

/-- R111: what the checks of a TRACK-SET leave of its entries. -/
structure Restatable (t : Track) (specs : List PosSpec) : Prop where
  four : specs.length = 4
  found : ∀ i, .existing i ∈ specs → (t.find i).isSome = true
  fresh : ∀ i d f, .new i d f ∈ specs → t.find i = none
  ids : (specs.filterMap PosSpec.id?).Nodup
  ascends : Ascends 0 (movesOf t specs)

/-- The strips that an accepted TRACK-SET does not name. -/
def goneOf (t : Track) (specs : List PosSpec) : List (Strip × Nat) :=
  t.placed.filter fun y => !(specs.filterMap PosSpec.id?).contains y.1.id

/-- R112: what the entries ask for. -/
def restatingOf (T : Tables) (t : Track) (specs : List PosSpec) : Restating where
  place k := (specs[k]?).bind fun p => p.settles T t k
  frees i := (goneOf t specs).any (fun y => y.1.id == i) ||
    (movesOf t specs).any fun m => m.exits && m.strip.id == i
  discards := (goneOf t specs).any (fun y => y.1.pulling) || (movesOf t specs).any StripMove.discards
  drops := (goneOf t specs).length
  news := specs.countP PosSpec.isNew

/-- R112 steps 3 to 5, with the claims ended. -/
def State.restate (s : State) (specs : List PosSpec) : State :=
  let s1 := s.happens fun t => t.dropOthers (specs.filterMap PosSpec.id?) (movesOf s.track specs)
  let s2 := (movesOf s.track specs).reverse.foldl (fun (s : State) m => s.happens fun s => s.moveExisting m) s1
  specs.zipIdx.foldl (fun (s : State) y => s.happens fun s => s.introduce y) s2

theorem State.acceptTrackSet_eq (s : State) (tag : Byte) (specs : List PosSpec) (w : Option Nat) :
    s.acceptTrackSet tag specs w =
      let u := s.happens State.endClaims
      let v := (((u.restate specs).setWindow w).happens State.trackKnown).reply 7 tag .accepted
      if (movesOf u.track specs).any fun m => m.now == 2 && m.was != 2 then v.startPull else v := rfl

theorem State.restate_restates (s : State) {specs : List PosSpec} (h : Restatable s.track specs) :
    Restates (restatingOf s.tables s.track specs) s (s.restate specs) := by
  unfold State.restate
  extract_lets u v
  have dropped : Restates _ s u := (s.dropOthers_restates (specs.filterMap PosSpec.id?) (movesOf s.track specs)).happens
  have left : ∀ k < 4, 0 ≤ k → u.track.place k = leftBy (movesOf s.track specs) k := by
    intro k hk _
    rw [dropped.track]
    exact Track.place_replaced s.track (leftBy (movesOf s.track specs)) hk
  have moved := u.moveAll_restates (movesOf s.track specs) 0 h.ascends left
  rw [← List.foldl_reverse] at moved
  have fresh := v.introduceAll_restates specs 0 (by rw [h.four])
  have taken {k : Nat} (hk : k < 4) : v.track.place k = takenBy (movesOf s.track specs) k := by
    rw [moved.track]
    exact Track.place_replaced u.track
      (fun k => if k < 0 then u.track.place k else takenBy (movesOf s.track specs) k) hk
  refine ((dropped.trans moved).trans fresh).congr (fun k hk => ?_) ?_ ?_ (by simp [restatingOf, goneOf])
    (by simp [restatingOf])
  · simp only [Nat.zero_le, if_true, Nat.sub_zero]
    rw [taken hk, moved.tables, dropped.tables, takenBy_movesOf]
    cases hp : specs[k]? with
    | none =>
      rw [List.getElem?_eq_none_iff, h.four] at hp
      omega
    | some p => simp [restatingOf, hp, PosSpec.settles]
  · funext i
    simp [restatingOf, goneOf]
  · simp [restatingOf, goneOf]

end Sys2Proof.Machine
end

section
/-! SUPPORT. An accepted TRACK-SET keeps the invariants of strips and pulls (R88, R111 to R113, R119, R132). -/

namespace Sys2Proof.Machine

/-! ## Entries and strips (R111) -/

/-- R111 step 5: an id is named once. -/
theorem Restatable.index_inj {t : Track} {specs : List PosSpec} (h : Restatable t specs) {j k : Nat} {p q : PosSpec}
    {i : Nat} (hj : specs[j]? = some p) (hk : specs[k]? = some q) (hp : p.id? = some i) (hq : q.id? = some i) :
    j = k := by
  have apart {a b : Nat} (hab : a < b) {v w : PosSpec} (hv : specs[a]? = some v) (hw : specs[b]? = some w)
      (hi : v.id? = some i) : w.id? ≠ some i := by
    intro hi'
    have nodup := h.ids
    rw [List.Nodup, List.pairwise_filterMap, List.pairwise_iff_getElem] at nodup
    obtain ⟨ha, hv⟩ := List.getElem?_eq_some_iff.mp hv
    obtain ⟨hb, hw⟩ := List.getElem?_eq_some_iff.mp hw
    exact nodup a b ha hb hab i (by rw [hv]; exact hi) i (by rw [hw]; exact hi') rfl
  rcases Nat.lt_trichotomy j k with h0 | h0 | h0
  · exact absurd hq (apart h0 hj hk hp)
  · exact h0
  · exact absurd hp (apart h0 hk hj hq)

theorem moveOf_some {t : Track} {p : PosSpec} {k : Nat} {m : StripMove} (h : moveOf t (p, k) = some m) :
    p = .existing m.strip.id ∧ t.find m.strip.id = some (m.strip, m.was) ∧ m.now = k := by
  cases p with
  | existing i =>
    obtain ⟨z, hz, rfl⟩ := Option.map_eq_some_iff.mp (show (t.find i).map _ = some m from h)
    obtain ⟨-, rfl, -⟩ := Track.find_some hz
    exact ⟨rfl, hz, rfl⟩
  | empty => cases h
  | new => cases h

/-- R112 step 4: where the move of a list comes from. -/
theorem movesOf_mem {t : Track} {specs : List PosSpec} {m : StripMove} : m ∈ movesOf t specs ↔
    ∃ p, specs[m.now]? = some p ∧ moveOf t (p, m.now) = some m := by
  simp only [movesOf, List.mem_filterMap]
  constructor
  · rintro ⟨⟨p, k⟩, hy, hm⟩
    obtain rfl : m.now = k := moveOf_now hm
    exact ⟨p, (zipIdx_mem _ _ _).mp hy, hm⟩
  · rintro ⟨p, hp, hm⟩
    exact ⟨(p, m.now), (zipIdx_mem _ _ _).mpr hp, hm⟩

theorem Strip.pulling_eq (x : Strip) : x.pulling = !x.pullState.still := by
  unfold Strip.pulling
  cases x.pullState <;> rfl

/-- R112: the strip that an entry leaves has the id of the entry. -/
theorem Restatable.settles_id {t : Track} {specs : List PosSpec} (h : Restatable t specs) (T : Tables) {p : PosSpec}
    {k : Nat} (hp : specs[k]? = some p) : (p.settles T t k).map (fun x => x.id) = p.id? := by
  cases p with
  | empty => rfl
  | new i d f => rfl
  | existing i =>
    obtain ⟨⟨z, w⟩, hz⟩ := Option.isSome_iff_exists.mp (h.found i (List.mem_of_getElem? hp))
    obtain ⟨-, hid, -⟩ := Track.find_some hz
    have same (m : StripMove) : m.settled.id = m.strip.id := by
      unfold StripMove.settled
      split
      · rfl
      · split <;> rfl
    simp [PosSpec.settles, moveOf, hz, PosSpec.newAt, same, hid, PosSpec.id?]

/-- R113: the EXISTING strip that an entry names. -/
def PosSpec.old? : PosSpec → Option Nat
  | .existing i => some i
  | .empty | .new _ _ _ => none

theorem ids_length (specs : List PosSpec) : (specs.filterMap PosSpec.id?).length =
    specs.countP PosSpec.isNew + (specs.filterMap PosSpec.old?).length := by
  induction specs with
  | nil => rfl
  | cons p l ih =>
    simp only [List.filterMap_cons, List.countP_cons]
    cases p with
    | empty => simpa [PosSpec.id?, PosSpec.isNew, PosSpec.old?] using ih
    | existing i => simp [PosSpec.id?, PosSpec.isNew, PosSpec.old?, ih]; omega
    | new i d f => simp [PosSpec.id?, PosSpec.isNew, PosSpec.old?, ih]; omega

/-- R113: the strips on the track are those that go and those that the entries name. -/
theorem Restatable.strips_length {t : Track} {specs : List PosSpec} (h : Restatable t specs)
    (hn : (t.strips.map fun x => x.id).Nodup) :
    t.strips.length = (goneOf t specs).length + (specs.filterMap PosSpec.old?).length := by
  let listed (x : Strip) : Bool := (specs.filterMap PosSpec.id?).contains x.id
  have gone : (goneOf t specs).length = (t.strips.filter fun x => !listed x).length := by
    rw [t.strips_placed, List.filter_map, List.length_map]
    rfl
  have mem (i : Nat) : i ∈ (t.strips.filter listed).map (fun x => x.id) ↔ i ∈ specs.filterMap PosSpec.old? := by
    simp only [List.mem_map, List.mem_filter, List.mem_filterMap, listed, List.contains_iff_mem]
    constructor
    · rintro ⟨x, ⟨hx, p, hp, hi⟩, rfl⟩
      obtain ⟨k, hk, hx⟩ := Track.mem_strips.mp hx
      refine ⟨p, hp, ?_⟩
      cases p with
      | empty => cases hi
      | existing i => exact hi
      | new i d f =>
        cases hi
        have := h.fresh _ d f hp
        rw [Track.find_place hn hk hx] at this
        cases this
    · rintro ⟨p, hp, hi⟩
      cases p with
      | empty => cases hi
      | new => cases hi
      | existing j =>
        cases hi
        obtain ⟨⟨x, k⟩, hz⟩ := Option.isSome_iff_exists.mp (h.found _ hp)
        obtain ⟨hx, hid, hk⟩ := Track.find_some hz
        exact ⟨x, ⟨Track.mem_strips.mpr ⟨k, hk, hx⟩, _, hp, congrArg some hid.symm⟩, hid⟩
  have old : (specs.filterMap PosSpec.old?).Nodup := by
    have sub : (specs.filterMap PosSpec.old?).Sublist (specs.filterMap PosSpec.id?) := by
      clear * -
      induction specs with
      | nil => exact List.Sublist.slnil
      | cons p l ih =>
        cases p with
        | empty => exact ih
        | existing i => exact ih.cons_cons i
        | new i d f => exact ih.cons i
    exact h.ids.sublist sub
  have kept : ((t.strips.filter listed).map fun x => x.id).Nodup :=
    hn.sublist (List.filter_sublist.map _)
  have perm := (List.perm_ext_iff_of_nodup kept old).mpr mem
  have length := perm.length_eq
  rw [List.length_map] at length
  rw [gone, ← length, List.length_eq_length_filter_add listed]
  exact Nat.add_comm _ _

/-- R88: the ids behind an accepted TRACK-SET are those of its entries, from ENTRY to EXIT. -/
theorem Restatable.strips_ids {s t : State} {specs : List PosSpec} (h : Restatable s.track specs)
    (k : Restates (restatingOf s.tables s.track specs) s t) :
    t.track.strips.map (fun x => x.id) = specs.filterMap PosSpec.id? := by
  have places : t.track.strips = (List.range 4).filterMap fun k =>
      (specs[k]?).bind fun p => p.settles s.tables s.track k := by
    rw [Track.strips_eq]
    refine List.filterMap_congr fun j hj => ?_
    rw [k.track]
    exact Track.place_replaced s.track (restatingOf s.tables s.track specs).place (List.mem_range.mp hj)
  have ids {j : Nat} : ((specs[j]?).bind fun p => p.settles s.tables s.track j).map (fun x => x.id) =
      (specs[j]?).bind PosSpec.id? := by
    cases hp : specs[j]? with
    | none => rfl
    | some p => exact h.settles_id s.tables hp
  rw [places, List.map_filterMap]
  simp only [ids]
  obtain ⟨four, -⟩ := h
  match specs, four with
  | [a, b, c, d], _ => rfl

/-! ## The invariants of strips and pulls (R88, R113, R119) -/

/-- R88, R102, R113: the strips behind the steps of an accepted TRACK-SET, on a track that is KNOWN again. -/
theorem Restatable.sound {s t : State} {specs : List PosSpec} (h : Restatable s.track specs)
    (hs : s.lane.Sound false) (free : s.track.inFlight = none)
    (k : Restates (restatingOf s.tables s.track specs) s t) : ({ t.lane with known := true } : Lane).Sound false := by
  have ids := h.strips_ids k
  have nodup := hs.ids
  rw [s.lane_ids] at nodup
  have free : t.track.inFlight = none := by rw [k.track]; exact free
  refine ⟨?_, nofun, nofun, fun q hq => ?_, fun ⟨ht, hi, hd, hp⟩ => ?_⟩
  · change (t.lane.tags.map Prod.fst).Nodup
    rw [t.lane_ids, ids]
    exact h.ids
  · rw [show t.lane.inFlight = none from free] at hq
    cases hq
  · change t.track.taken + t.track.introduced = t.lane.tags.length + t.track.delivered + t.track.dropped
    have taken : t.track.taken = s.track.taken := by rw [k.track]; rfl
    have delivered : t.track.delivered = s.track.delivered := by rw [k.track]; rfl
    have introduced : t.track.introduced = tally s.track.introduced (specs.countP PosSpec.isNew) := by
      rw [k.track]; rfl
    have dropped : t.track.dropped = tally s.track.dropped (goneOf s.track specs).length := by rw [k.track]; rfl
    obtain ⟨hi, eqi⟩ := tally_of_lt (introduced ▸ show t.track.introduced < maxU32 from hi)
    obtain ⟨hp, eqp⟩ := tally_of_lt (dropped ▸ show t.track.dropped < maxU32 from hp)
    have all := hs.conserved ⟨show s.track.taken < maxU32 from taken ▸ ht, hi,
      show s.track.delivered < maxU32 from delivered ▸ hd, hp⟩
    have old := h.strips_length nodup
    have new := ids_length specs
    rw [← ids, List.length_map] at new
    rw [s.lane_tags, List.length_map] at all
    change s.track.taken + s.track.introduced = s.track.strips.length + s.track.delivered + s.track.dropped at all
    rw [t.lane_tags, List.length_map]
    omega

/-- R119, R132: a strip with a pull behind the steps is the one that has stood at PULL throughout. -/
theorem State.settles_still {s : State} (beside : s.lane.Beside) {k : Nat} {p : PosSpec} {x : Strip}
    (hx : p.settles s.tables s.track k = some x) : x.pullState.still = true ∨
      (k = 2 ∧ s.track.pull = some x ∧ p = .existing x.id) := by
  cases p with
  | empty => cases hx
  | new i d f =>
    cases hx
    exact .inl rfl
  | existing i =>
    obtain ⟨m, hm, rfl⟩ := Option.map_eq_some_iff.mp
      (show (moveOf s.track (.existing i, k)).map StripMove.settled = some x from hx)
    obtain ⟨hp, found, rfl⟩ := moveOf_some hm
    obtain ⟨place, -, hk⟩ := Track.find_some found
    unfold StripMove.settled
    split
    · next hw =>
      rw [hw] at place hk
      match hn : m.now, hk with
      | 0, _ =>
        rw [hn] at place
        exact .inl (beside.entry m.strip.tag (by simp [State.lane, show s.track.entry = _ from place]))
      | 1, _ =>
        rw [hn] at place
        exact .inl (beside.bond m.strip.tag (by simp [State.lane, show s.track.bond = _ from place]))
      | 2, _ =>
        rw [hn] at place
        exact .inr ⟨rfl, place, hp⟩
      | 3, _ =>
        rw [hn] at place
        exact .inl (beside.exit m.strip.tag (by simp [State.lane, show s.track.exit = _ from place]))
    · split
      · exact .inl rfl
      · next hp =>
        rw [Strip.pulling_eq] at hp
        exact .inl (by simpa using hp)

/-- R119: the strip of a pull is at PULL. -/
theorem State.pulling_place {s : State} (beside : s.lane.Beside) {k : Nat} {x : Strip} (hk : k < 4)
    (hx : s.track.place k = some x) (hp : x.pulling = true) : k = 2 := by
  have wrong : x.pullState.still ≠ true := by simpa [Strip.pulling_eq] using hp
  match k, hk with
  | 0, _ => exact absurd (beside.entry x.tag (by simp [State.lane, show s.track.entry = _ from hx])) wrong
  | 1, _ => exact absurd (beside.bond x.tag (by simp [State.lane, show s.track.bond = _ from hx])) wrong
  | 2, _ => rfl
  | 3, _ => exact absurd (beside.exit x.tag (by simp [State.lane, show s.track.exit = _ from hx])) wrong

/-- R132: with no pull discarded the strip of a pull stays at PULL. -/
theorem Restatable.pull_stays {s : State} {specs : List PosSpec} (h : Restatable s.track specs)
    (hn : (s.track.strips.map fun x => x.id).Nodup) {x : Strip} (hx : s.track.pull = some x)
    (hp : x.pulling = true) (hd : (restatingOf s.tables s.track specs).discards = false) :
    specs[2]? = some (.existing x.id) := by
  obtain ⟨gone, moved⟩ := Bool.or_eq_false_iff.mp hd
  have found := Track.find_place hn (show 2 < 4 by omega) (show s.track.place 2 = some x from hx)
  have placed : (x, 2) ∈ s.track.placed := List.mem_of_find?_eq_some found
  have listed : x.id ∈ specs.filterMap PosSpec.id? := by
    by_contra hl
    have : (x, 2) ∈ goneOf s.track specs := List.mem_filter.mpr ⟨placed, by simpa using hl⟩
    rw [List.any_eq_false] at gone
    exact gone _ this hp
  obtain ⟨p, hm, hi⟩ := List.mem_filterMap.mp listed
  obtain ⟨k, hk⟩ := List.mem_iff_getElem?.mp hm
  cases p with
  | empty => cases hi
  | new i d f =>
    cases hi
    rw [h.fresh _ d f hm] at found
    cases found
  | existing i =>
    obtain rfl : i = x.id := Option.some.inj hi
    have moves : moveOf s.track (.existing x.id, k) = some ⟨x, 2, k⟩ := by simp [moveOf, found]
    have mem : (⟨x, 2, k⟩ : StripMove) ∈ movesOf s.track specs := movesOf_mem.mpr ⟨_, hk, moves⟩
    rw [List.any_eq_false] at moved
    have stays := moved _ mem
    simp only [StripMove.discards, hp, Bool.and_true, bne_iff_ne, ne_eq, Decidable.not_not] at stays
    rw [stays]
    exact hk

/-- R132: where the pull is discarded its strip does not stay at PULL. -/
theorem Restatable.discards_leaves {s : State} {specs : List PosSpec} (h : Restatable s.track specs)
    (beside : s.lane.Beside) {x : Strip} (hx : s.track.pull = some x) (hs : specs[2]? = some (.existing x.id))
    (hd : (restatingOf s.tables s.track specs).discards = true) : False := by
  rcases Bool.or_eq_true_iff.mp hd with hd | hd
  · obtain ⟨⟨y, j⟩, hy, hp⟩ := List.any_eq_true.mp hd
    obtain ⟨hm, hl⟩ := List.mem_filter.mp hy
    obtain ⟨place, hj⟩ := Track.mem_placed hm
    obtain rfl := State.pulling_place beside hj place hp
    obtain rfl : x = y := Option.some.inj (hx.symm.trans place)
    have : x.id ∈ specs.filterMap PosSpec.id? := List.mem_filterMap.mpr ⟨_, List.mem_of_getElem? hs, rfl⟩
    rw [List.contains_iff_mem.mpr this] at hl
    cases hl
  · obtain ⟨m, hm, hp⟩ := List.any_eq_true.mp hd
    obtain ⟨p, hk, hm⟩ := movesOf_mem.mp hm
    obtain ⟨rfl, found, -⟩ := moveOf_some hm
    obtain ⟨place, -, hlt⟩ := Track.find_some found
    obtain ⟨away, pulling⟩ := Bool.and_eq_true_iff.mp hp
    have two := State.pulling_place beside hlt place pulling
    rw [two] at place away
    obtain rfl : x = m.strip := Option.some.inj (hx.symm.trans place)
    have := h.index_inj hs hk rfl rfl
    simp [this] at away

/-- R119 to R121, R132: the pulls behind the steps of an accepted TRACK-SET. -/
theorem Restatable.pulls {s t : State} {specs : List PosSpec} (h : Restatable s.track specs)
    (hs : s.lane.Sound false) (hp : s.lane.Pulls) (free : s.track.inFlight = none)
    (k : Restates (restatingOf s.tables s.track specs) s t) : ({ t.lane with known := true } : Lane).Pulls := by
  have nodup := hs.ids
  rw [s.lane_ids] at nodup
  have places {j : Nat} (hj : j < 4) : t.track.place j = (specs[j]?).bind fun p => p.settles s.tables s.track j := by
    rw [k.track]
    exact Track.place_replaced s.track (restatingOf s.tables s.track specs).place hj
  have still {j : Nat} (hj : j < 4) {x : Strip} (hx : t.track.place j = some x) : x.pullState.still = true ∨
      (j = 2 ∧ s.track.pull = some x ∧ specs[2]? = some (.existing x.id)) := by
    rw [places hj] at hx
    obtain ⟨p, hp', hx⟩ := Option.bind_eq_some_iff.mp hx
    rcases State.settles_still hp.beside hx with h0 | ⟨rfl, h1, rfl⟩
    · exact .inl h0
    · exact .inr ⟨rfl, h1, hp'⟩
  have tag {j : Nat} (hj : j < 4) (hne : j ≠ 2) : ∀ y ∈ (t.track.place j).map Strip.tag, y.2.still = true := by
    rw [forall_tag (p := fun y => y.still = true)]
    intro x hx
    exact (still hj hx).resolve_right fun ⟨h0, _⟩ => hne h0
  refine ⟨⟨tag (j := 0) (by omega) (by omega), tag (j := 1) (by omega) (by omega),
    tag (j := 3) (by omega) (by omega)⟩, fun q hq => ?_, fun hc => ?_, fun c hc => ?_⟩
  · have free : t.track.inFlight = none := by rw [k.track]; exact free
    rw [show t.lane.inFlight = none from free] at hq
    cases hq
  · have hc : t.puller.current = none := hc
    change t.puller.timer = none ∧ ∀ y ∈ t.track.pull.map Strip.tag, y.2.still = true
    rw [forall_tag (p := fun y => y.still = true)]
    cases hd : (restatingOf s.tables s.track specs).discards with
    | true =>
      refine ⟨by rw [k.puller, hd]; rfl, fun x hx => ?_⟩
      exact (still (j := 2) (by omega) hx).resolve_right fun ⟨_, h1, h2⟩ => h.discards_leaves hp.beside h1 h2 hd
    | false =>
      have same : t.puller = s.puller := by rw [k.puller, hd]; rfl
      rw [same] at hc ⊢
      obtain ⟨timer, quiet⟩ := hp.idle hc
      refine ⟨timer, fun x hx => ?_⟩
      rcases still (j := 2) (by omega) hx with h0 | ⟨-, h1, -⟩
      · exact h0
      · exact quiet x.tag (by simp [State.lane, h1])
  · have hc : t.puller.current = some c := hc
    cases hd : (restatingOf s.tables s.track specs).discards with
    | true =>
      rw [k.puller, hd] at hc
      cases hc
    | false =>
      have same : t.puller = s.puller := by rw [k.puller, hd]; rfl
      rw [same] at hc
      obtain ⟨⟨y, hy, own, rest⟩, orders, awaits⟩ := hp.stands c hc
      obtain ⟨x, hx, rfl⟩ := Option.map_eq_some_iff.mp (show s.track.pull.map Strip.tag = some y from hy)
      have spec := h.pull_stays nodup hx (by rw [Strip.pulling_eq]; simpa [Strip.tag] using rest.1) hd
      have stays : t.track.pull = some x := by
        have := places (j := 2) (by omega)
        rw [spec] at this
        simpa [Track.place, PosSpec.settles, moveOf, PosSpec.newAt, StripMove.settled,
          Track.find_place nodup (show 2 < 4 by omega) (show s.track.place 2 = some x from hx)] using this
      refine ⟨⟨x.tag, by simp [State.lane, stays], own, ?_⟩, ?_, awaits⟩
      · change _ ∧ (_ → t.puller.ordersQueued = 0 ∧ t.puller.timer = none) ∧ (_ → t.puller.timer.isSome = true)
        rw [same]
        exact rest
      · change t.puller.ordersQueued ≤ _
        rw [same]
        exact orders

/-- R119: no pull is current where a strip has moved to PULL. -/
theorem Restatable.arrival_free {s t : State} {specs : List PosSpec} (h : Restatable s.track specs)
    (hs : s.lane.Sound false) (hp : s.lane.Pulls) (k : Restates (restatingOf s.tables s.track specs) s t)
    (arrives : ((movesOf s.track specs).any fun m => m.now == 2 && m.was != 2) = true) :
    t.puller.current = none := by
  have nodup := hs.ids
  rw [s.lane_ids] at nodup
  cases hd : (restatingOf s.tables s.track specs).discards with
  | true => rw [k.puller, hd]; rfl
  | false =>
    cases hc : s.puller.current with
    | none => rw [k.puller, hd]; exact hc
    | some c =>
      obtain ⟨⟨y, hy, -, waits, -⟩, -⟩ := hp.stands c hc
      obtain ⟨x, hx, rfl⟩ := Option.map_eq_some_iff.mp (show s.track.pull.map Strip.tag = some y from hy)
      have spec := h.pull_stays nodup hx (by rw [Strip.pulling_eq]; simpa [Strip.tag] using waits) hd
      obtain ⟨m, hm, arrives⟩ := List.any_eq_true.mp arrives
      obtain ⟨p, hk, hm⟩ := movesOf_mem.mp hm
      obtain ⟨rfl, found, -⟩ := moveOf_some hm
      simp only [Bool.and_eq_true, beq_iff_eq, bne_iff_ne] at arrives
      rw [arrives.1, spec] at hk
      obtain hid : x.id = m.strip.id := PosSpec.existing.inj (Option.some.inj hk)
      have := Track.find_place nodup (show 2 < 4 by omega) (show s.track.place 2 = some x from hx)
      rw [hid, found] at this
      exact absurd (congrArg Prod.snd (Option.some.inj this)) arrives.2

/-! ## The accepted TRACK-SET (R111, R112) -/

/-- R111 step 7: the positions that the strips leave, and those that they take. -/
theorem ascends_of {l : List StripMove} {k : Nat} (was : rising (l.map StripMove.was) = true)
    (now : l.Pairwise fun m n => m.now < n.now) (ahead : ∀ m ∈ l, m.was ≤ m.now ∧ m.now < 4)
    (first : ∀ m ∈ l.head?, k ≤ m.was) : Ascends k l := by
  induction l generalizing k with
  | nil => trivial
  | cons m l ih =>
    obtain ⟨wn, lt⟩ := ahead m List.mem_cons_self
    obtain ⟨nows, now⟩ := List.pairwise_cons.mp now
    have rest : rising (l.map StripMove.was) = true ∧ ∀ n ∈ l.head?, m.was + 1 ≤ n.was := by
      cases l with
      | nil => exact ⟨rfl, nofun⟩
      | cons n l =>
        obtain ⟨h1, h2⟩ := Bool.and_eq_true_iff.mp was
        refine ⟨h2, fun x hx => ?_⟩
        cases hx
        simpa using h1
    exact ⟨first m rfl, wn, lt, nows, ih rest.1 now (fun n hn => ahead n (List.mem_cons_of_mem _ hn)) rest.2⟩

theorem zipIdx_pairwise {α : Type} (l : List α) (n : Nat) : (l.zipIdx n).Pairwise fun x y => x.2 < y.2 := by
  induction l generalizing n with
  | nil => exact List.Pairwise.nil
  | cons a l ih =>
    rw [List.zipIdx_cons]
    exact List.pairwise_cons.mpr ⟨fun y hy => List.le_snd_of_mem_zipIdx hy, ih (n + 1)⟩

theorem movesOf_pairwise (t : Track) (specs : List PosSpec) :
    (movesOf t specs).Pairwise fun m n => m.now < n.now := by
  rw [movesOf, List.pairwise_filterMap]
  refine (zipIdx_pairwise specs 0).imp fun {x y} hxy m hm n hn => ?_
  rw [moveOf_now hm, moveOf_now hn]
  exact hxy

/-- R112: the claims ended of one strip. -/
def Strip.plain (x : Strip) : Strip :=
  { x with units := x.units.map fun r => if r.state.isClaim then { r with state := .pending } else r }

/-- R112 step 1: the track with its claims ended. -/
def Track.unclaimed (t : Track) : Track := { t with bond := t.bond.map Strip.plain }

theorem State.endClaims_track (s : State) : s.endClaims.track = s.track.unclaimed := rfl

theorem State.endClaims_steady (s : State) : Steady s s.endClaims :=
  have bond := Steady.of_bond s (s.track.bond.map Strip.plain) (map_tag_map _ _ fun _ => rfl)
  bond.trans (.of_same rfl rfl rfl rfl)

theorem Track.unclaimed_find (t : Track) (i : Nat) :
    t.unclaimed.find i = (t.find i).map fun z => (if z.2 = 1 then z.1.plain else z.1, z.2) := by
  have placed : t.unclaimed.placed = t.placed.map fun z => (if z.2 = 1 then z.1.plain else z.1, z.2) := by
    simp only [Track.placed, Track.positions, Track.unclaimed]
    cases t.entry <;> cases t.bond <;> cases t.pull <;> cases t.exit <;> rfl
  have same : (fun y : Strip × Nat => y.1.id == i) ∘ (fun z : Strip × Nat =>
      (if z.2 = 1 then z.1.plain else z.1, z.2)) = fun y => y.1.id == i := by
    funext z
    simp only [Function.comp_apply]
    split <;> rfl
  rw [Track.find, placed, List.find?_map, same]
  rfl

theorem movesOf_unclaimed (t : Track) (specs : List PosSpec) :
    movesOf t.unclaimed specs = (movesOf t specs).map fun m =>
      ⟨if m.was = 1 then m.strip.plain else m.strip, m.was, m.now⟩ := by
  rw [movesOf, movesOf, List.map_filterMap]
  refine List.filterMap_congr fun y _ => ?_
  obtain ⟨p, k⟩ := y
  cases p with
  | empty => rfl
  | new => rfl
  | existing i => simp only [moveOf, Track.unclaimed_find, Option.map_map]; rfl

theorem Ascends.map {k : Nat} {l : List StripMove} (h : Ascends k l) (f : StripMove → StripMove)
    (hf : ∀ m, (f m).was = m.was ∧ (f m).now = m.now) : Ascends k (l.map f) := by
  induction l generalizing k with
  | nil => trivial
  | cons m l ih =>
    obtain ⟨hk, hn, lt, ahead, rest⟩ := h
    obtain ⟨hw, hnow⟩ := hf m
    refine ⟨by rw [hw]; exact hk, by rw [hw, hnow]; exact hn, by rw [hnow]; exact lt, fun n hm => ?_,
      by rw [hw]; exact ih rest⟩
    obtain ⟨o, ho, rfl⟩ := List.mem_map.mp hm
    rw [hnow, (hf o).2]
    exact ahead o ho

theorem Restatable.unclaimed {t : Track} {specs : List PosSpec} (h : Restatable t specs) :
    Restatable t.unclaimed specs := by
  refine ⟨h.four, fun i hi => ?_, fun i d f hi => ?_, h.ids, ?_⟩
  · rw [Track.unclaimed_find, Option.isSome_map]
    exact h.found i hi
  · rw [Track.unclaimed_find, h.fresh i d f hi]
    rfl
  · rw [movesOf_unclaimed]
    exact h.ascends.map _ fun _ => ⟨rfl, rfl⟩

theorem passed_of {p : Prop} [Decidable p] {r : Reason} {x : Option Reason}
    (h : (if p then some r else x) = none) : ¬p ∧ x = none := by
  split at h
  · cases h
  · next hp => exact ⟨hp, h⟩

/-- R111: a TRACK-SET that passes every check. -/
theorem restatable_of {s : State} {raw : List PosEntry} {w : Option Nat} (four : raw.length = 4)
    (h : trackSetReason s raw w = none) : s.track.known = false ∧ Restatable s.track (raw.filterMap posSpec) := by
  unfold trackSetReason at h
  extract_lets specs news old ids stood at h
  obtain ⟨h1, h⟩ := passed_of h
  obtain ⟨h2, h⟩ := passed_of h
  obtain ⟨-, h⟩ := passed_of h
  obtain ⟨-, h⟩ := passed_of h
  obtain ⟨-, h⟩ := passed_of h
  obtain ⟨h6, h⟩ := passed_of h
  obtain ⟨h7, -⟩ := passed_of h
  simp only [Bool.or_eq_true, not_or, Bool.not_eq_true, decide_eq_false_iff_not, Bool.not_eq_eq_eq_not,
    decide_eq_true_eq, Bool.not_true, Nat.not_lt] at h1 h2 h6 h7
  have moves : stood = (movesOf s.track specs).map fun m => (m.was, m.now) := by
    simp only [stood, old, movesOf, List.map_filterMap, List.filterMap_filterMap]
    refine List.filterMap_congr fun y _ => ?_
    obtain ⟨p, k⟩ := y
    cases p with
    | empty => rfl
    | new => rfl
    | existing i => simp [moveOf, Option.map_map, Function.comp_def]
  refine ⟨h1.1.1, ?_, fun i hi => ?_, fun i d f hi => ?_, ?_, ?_⟩
  · have := List.length_filterMap_le posSpec raw
    simp only [specs] at h2
    omega
  · have all := List.filterMap_length_eq_length.mp (Nat.le_antisymm (List.length_filterMap_le _ _) h6.1.1)
    obtain ⟨k, hk⟩ := List.mem_iff_getElem?.mp hi
    have listed : (i, k) ∈ old := List.mem_filterMap.mpr ⟨(.existing i, k), (zipIdx_mem _ _ _).mpr hk, rfl⟩
    simpa using all (i, k) listed
  · have listed : (i, d, f) ∈ news := List.mem_filterMap.mpr ⟨_, hi, rfl⟩
    have := h6.2
    rw [List.any_eq_false] at this
    simpa using this _ listed
  · exact not_not.mp h6.1.2
  · obtain ⟨ahead, was⟩ := h7
    rw [moves, List.map_map] at was
    rw [moves, List.any_map, List.any_eq_false] at ahead
    refine ascends_of ((Bool.not_eq_false _).mp was) (movesOf_pairwise _ _)
      (fun m hm => ⟨by simpa using ahead m hm, ?_⟩) fun _ _ => Nat.zero_le _
    obtain ⟨p, hp, -⟩ := movesOf_mem.mp hm
    have := (List.getElem?_eq_some_iff.mp hp).1
    have := List.length_filterMap_le posSpec raw
    omega

theorem State.setWindow_steady (s : State) (w : Option Nat) : Steady s (s.setWindow w) :=
  .of_bond s _ (map_tag_map _ _ fun _ => rfl)

theorem State.conditionsGone_steady (s : State) (f : AlarmEntry → Bool) : Steady s (s.conditionsGone f) :=
  .foldl (fun (s : State) (e : AlarmEntry) => s.conditionGone e.cls e.obj)
    (fun t e => t.conditionGone_steady e.cls e.obj) _ s

/-- R112 step 7, behind the steps of the strips. -/
theorem State.trackKnown_lane (s : State) (w : Option Nat) (tag : Byte) :
    ((((s.setWindow w).happens State.trackKnown).reply 7 tag .accepted).lane = { s.lane with known := true }) ∧
      ((((s.setWindow w).happens State.trackKnown).reply 7 tag .accepted).track.held.isSome = true →
        s.track.held.isSome = true) := by
  have known (t : State) : t.trackKnown.lane = { t.lane with known := true } ∧
      (t.trackKnown.track.held.isSome = true → t.track.held.isSome = true) := by
    have gone := State.conditionsGone_steady { t with track := { t.track with known := true } } fun e =>
      e.cls == .trackUnknown || e.cls == .jam
    exact ⟨gone.lane, gone.held⟩
  have window := s.setWindow_steady w
  obtain ⟨lane, held⟩ := known (s.setWindow w)
  have last := ((s.setWindow w).happens_steady State.trackKnown).trans
    (State.reply_steady ((s.setWindow w).happens State.trackKnown) 7 tag .accepted)
  exact ⟨by rw [last.lane, lane, window.lane], fun h => window.held (held (last.held h))⟩

theorem State.acceptTrackSet_tracked (s : State) (tag : Byte) (specs : List PosSpec) (w : Option Nat)
    (unknown : s.track.known = false) (h : Restatable s.track specs) :
    Tracked s (s.acceptTrackSet tag specs w) := by
  rw [State.acceptTrackSet_eq]
  extract_lets u v
  have ended : Steady s u := s.endClaims_steady.trans (s.happens_steady _)
  have track : u.track = s.track.unclaimed := State.happens_track _ _
  have restatable : Restatable u.track specs := track ▸ h.unclaimed
  have restates := u.restate_restates restatable
  obtain ⟨lane, held⟩ := (u.restate specs).trackKnown_lane w tag
  change v.lane = _ at lane
  change v.track.held.isSome = true → _ at held
  have requests (hs : TrackInv u) : u.track.inFlight = none ∧ u.track.held = none := by
    obtain ⟨-, hk, -⟩ := hs
    exact hk (by rw [track]; exact unknown)
  have sound (hs : TrackInv u) : u.lane.Sound false := by
    have := (trackInv_iff u).mp hs
    rwa [(requests hs).2] at this
  have known (hs : TrackInv u) : TrackInv v := by
    rw [trackInv_iff, lane]
    refine (restatable.sound (sound hs) (requests hs).1 restates).mono fun hh => ?_
    have := held hh
    rw [restates.track] at this
    have hn : u.track.held.isSome = true := this
    rw [(requests hs).2] at hn
    cases hn
  have pulls (hp : PullInv u) : PullInv v := by
    have hs := (pullInv_iff u).mp hp
    rw [pullInv_iff, lane]
    exact ⟨known hs.1, restatable.pulls (sound hs.1) hs.2 (requests hs.1).1 restates⟩
  have settled : Tracked u v := ⟨known, pulls⟩
  split
  · next arrives =>
    obtain ⟨starts, startsPull⟩ := v.startPull_tracked
    refine ended.tracked.trans ⟨starts ∘ known, fun hp => startsPull (pulls hp) ?_ ?_⟩
    · have hs := (pullInv_iff u).mp hp
      rw [show v.puller.current = (u.restate specs).puller.current from congrArg Lane.current lane]
      exact restatable.arrival_free (sound hs.1) hs.2 restates arrives
    · rw [show v.track.inFlight = (u.restate specs).track.inFlight from congrArg Lane.inFlight lane, restates.track]
      exact (requests hp.1).1
  · exact ended.tracked.trans settled

end Sys2Proof.Machine
end

section
/-! SUPPORT. The operations that leave strips and pulls, and that keep their invariants: heads, ports, alarms and
resets (chapters 2, 4, 8 and 10). -/

namespace Sys2Proof.Machine

/-! ## Alarms and heads -/

theorem State.acknowledge_steady (s : State) (e : AlarmEntry) : Steady s (s.acknowledge e) :=
  .of_frame (s.acknowledge_frame e) (by simp) (by simp)

theorem State.acknowledgeAll_steady (s : State) : Steady s s.acknowledgeAll :=
  .of_frame s.acknowledgeAll_frame (by simp) (by simp)

theorem State.keyAcknowledge_steady (s : State) : Steady s s.keyAcknowledge.1 := by
  unfold State.keyAcknowledge
  split
  · exact s.acknowledge_steady _
  · exact .refl s

theorem State.pauseHead_steady (s : State) (h : Head) (m : PauseMode) : Steady s (s.pauseHead h m) := by
  have asked : Steady s (s.updateHead h fun c => { c with pause := some m }) := s.updateHead_steady h _
  have added : Steady s ((s.updateHead h fun c => { c with pause := some m }).updateHead h HeadCtx.addOperator) :=
    asked.trans (State.updateHead_steady _ h _)
  unfold State.pauseHead
  cases m with
  | now => exact added.trans (State.abortCause_steady _ h)
  | afterBond => exact added
  | afterUnit => exact .ite added asked

theorem State.retryHead_steady (s : State) (h : Head) : Steady s (s.retryHead h) :=
  .of_frame (s.retryHead_frame h) (by simp) (by simp)

/-- Another management unit, terminal server, record store or table set. -/
theorem Steady.of_rest {s t : State} (ht : t.track = s.track) (hp : t.puller = s.puller) : Steady s t :=
  .of_same ht (by rw [hp]) (by rw [hp]) (by rw [hp])

theorem State.releasePull_steady (s : State) (h : Head) : Steady s (s.releasePull h) :=
  have run : Steady s { s with puller := s.puller.setRun h 0 } := by cases h <;> exact .of_same rfl rfl rfl rfl
  run.trans (State.conditionGone_steady _ _ _)

theorem State.startEfo_steady (s : State) (h : Head) (n : Nat) : Steady s (s.startEfo h n) := by
  unfold State.startEfo
  split
  · exact s.updateHead_steady h _
  · exact s.updateHead_steady h _
  · exact s.stray_steady h 1

theorem State.endEfo_steady (s : State) (h : Head) (n : Nat) : Steady s (s.endEfo h n) := by
  unfold State.endEfo
  extract_lets c d passed t
  split
  · have ended : Steady s t := s.setHead_steady h _
    split
    · exact ended.trans (t.conditionGone_steady _ _)
    · exact ended.trans (t.raise_steady _ _)
  · exact s.stray_steady h 1

theorem State.expireEfo_steady (s : State) (h : Head) : Steady s (s.expireEfo h) := by
  unfold State.expireEfo
  extract_lets c
  split
  · exact (s.setHead_steady h _).trans (State.raise_steady _ _ _)
  · exact .refl s

/-- R42: the loss of a head's port may close its bond. -/
theorem State.headPortLost_tracked (s : State) (h : Head) : Tracked s (s.headPortLost h) := by
  rw [State.headPortLost_eq]
  exact .ite ((s.updateHead_steady h _).tracked.trans (State.closeBond_tracked _ h _ _ _))
    (s.updateHead_steady h _).tracked

theorem State.rejectHeadUnit_tracked (s : State) (h : Head) : Tracked s (s.rejectHeadUnit h) := by
  unfold State.rejectHeadUnit
  split
  · exact (s.retryHead_steady h).tracked
  · extract_lets s1 s2 s3
    have rejected : Steady s s2 := (s.updateUnit_steady _ _).trans (s1.updateHead_steady h _)
    have freed : Steady s s3 := by
      simp only [s3]
      cases s2.track.bond with
      | none => exact rejected
      | some x => exact rejected.trans (State.releasePins_steady _ _)
    exact (freed.tracked.trans (s3.claimEnded_tracked h)).trans (State.retryHead_steady _ h).tracked

/-- R26, R27: an accepted BOND-START claims a unit. -/
theorem State.acceptBond_steady (s : State) (h : Head) (x : Strip) (u w : Nat) (k : BondKind) (p : Program) :
    Steady s (s.acceptBond h x u w k p) := by
  rw [State.acceptBond_eq]
  have claimed : Steady s { s with
      track := (s.updateUnit u (UnitRecord.claimedBy h (s.head h).claim.isNone)).track
      store := { s.store with nextRecord := nextInCycle s.store.nextRecord } } :=
    (s.updateUnit_steady u _).trans (.of_rest rfl rfl)
  have armed (t : State) (e : Engine) : Steady t (t.setEngine h e) :=
    .of_frame (t.setEngine_frame h e) (by cases h <;> simp [engineBlock]) (by cases h <;> simp [engineBlock])
  exact ((claimed.trans (State.setHead_steady _ h _)).trans (armed _ _)).trans (State.send_steady _ _ _)

/-! ## Ports and resets -/

theorem State.enterDown_tracked (s : State) (x : Port) (joined : Bool) : Tracked s (s.enterDown x joined) := by
  unfold State.enterDown
  split
  · exact .refl s
  · extract_lets t
    have down : Steady s t := s.updatePort_steady x _
    cases x with
    | u => exact (down.trans (.of_frame t.poisonCopies_frame (by simp) (by simp))).tracked
    | ha => exact down.tracked.trans (t.headPortLost_tracked .a)
    | hb => exact down.tracked.trans (t.headPortLost_tracked .b)
    | ix => exact (down.trans (t.refuseHeld_steady _)).tracked
    | pt => exact down.tracked
    | ot =>
      have left : Steady t { t with term := { t.term with screenQueued := 0 } } := .of_rest rfl rfl
      exact (down.trans left).tracked

theorem State.hold_tracked (s : State) : Tracked s s.hold := by
  have each (l : List Port) (t : State) :
      Tracked t (l.foldl (fun (s : State) x => s.enterDown x false) t) := by
    induction l generalizing t with
    | nil => exact .refl t
    | cons x l ih => exact (t.enterDown_tracked x false).trans (ih _)
  exact each allPorts s

theorem State.standDown_tracked (s : State) (x : Port) : Tracked s (s.standDown x).1 :=
  (s.updatePort_steady x _).tracked.trans (State.enterDown_tracked _ x true)

theorem State.toldQuiet_steady (s : State) (x : Port) : Steady s (s.toldQuiet x) :=
  .of_frame (s.toldQuiet_frame x) (by simp) (by simp)

theorem State.leaveDown_steady (s : State) (x : Port) : Steady s (s.leaveDown x) := by
  unfold State.leaveDown
  extract_lets t a u
  have woken : Steady s t := s.updatePort_steady x _
  have told : Steady s u := .ite (woken.trans (.of_rest rfl rfl)) woken
  exact told.trans (u.toldQuiet_steady x)

theorem State.tryLeaveDown_steady (s : State) (x : Port) : Steady s (s.tryLeaveDown x) :=
  .ite (s.leaveDown_steady x) (.refl s)

theorem State.headPortLive_steady (s : State) (h : Head) : Steady s (s.headPortLive h) :=
  (s.updateHead_steady h _).trans (.of_frame (State.headFaultCleared_frame _ h) (by simp) (by simp))

theorem State.enterLive_steady (s : State) (x : Port) : Steady s (s.enterLive x) := by
  unfold State.enterLive
  extract_lets t u v
  have woken : Steady s t := s.updatePort_steady x _
  have started : Steady s u := .ite (woken.trans (.of_frame t.startedOnce_frame (by simp) (by simp))) woken
  have begun : Steady s v := started.trans (u.updatePort_steady x _)
  cases x with
  | ha => exact begun.trans (v.headPortLive_steady .a)
  | hb => exact begun.trans (v.headPortLive_steady .b)
  | _ => exact begun

theorem State.judgeTraining_steady (s : State) (x : Port) (o : WakeOrigin) (l : List W32) :
    Steady s (s.judgeTraining x o l) :=
  .ite (s.enterLive_steady x) (.of_frame (s.wakeFailed_frame x o) (by simp) (by simp))

theorem State.countError_steady (s : State) (x : Port) (f : Counters → Counters) :
    Steady s (s.countError x f) := by
  unfold State.countError
  extract_lets t
  have counted : Steady s t := s.updatePort_steady x _
  exact .ite (counted.trans (t.raise_steady _ _)) counted

theorem State.failFrame_steady (s : State) (x : Port) (f : Counters → Counters) : Steady s (s.failFrame x f) :=
  Steady.trans (.of_frame (s.abandonFrame_frame x) (by simp) (by simp)) (State.countError_steady _ x f)

theorem State.cutOff_steady (s : State) (x : Port) : Steady s (s.cutOff x) := by
  unfold State.cutOff
  split
  · exact .refl s
  · exact .ite (.refl s) ((s.failFrame_steady x _).trans (State.updatePort_steady _ x _))

theorem State.receiveHeader_steady (s : State) (x : Port) (h : Header) : Steady s (s.receiveHeader x h) := by
  unfold State.receiveHeader
  split
  · exact .refl s
  · extract_lets t route u v
    have start : Steady s t := (s.cutOff_steady x).trans (State.updatePort_steady _ x _)
    have stored : Steady s u := start.trans (t.updatePort_steady x _)
    have routed : Steady s v := .ite (stored.trans (u.updatePort_steady x _)) stored
    exact .ite ((start.trans (t.updatePort_steady x _)).trans (State.countError_steady _ x _))
      (.ite (start.trans (t.updatePort_steady x _))
        (routed.trans (.foldl (fun (s : State) (y : Port) => s.send y (.arriving h))
          (fun t y => t.send_steady y _) _ v)))

theorem State.supervise_steady (s : State) : Steady s s.supervise :=
  have started (m : Mgmt) : Steady s { s with mgmt := m } := .of_rest rfl rfl
  (started _).trans (State.conditionGone_steady _ _ _)

theorem State.goodFrame_steady (s : State) (x : Port) (r : Receiving) (l : List Byte) :
    Steady s (s.goodFrame x r l) := by
  unfold State.goodFrame
  extract_lets t u
  have ended : Steady s t := s.updatePort_steady x _
  have supervised : Steady s u := .ite (ended.trans t.supervise_steady) ended
  cases r.fate with
  | stored => exact supervised.trans (u.updatePort_steady x _)
  | passing =>
    exact (supervised.trans (u.updatePort_steady x _)).trans
      (.of_frame (State.completeCopies_frame _ l) (by simp) (by simp))
  | dropped => exact supervised
  | overrun => exact supervised
  | passedOver => exact supervised

theorem State.receiveEnd_steady (s : State) (x : Port) (tail : List Bool) : Steady s (s.receiveEnd x tail) := by
  unfold State.receiveEnd
  split
  · exact .refl s
  · refine Steady.trans ?_ (State.updatePort_steady _ x _)
    split
    · exact s.countError_steady x _
    · next r _ =>
      refine .ite (s.updatePort_steady x _) ?_
      cases judgeTail r.hdr tail with
      | good l => exact s.goodFrame_steady x r l
      | overlong => exact s.failFrame_steady x _
      | framing => exact s.failFrame_steady x _
      | crc => exact s.failFrame_steady x _

theorem State.frameSent_steady (s : State) (x : Port) : Steady s (s.frameSent x) := by
  unfold State.frameSent
  extract_lets screen t
  have sent : Steady s t := s.updatePort_steady x _
  exact .ite (sent.trans (.of_rest rfl rfl)) sent

theorem State.judgeSupply_steady (s : State) : Steady s s.judgeSupply := by
  have set (t : State) (b : Bool) : Steady t (t.setSupplyLow b) := .of_rest rfl rfl
  exact .ite (.ite (.refl s) ((set s true).trans (State.raise_steady _ _ _)))
    (.ite (.ite ((set s false).trans (State.conditionGone_steady _ _ _)) (.refl s)) (.refl s))

/-- R182: a reset clears the track and the pull controller. -/
theorem State.takeReset_tracked (s : State) (x : Straps) (cause : ResetCause) (keep : Bool) :
    Tracked s (s.takeReset x cause keep) := by
  unfold State.takeReset
  extract_lets r t a u
  have judged : Steady r u := ((r.raise_steady _ _).trans (State.judgeSupply_steady _)).trans (.of_rest rfl rfl)
  have after : Tracked r _ := (judged.trans (u.tryLeaveDown_steady .u)).tracked
  have cleared : Steady State.reset r := ⟨by cases keep <;> rfl, by cases keep <;> nofun⟩
  have reset : PullInv r := by
    obtain ⟨-, -, -, -, -, initial, -⟩ := resetMeetsTheInvariants
    exact cleared.tracked.pulls initial
  exact ⟨fun _ => after.track reset.1, fun _ => after.pulls reset⟩

/-! ## Short frames, keys and turns -/

theorem State.shortFrame_steady (s : State) (x : Port) (f : Sys2Proof.Frame) : Steady s (s.shortFrame x f) := by
  have stray (h : Head) (b : Bool) :
      Steady s (if b then (s.stray h 1).send .u (.forwarded f) else s.stray h 1) :=
    .ite ((s.stray_steady h 1).trans (State.send_steady _ _ _)) (s.stray_steady h 1)
  unfold State.shortFrame
  cases x with
  | u => exact .ite (s.reply_steady _ _ _) (.refl s)
  | ha => simpa using stray .a (f.kind = Kind.event)
  | hb => simpa using stray .b (f.kind = Kind.event)
  | ix => exact s.send_steady _ _
  | pt => exact .of_same rfl rfl rfl rfl
  | ot => exact .of_frame (s.denyKey_frame _ _ _) (by simp) (by simp)

theorem State.takeShort_steady (s : State) (x : Port) (f : Sys2Proof.Frame) : Steady s (s.takeShort x f) :=
  ((s.updatePort_steady x _).trans (State.shortFrame_steady _ x f)).trans (State.markChanges_steady _ s)

theorem State.settleUpTo_steady (x : Port) (n : Nat) (s : State) : Steady s (State.settleUpTo x n s) := by
  induction n generalizing s with
  | zero => exact .refl s
  | succ n ih =>
    unfold State.settleUpTo
    split
    · exact .refl s
    · exact (s.takeShort_steady x _).trans (ih _)

theorem State.settle_steady (s : State) (x : Port) : Steady s (s.settle x) :=
  .ite (.refl s) (State.settleUpTo_steady x _ s)

theorem State.settleAll_steady (s : State) : Steady s s.settleAll :=
  .foldl State.settle State.settle_steady _ s

end Sys2Proof.Machine
end

section
/-! SUPPORT. Every command keeps the invariants of strips and pulls; the statements on them (R88, R98, R99, R103, R113,
R119 to R121, R128). -/

namespace Sys2Proof.Machine

/-! ## Turns, requests and keys -/

theorem State.turn_tracked (s : State) (x : Port) (c : Instr) (act : State → State) (ha : ∀ u, Tracked u (act u)) :
    Tracked s (s.turn x c act) :=
  .ite ((s.settle_steady x).tracked.trans (ha _)) (s.settle_steady x).tracked

theorem State.taken_tracked (s : State) (x : Port) (c : Instr) (body : State → State)
    (hb : ∀ u, Tracked u (body u)) : Tracked s (s.taken x c body) :=
  s.turn_tracked x c _ fun u =>
    ((u.takeRx_steady x c).tracked.trans (hb _)).trans (State.markChanges_steady _ u).tracked

theorem State.request_tracked (s : State) (c : Instr) (k t : Byte) (body : State → State × Reply)
    (hb : ∀ u, Tracked u (body u).1) : Tracked s (s.request c k t body) :=
  s.taken_tracked .u c _ fun u => (hb u).trans (State.reply_steady _ k t _).tracked

theorem State.controlOn_tracked {α : Type} (s : State) (c : Instr) (tag : Byte) (operand : Option α)
    (body : α → State → State × Reply) (hb : ∀ a u, Tracked u (body a u).1) :
    Tracked s (s.controlOn c tag operand body) := by
  unfold State.controlOn State.control
  refine s.request_tracked c 3 tag _ fun u => ?_
  cases operand with
  | none => exact .refl u
  | some a => exact hb a u

theorem State.happens_tracked (s : State) (body : State → State) (hb : Tracked s (body s)) :
    Tracked s (s.happens body) := hb.trans (State.markChanges_steady _ s).tracked

theorem State.takeKey_tracked {α : Type} (s : State) (level : Nat) (operand : Option α) (code x y : Byte)
    (body : α → State → State × KeyOutcome) (hb : ∀ a u, Tracked u (body a u).1) :
    Tracked s (s.takeKey level operand code x y body) := by
  have denied : Tracked s (s.denyKey code x y) :=
    (Steady.of_frame (s.denyKey_frame code x y) (by simp) (by simp)).tracked
  have begun : Steady s s.beginKey := .of_rest rfl rfl
  have ended (t : State) (o : KeyOutcome) : Steady t (t.endKey code x y o) := by cases o <;> exact .of_rest rfl rfl
  unfold State.takeKey
  split
  · exact denied
  · cases operand with
    | none => exact denied
    | some a => exact (begun.tracked.trans (hb a _)).trans (ended _ _).tracked

/-! ## Management requests -/

theorem State.tableRead_tracked (s : State) (c : Instr) (tag code index : Byte)
    (contents : State → Except Reason ReadContents) : Tracked s (s.tableRead c tag code index contents) := by
  refine s.taken_tracked .u c _ fun u => ?_
  split
  · exact (u.send_steady _ _).tracked
  · exact (u.send_steady _ _).tracked

theorem State.tableWrite_steady {α : Type} (s : State) (range used : Bool) (w : WriteOp α)
    (store : WriteOp α → Except Reason (Tables × Bool)) : Steady s (s.tableWrite range used w store).1 := by
  unfold State.tableWrite
  split
  · exact .refl s
  · split
    · exact .refl s
    · split
      · exact .refl s
      · exact .of_rest rfl rfl

theorem State.queueReply_steady (s : State) (f : Fetch) : Steady s (s.queueReply f) := by
  have told (m : Msg) (y : Store) : Steady s { s.send .u m with store := y } := .of_rest rfl rfl
  unfold State.queueReply
  cases f with
  | bond tag next remaining => exact told _ _
  | pull tag next remaining => exact told _ _
  | trace tag h record next frames =>
    exact .ite ((told _ _).trans (State.updateEngine_steady _ h _)) (told _ _)

theorem State.startFetch_steady (s : State) (tag : Byte) (ok : Bool) (count : Byte) (f : Fetch) :
    Steady s (s.startFetch tag ok count f) := .of_frame (s.startFetch_frame tag ok count f) (by simp) (by simp)

theorem State.resumeHead_steady (s : State) (h : Head) : Steady s (s.resumeHead h) := s.updateHead_steady h _

/-- R177: statistics that are cleared leave the pull. -/
theorem Puller.clearStats_same (p : Puller) (l : List Head) :
    let q := l.foldl (fun p h => p.setStats h PullStats.cleared) p
    q.current = p.current ∧ q.ordersQueued = p.ordersQueued ∧ q.timer = p.timer := by
  have one (q : Puller) (h : Head) : (q.setStats h PullStats.cleared).current = q.current ∧
      (q.setStats h PullStats.cleared).ordersQueued = q.ordersQueued ∧
      (q.setStats h PullStats.cleared).timer = q.timer := by cases h <;> exact ⟨rfl, rfl, rfl⟩
  induction l generalizing p with
  | nil => exact ⟨rfl, rfl, rfl⟩
  | cons h l ih =>
    obtain ⟨c1, o1, t1⟩ := one p h
    obtain ⟨c2, o2, t2⟩ := ih (p.setStats h PullStats.cleared)
    exact ⟨c2.trans c1, o2.trans o1, t2.trans t1⟩

/-! ## Every command -/

/-- What a command answers keeps the invariants of strips and pulls. -/
def AnswerTracked (s : State) (a : Answer) : Prop := ∀ t, a = .next t → Tracked s t

theorem AnswerTracked.next {s t : State} (h : Tracked s t) : AnswerTracked s (.next t) := fun u hu => by
  cases hu; exact h

theorem AnswerTracked.steady {s t : State} (h : Steady s t) : AnswerTracked s (.next t) := .next h.tracked

/-- A management request whose block leaves strips and pulls. -/
theorem AnswerTracked.request {s : State} {c : Instr} {k t : Byte} {body : State → State × Reply}
    (hb : ∀ u, Steady u (body u).1) : AnswerTracked s (.next (s.request c k t body)) :=
  .next (s.request_tracked c k t body fun u => (hb u).tracked)

/-- A CONTROL request whose block leaves strips and pulls. -/
theorem AnswerTracked.controlOn {α : Type} {s : State} {c : Instr} {t : Byte} {o : Option α}
    {body : α → State → State × Reply} (hb : ∀ a u, Steady u (body a u).1) :
    AnswerTracked s (.next (s.controlOn c t o body)) :=
  .next (s.controlOn_tracked c t o body fun a u => (hb a u).tracked)

/-- A frame whose block leaves strips and pulls. -/
theorem AnswerTracked.taken {s : State} {x : Port} {c : Instr} {body : State → State}
    (hb : ∀ u, Steady u (body u)) : AnswerTracked s (.next (s.taken x c body)) :=
  .next (s.taken_tracked x c body fun u => (hb u).tracked)

/-- A key whose block leaves strips and pulls. -/
theorem AnswerTracked.key {α : Type} {s : State} {c : Instr} {n : Nat} {o : Option α} {a b d : Byte}
    {body : α → State → State × KeyOutcome} (hb : ∀ x u, Steady u (body x u).1) :
    AnswerTracked s (.next (s.taken .ot c fun s => s.takeKey n o a b d body)) :=
  .next (s.taken_tracked .ot c _ fun u => u.takeKey_tracked n o a b d body fun x v => (hb x v).tracked)

/-- An event whose effect leaves strips and pulls. -/
theorem AnswerTracked.happens {s : State} {body : State → State} (hb : Steady s (body s)) :
    AnswerTracked s (.next (s.happens body)) := .next (s.happens_tracked body hb.tracked)

/-- Another value of the management unit alone. -/
theorem Steady.of_mgmt (s : State) (m : Mgmt) : Steady s { s with mgmt := m } := .of_rest rfl rfl

/-- Another value of the terminal server alone. -/
theorem Steady.of_term (s : State) (m : Terminal) : Steady s { s with term := m } := .of_rest rfl rfl

/-- Every command keeps the invariants of strips and pulls. -/
theorem exec_tracked (c : Instr) (s : State) : AnswerTracked s (exec c s) := by
  cases c with
  | powerOnReset x mv => exact .next ((Steady.of_mgmt s _).tracked.trans (State.takeReset_tracked _ _ _ _))
  | pinReset x =>
    exact .next ((Steady.of_mgmt s { s.mgmt with pinLow := false }).tracked.trans
      (.ite (.refl _) (State.takeReset_tracked _ _ _ _)))
  | supplyReset x mv => exact .next ((Steady.of_mgmt s _).tracked.trans (State.takeReset_tracked _ _ _ _))
  | resetPinLow => exact .next (s.happens_tracked _ ((Steady.of_mgmt s _).tracked.trans (State.hold_tracked _)))
  | supplyBelowResetLevel mv =>
    exact .next (s.happens_tracked _ ((Steady.of_mgmt s _).tracked.trans (State.hold_tracked _)))
  | supplyBelowRetentionLevel mv =>
    exact .next (s.happens_tracked _ ((Steady.of_mgmt s _).tracked.trans (State.hold_tracked _)))
  | supplyFallsBelowWarning mv =>
    exact .happens ((Steady.of_mgmt s { s.mgmt with supplyMv := mv.toNat }).trans (.ite (.refl _)
      ((Steady.of_mgmt _ _).trans (State.raise_steady _ _ _))))
  | supplyRisesAboveWarning mv =>
    exact .happens ((Steady.of_mgmt s { s.mgmt with supplyMv := mv.toNat }).trans (Steady.ite
      ((Steady.of_mgmt _ _).trans (State.conditionGone_steady _ _ _)) (.refl _)))
  | reset x => exact .next (s.turn_tracked .u _ _ fun u => u.takeReset_tracked _ _ _)
  | partTimeTick => exact .steady (Steady.of_mgmt s _)
  | supervisionTimerExpiry =>
    exact .next (.ite (s.happens_tracked _ ((Steady.of_mgmt s _).trans (State.raise_steady _ _ _)).tracked)
      (.refl s))
  | lineReady p => exact .happens ((s.updatePort_steady p _).trans (State.tryLeaveDown_steady _ p))
  | lineNotReady p =>
    exact .next (s.happens_tracked _ ((s.updatePort_steady p _).tracked.trans (State.enterDown_tracked _ p false)))
  | wakeTrainingReceived p l =>
    exact .next (.ite (s.happens_tracked _ (s.judgeTraining_steady p _ l).tracked) (.refl s))
  | wakeAnswerTimeout p =>
    exact .next (.ite (s.happens_tracked _
      (Steady.of_frame (s.wakeFailed_frame p _) (by simp) (by simp)).tracked) (.refl s))
  | farEndWake p l =>
    refine .next ?_
    split
    · exact (s.updatePort_steady p _).tracked
    · exact s.happens_tracked _ ((s.updatePort_steady p _).trans (State.judgeTraining_steady _ p _ _)).tracked
    · exact s.happens_tracked _ (s.judgeTraining_steady p _ _).tracked
    · exact (s.updatePort_steady p _).tracked
    · exact s.happens_tracked _ ((s.updatePort_steady p _).trans (State.judgeTraining_steady _ p _ _)).tracked
    · exact .refl s
    · exact .refl s
    · exact .refl s
  | wakeRetryTimerExpiry p => exact .steady (s.updatePort_steady p _)
  | sleepTimerExpiry p =>
    exact .steady (.ite ((s.updatePort_steady p _).trans (State.toldQuiet_steady _ p)) (.refl s))
  | frameHeaderReceived p h => exact .happens (s.receiveHeader_steady p h)
  | frameEndReceived p tail => exact .happens (s.receiveEnd_steady p tail)
  | holdOff p => exact .taken fun u => u.updatePort_steady p _
  | go p => exact .taken fun u => u.updatePort_steady p _
  | holdOffTimerExpiry p => exact .steady (s.updatePort_steady p _)
  | frameSent p => exact .steady (s.frameSent_steady p)
  | downstreamFrameForwarded p f =>
    exact .taken fun u => .ite (.refl u) (.ite (u.send_steady _ _) (u.updatePort_steady p _))
  | bondStart head strip unit wire kind =>
    refine .taken fun u => ?_
    dsimp only
    split
    · exact u.send_steady _ _
    · split
      · split
        · exact u.acceptBond_steady _ _ _ _ _ _
        · exact .refl u
      · exact .refl u
  | bondAbort head =>
    refine .taken fun u => ?_
    split
    · exact .refl u
    · exact u.abortCause_steady _
  | abortTimerExpiry h =>
    exact .next (.ite (s.happens_tracked _ (((s.closeBond_tracked h false false false).trans
      (State.raise_steady _ _ _).tracked).trans (State.updateHead_steady _ h _).tracked)) (.refl s))
  | touchdown h e z stamp =>
    refine .next (s.taken_tracked h.port _ _ fun u => Tracked.trans ?_ (State.forward_steady _ _).tracked)
    split
    · exact ((u.updateHead_steady h _).trans (State.updateEngine_steady _ h _)).tracked
    · exact (u.stray_steady h 1).tracked
  | lift h e =>
    refine .next (s.taken_tracked h.port _ _ fun u => Tracked.trans ?_ (State.forward_steady _ _).tracked)
    cases (u.head h).state with
    | armed => exact u.closeBond_tracked h _ _ _
    | inBond => exact u.closeBond_tracked h _ _ _
    | aborting => exact u.closeBond_tracked h _ _ _
    | offline => exact (u.stray_steady h 1).tracked
    | idle => exact (u.stray_steady h 1).tracked
    | hold => exact (u.stray_steady h 1).tracked
  | aborted h e =>
    exact .next (s.taken_tracked h.port _ _ fun u => (Tracked.ite (u.closeBond_tracked h _ _ _)
      (u.stray_steady h 1).tracked).trans (State.forward_steady _ _).tracked)
  | headFault h e code => exact .taken fun u => (u.raise_steady _ _).trans (State.forward_steady _ _)
  | strayEvent h e code => exact .taken fun u => (u.stray_steady h 1).trans (State.forward_steady _ _)
  | sample h stamp xs =>
    exact .taken fun u => .ite (u.stray_steady h 1)
      (.ite (u.stray_steady h _) (.ite (u.updateEngine_steady h _) (u.stray_steady h _)))
  | efoStart h e time => exact .taken fun u => (u.startEfo_steady h _).trans (State.forward_steady _ _)
  | efoEnd h e time => exact .taken fun u => (u.endEfo_steady h _).trans (State.forward_steady _ _)
  | efoTimerExpiry h => exact .happens (s.expireEfo_steady h)
  | indexStep skip =>
    refine .next (s.taken_tracked .u _ _ fun u => ?_)
    split
    · exact (u.send_steady _ _).tracked
    · next hr => exact u.stepChecks_tracked skip hr
  | indexTransfer skip =>
    refine .next (s.taken_tracked .u _ _ fun u => ?_)
    split
    · exact (u.send_steady _ _).tracked
    · next hr => exact u.transferChecks_tracked skip hr
  | holdTimerExpiry =>
    exact .next (.ite (s.happens_tracked _ ((s.refuseHeld_steady _).trans (State.raise_steady _ _ _)).tracked)
      (.refl s))
  | indexDoneStep e code i o =>
    refine .next (s.taken_tracked .ix _ _ fun u => Tracked.trans ?_ (State.forward_steady _ _).tracked)
    split
    · exact .refl u
    · exact .ite u.stepDone_tracked u.jam_tracked
  | indexDoneTransfer e i o =>
    refine .next (s.taken_tracked .ix _ _ fun u => ?_)
    split
    · exact (u.forward_steady _).tracked
    · next q hq =>
      split
      · exact u.jam_tracked.trans (State.forward_steady _ _).tracked
      · next ha => exact u.transferDone_tracked _ hq (transferAgrees_of (by simpa using ha))
  | completionTimerExpiry => exact .next (.ite (s.happens_tracked _ s.jam_tracked) (.refl s))
  | jam e position =>
    exact .next (s.taken_tracked .ix _ _ fun u => u.jam_tracked.trans (State.forward_steady _ _).tracked)
  | magInLoaded e count =>
    exact .next (s.taken_tracked .ix _ _ fun u => (Tracked.ite u.magInGone_tracked
      ((u.setMagIn_tracked (MagIn.loaded (min count.toNat 40)) _).trans
        (State.conditionGone_steady _ _ _).tracked)).trans (State.forward_steady _ _).tracked)
  | magInRemoved e =>
    exact .next (s.taken_tracked .ix _ _ fun u => u.magInGone_tracked.trans (State.forward_steady _ _).tracked)
  | magOutLoaded e count =>
    exact .next (s.taken_tracked .ix _ _ fun u => (Tracked.ite u.magOutGone_tracked
      (((u.setMagOut_tracked (MagOut.loaded (min count.toNat 40))).trans
        (State.conditionGone_steady _ _ _).tracked).trans (State.releaseGate_tracked _))).trans
      (State.forward_steady _ _).tracked)
  | magOutRemoved e =>
    exact .next (s.taken_tracked .ix _ _ fun u => u.magOutGone_tracked.trans (State.forward_steady _ _).tracked)
  | trackSet tag b =>
    refine .next (s.taken_tracked .u _ _ fun u => ?_)
    split
    · exact (u.send_steady _ _).tracked
    · next hr =>
      obtain ⟨unknown, restatable⟩ := restatable_of rfl hr
      exact u.acceptTrackSet_tracked tag _ _ unknown restatable
  | pullOrderQueued => exact .next (s.happens_tracked _ s.queueOrder_tracked)
  | pullResult e strip unit wire force mode =>
    exact .next (s.taken_tracked .pt _ _ fun u => (u.forward_steady _).tracked.trans
      (State.takeResult_tracked _ _ _ _ _ _))
  | pullAbort e strip =>
    exact .next (s.taken_tracked .pt _ _ fun u => (u.forward_steady _).tracked.trans (State.takePullAbort_tracked _ _))
  | pullStationTimerExpiry =>
    have late := Answers.of_puller s { s.puller with
      current := s.puller.current.map fun c => { c with timedOut := true } } rfl rfl
    exact .next (.ite (s.happens_tracked _ (((late.trans (State.giveNoResults_answers _)).trans
      (State.raise_steady _ _ _).answers).ends)) (.refl s))
  | screenFrameQueued =>
    refine .steady (.ite (.ite ?_ ?_) (.refl s))
    · exact (s.send_steady .ot _).trans (Steady.of_term _ _)
    · exact (s.send_steady .ot _).trans (Steady.of_term _ _)
  | refreshTimerExpiry => exact .steady (Steady.of_term s _)
  | keyPage page =>
    refine .key fun _ u => ?_
    split
    · exact Steady.of_term u _
    · exact .refl u
  | keyScrollUp => exact .key fun _ u => Steady.of_term u _
  | keyScrollDown => exact .key fun _ u => Steady.of_term u _
  | keyAck => exact .key fun _ u => u.keyAcknowledge_steady
  | keyPause head mode => exact .key fun x u => u.pauseHead_steady x.1 x.2
  | keyResume head => exact .key fun h u => u.resumeHead_steady h
  | keyRetry head => exact .key fun h u => u.retryHead_steady h
  | keyRejectUnit head =>
    refine .next (s.taken_tracked .ot _ _ fun u => u.takeKey_tracked _ _ _ _ _ _ fun h v => ?_)
    split
    · exact .refl v
    · exact v.rejectHeadUnit_tracked h
  | keyReleasePull head => exact .key fun h u => u.releasePull_steady h
  | keyUnknown code => exact .taken fun u => Steady.of_frame (u.denyKey_frame code 0 0) (by simp) (by simp)
  | terminalLevel tag level =>
    refine .request fun u => ?_
    split
    · exact .refl u
    · exact Steady.of_term u _
  | managementRequestRefused kind tag op => exact .request fun u => .refl u
  | alarmAck tag cls obj =>
    refine .request fun u => ?_
    split
    · split
      · next c o _ _ _ =>
        cases Alarms.find u.alarms.entries c o with
        | none => exact .refl u
        | some e => exact u.acknowledge_steady e
      · exact .refl u
    · exact .refl u
  | alarmAckAll tag => exact .request fun u => u.acknowledgeAll_steady
  | forceTest tag => exact .request fun u => u.raise_steady _ _
  | keepalive tag => exact .taken fun u => .refl u
  | tableWriteProgram tag index w =>
    exact .request fun u => u.tableWrite_steady _ _ w _
  | tableWriteDeviceType tag index w => exact .request fun u => u.tableWrite_steady _ _ w _
  | tableWriteMapLength tag index w =>
    exact .request fun u => u.tableWrite_steady _ _ w _
  | tableWriteMapEntries tag index w =>
    exact .request fun u => u.tableWrite_steady _ _ w _
  | tableWritePullPlan tag index w =>
    exact .request fun u => u.tableWrite_steady _ _ w _
  | tableWritePullLimits tag index w =>
    exact .request fun u => u.tableWrite_steady _ _ w _
  | tableWriteAction tag index w =>
    refine .request fun u => ?_
    split
    · exact .refl u
    · exact u.tableWrite_steady _ _ w _
  | tableWriteNode tag index w =>
    refine .request fun u => ?_
    split
    · exact .refl u
    · exact u.tableWrite_steady _ _ w _
  | tableWriteUnknownTable tag code => exact .request fun u => .refl u
  | tableReadProgram tag index => exact .next (s.tableRead_tracked _ _ _ _ _)
  | tableReadDeviceType tag index => exact .next (s.tableRead_tracked _ _ _ _ _)
  | tableReadMapLength tag index => exact .next (s.tableRead_tracked _ _ _ _ _)
  | tableReadMapEntries tag index first count => exact .next (s.tableRead_tracked _ _ _ _ _)
  | tableReadSummary tag => exact .next (s.tableRead_tracked _ _ _ _ _)
  | tableReadPullPlan tag index => exact .next (s.tableRead_tracked _ _ _ _ _)
  | tableReadPullLimits tag index => exact .next (s.tableRead_tracked _ _ _ _ _)
  | tableReadPullStatus tag => exact .next (s.tableRead_tracked _ _ _ _ _)
  | tableReadAction tag index => exact .next (s.tableRead_tracked _ _ _ _ _)
  | tableReadAlarmList tag index => exact .next (s.tableRead_tracked _ _ _ _ _)
  | tableReadNode tag index => exact .next (s.tableRead_tracked _ _ _ _ _)
  | tableReadPortStatus tag index => exact .next (s.tableRead_tracked _ _ _ _ _)
  | tableReadPartStatus tag => exact .next (s.tableRead_tracked _ _ _ _ _)
  | tableReadUnknownTable tag code => exact .next (s.tableRead_tracked _ _ _ _ _)
  | recordFetchBond tag first count => exact .taken fun u => u.startFetch_steady _ _ _ _
  | recordFetchTrace tag head first count => exact .taken fun u => u.startFetch_steady _ _ _ _
  | recordFetchPull tag first count => exact .taken fun u => u.startFetch_steady _ _ _ _
  | recordFetchUnknownStore tag store => exact .taken fun u => u.send_steady _ _
  | recordReplyQueued =>
    refine .next ?_
    split
    · exact .refl s
    · exact .ite (s.queueReply_steady _).tracked (.refl s)
  | controlRun tag =>
    refine .request fun u => ?_
    split
    · exact u.conditionGone_steady _ _
    · split
      · exact (Steady.of_mgmt u _).trans (State.conditionGone_steady _ _ _)
      · exact u.raise_steady _ _
  | controlConfig tag =>
    refine .request fun u => ?_
    split
    · exact .refl u
    · exact Steady.of_mgmt u _
  | controlSupervision tag steps => exact .request fun u => Steady.of_mgmt u _
  | controlSupplyLevel tag code =>
    exact .controlOn fun x u => (Steady.of_mgmt u _).trans (State.judgeSupply_steady _)
  | controlInputType tag device =>
    refine .request fun u => ?_
    dsimp only
    split
    · exact .refl u
    · split
      · exact .refl u
      · exact Steady.of_track u _ rfl rfl
  | controlIndexTimers tag hold done =>
    exact .request fun u => Steady.of_track u _ rfl rfl
  | controlMagStop tag slot on => exact .next (s.request_tracked _ _ _ _ fun u => u.setStop_tracked _ on)
  | controlPause tag head mode => exact .controlOn fun x u => u.pauseHead_steady x.1 x.2
  | controlResume tag head => exact .controlOn fun h u => u.resumeHead_steady h
  | controlRetry tag head => exact .controlOn fun h u => u.retryHead_steady h
  | controlRejectUnit tag head =>
    refine .next (s.controlOn_tracked _ _ _ _ fun h u => ?_)
    split
    · exact .refl u
    · exact u.rejectHeadUnit_tracked h
  | controlTraceCapture tag head on =>
    exact .controlOn fun h u => u.updateEngine_steady h fun e => { e with capture := on }
  | controlTraceRelease tag head => exact .controlOn fun h u => u.updateEngine_steady h Engine.release
  | controlClearResults tag head =>
    exact .controlOn fun l u => .foldl (fun (s : State) h => s.updateHead h HeadCtx.clearResults)
      (fun t h => t.updateHead_steady h _) l u
  | controlPullTimer tag seconds => exact .request fun u => .of_same rfl rfl rfl rfl
  | controlPullCancel tag =>
    refine .next (s.request_tracked _ _ _ _ fun u => ?_)
    split
    · exact u.giveNoResults_answers.ends
    · exact .refl u
  | controlClearPullStats tag head =>
    refine .controlOn fun l u => ?_
    obtain ⟨hc, ho, ht⟩ := u.puller.clearStats_same l
    dsimp only
    split
    · exact .of_same rfl hc ho ht
    · exact .of_same rfl hc ho ht
  | controlReleasePull tag head => exact .controlOn fun h u => u.releasePull_steady h
  | controlScreenRefresh tag steps => exact .request fun u => Steady.of_term u _
  | controlPortEnable tag port =>
    exact .controlOn fun x u => (u.updatePort_steady x _).trans (State.tryLeaveDown_steady _ x)
  | controlPortDisable tag port force =>
    refine .next (s.controlOn_tracked _ _ _ _ fun x u => ?_)
    have forced (r : Reply) : Tracked u (if force then u.standDown x else (u, r)).1 := by
      split
      · exact u.standDown_tracked x
      · exact .refl u
    split
    · exact u.standDown_tracked x
    · exact u.standDown_tracked x
    · exact forced _
    · exact forced _
    · exact forced _
  | controlPortRate tag port rate =>
    refine .controlOn fun y u => ?_
    split
    · exact u.updatePort_steady y.1 _
    · exact u.updatePort_steady y.1 _
    · exact .refl u
    · exact .refl u
  | controlLinkThreshold tag threshold => exact .request fun u => Steady.of_mgmt u _
  | controlClearCounters tag port =>
    exact .controlOn fun l u => (Steady.foldl (fun (s : State) x =>
      s.updatePort x fun p => { p with count := Counters.zero }) (fun t x => t.updatePort_steady x _) l u).trans
      (State.conditionsGone_steady _ _)


/-- Every step keeps the invariants of strips and pulls. -/
theorem step_tracked {s t : State} (h : step s = .next t) : Tracked s t := by
  unfold step at h
  split at h
  · cases h; exact s.settleAll_steady.tracked
  · next c rest _ =>
    have taken : Steady s { s with pending := rest } := .of_rest rfl rfl
    exact taken.tracked.trans (exec_tracked c _ t h)

/-! ## The statements -/

/-- Settles O8: every command keeps the strips, which move and are counted together. -/
theorem stepsConserveStrips : Obligations.StepsConserveStrips := by
  unfold Obligations.StepsConserveStrips
  exact fun _ _ hi h => (step_tracked h).track hi

/-- Settles O10: every command keeps pulls, the strip at PULL and the gate in agreement. -/
theorem stepsKeepPulls : Obligations.StepsKeepPulls := by
  unfold Obligations.StepsKeepPulls
  exact fun _ _ hi h => (step_tracked h).pulls hi

end Sys2Proof.Machine
end

section
/-! SUPPORT. Jams and the timers of index requests (R101, R109, R110). -/

namespace Sys2Proof.Machine

/-! ## Raises and the track -/

/-- R138: what a raise does to alarms, heads and terminal does not depend on the track and the ports. -/
theorem State.raise_of_lines (s : State) (d : Track) (p : Ports) (c : AlarmClass) (o : AlarmObject) :
    ({ s with track := d, ports := p } : State).raise c o = { s.raise c o with
      track := (({ s with track := d, ports := p } : State).raise c o).track
      ports := (({ s with track := d, ports := p } : State).raise c o).ports } := by
  rw [State.raise_eq, State.raise_eq]
  rfl

/-- R109 steps 3 and 4: JAM is raised and then TRACK-UNKNOWN. -/
def State.jamRaised (s : State) : State := (s.raise .jam .track).raise .trackUnknown .track

theorem State.jamRaised_of_lines (s : State) (d : Track) (p : Ports) :
    (({ s with track := d, ports := p } : State).jamRaised) = { s.jamRaised with
      track := ({ s with track := d, ports := p } : State).jamRaised.track
      ports := ({ s with track := d, ports := p } : State).jamRaised.ports } := by
  unfold State.jamRaised
  rw [State.raise_of_lines s d p]
  exact State.raise_of_lines (s.raise .jam .track) _ _ .trackUnknown .track

theorem State.jamRaised_track (s : State) (h : s.track.held = none) : s.jamRaised.track = s.track := by
  have once := s.raise_track_of_unheld .jam .track h
  exact (State.raise_track_of_unheld _ .trackUnknown .track (by rw [once]; exact h)).trans once

/-! ## A jam (R109) -/

/-- R102, R109: the state of a jam before its alarms, in the words of the statements. -/
theorem State.jammed_eq (s : State) : s.jammed = { s with
    track := { s.track with
      inFlight := none
      doneTimer := none
      known := false
      held := none
      holdTimer := if s.track.held.isSome then none else s.track.holdTimer }
    ports := s.track.held.elim s.ports fun q => s.ports.enqueue .u false (.indexRefused q.kind .unknown) } := by
  rw [State.jammed, State.refuseHeld_eq]
  rfl

theorem State.jam_track (s : State) : s.jam.track = s.jammed.track :=
  State.jamRaised_track s.jammed (by rw [s.jammed_eq])

/-- R109: the alarms and the heads of a jam are those of its two raises. -/
theorem State.jam_alarms (s : State) : s.jam.alarms = s.jamRaised.alarms ∧ s.jam.headA = s.jamRaised.headA ∧
    s.jam.headB = s.jamRaised.headB := by
  have raised : s.jam = s.jammed.jamRaised := s.jam_eq
  rw [raised, s.jammed_eq, State.jamRaised_of_lines]
  exact ⟨rfl, rfl, rfl⟩

theorem State.jam_strips (s : State) : s.jam.track.strips = s.track.strips ∧ s.jam.track.magIn = s.track.magIn ∧
    s.jam.track.magOut = s.track.magOut := by
  rw [s.jam_track, s.jammed_eq]
  exact ⟨rfl, rfl, rfl⟩

/-- R109: claims stay at a jam. -/
theorem State.jam_claim (s : State) (k : Head) : (s.jam.head k).claim = (s.head k).claim := by
  have begun : (s.jammed.head k) = s.head k := by
    rw [s.jammed_eq]
    cases k <;> rfl
  have raised : HeldOnly (s.head k) (s.jam.head k) :=
    begun ▸ (s.jammed.raise_heldOnly .jam .track k).trans (State.raise_heldOnly _ .trackUnknown .track k)
  rw [raised]

/-- R109: a jam, with what is queued behind it and what it marks. -/
theorem State.jam_jammed (s old : State) (behind : Ports → Ports) :
    Jammed behind s (({ s.jam with ports := behind s.jam.ports } : State).markChanges old) := by
  have raised : s.jam = s.jammed.jamRaised := s.jam_eq
  obtain ⟨alarms, headA, headB⟩ := s.jam_alarms
  refine ⟨?_, ?_, ?_, ?_, ?_, ?_, ?_⟩
  · rw [State.markChanges_track, ← congrArg State.track s.jammed_eq]
    exact s.jam_track
  · rw [State.markChanges_alarms]
    exact alarms
  · rw [State.markChanges_headA]
    exact headA
  · rw [State.markChanges_headB]
    exact headB
  · rw [State.markChanges_ports, ← s.jammed_eq]
    rfl
  · rw [← s.jammed_eq]
    exact State.markChanges_like _ old
  · exact (s.jam_frame.trans (by simp [Frame])).markChanges old

/-- R109: what a jam leaves besides its alarms, from `s` to `t`. -/
structure JamLeaves (s t : State) : Prop where
  strips : t.track.strips = s.track.strips
  magIn : t.track.magIn = s.track.magIn
  magOut : t.track.magOut = s.track.magOut
  claim : ∀ k, (t.head k).claim = (s.head k).claim
  frame : Frame raiseBlocks s t

/-- R109: a jam of the state `u`, which is `s` but for its ports. -/
theorem State.jam_leaves {s u : State} (old : State) (p : Ports) (track : u.track = s.track)
    (heads : ∀ k, u.head k = s.head k) (frame : Frame raiseBlocks s u) :
    JamLeaves s (({ u.jam with ports := p } : State).markChanges old) := by
  obtain ⟨strips, magIn, magOut⟩ := u.jam_strips
  rw [track] at strips magIn magOut
  refine ⟨?_, ?_, ?_, fun k => ?_, ?_⟩
  · rw [State.markChanges_track]
    exact strips
  · rw [State.markChanges_track]
    exact magIn
  · rw [State.markChanges_track]
    exact magOut
  · rw [State.markChanges_head, ← heads k, ← u.jam_claim k]
    cases k <;> rfl
  · exact ((frame.trans u.jam_frame).trans (by simp [Frame])).markChanges old

/-- R109: a frame of port IX that jams the track, and is forwarded. -/
theorem State.jamFrame {s : State} {c : Instr} {x : Port} {f : Sys2Proof.Frame} (hf : frameOf c = some (x, f)) :
    let t := (((s.takeRx .ix c).jam).forward c).markChanges s
    Jammed (fun p => p.enqueue .u false (.forwarded f)) (s.takeRx .ix c) t ∧ JamLeaves s t := by
  intro t
  have told : (s.takeRx .ix c).jam.forward c = { (s.takeRx .ix c).jam with
      ports := (s.takeRx .ix c).jam.ports.enqueue .u false (.forwarded f) } := State.forward_of _ hf
  simp only [t, told]
  exact ⟨State.jam_jammed (s.takeRx .ix c) s (fun p => p.enqueue .u false (.forwarded f)),
    State.jam_leaves s _ rfl (fun k => s.takeRx_head .ix c k) ((s.takeRx_frame .ix c).mono (by simp))⟩

/-! ## The hold timer (R101) -/

/-- R101: the held request `q` is refused TIMED-OUT. -/
theorem State.refuseHeld_held (s : State) (r : Reason) (q : HeldRequest) (hq : s.track.held = some q) :
    s.refuseHeld r = ({ s with track := { s.track with held := none, holdTimer := none } } : State).send .u
      (.indexRefused q.kind r) := by
  rw [State.refuseHeld_eq]
  simp [Track.dropHeld, hq, State.send]

/-- R101: the hold timer ends. -/
theorem State.holdExpires (s : State) (q : HeldRequest) (hq : s.track.held = some q) :
    let t := s.happens fun s => (s.refuseHeld .timedOut).raise .indexStall .track
    t.track = { s.track with held := none, holdTimer := none } ∧
      t.alarms = (s.raise .indexStall .track).alarms ∧ t.headA = (s.raise .indexStall .track).headA ∧
      t.headB = (s.raise .indexStall .track).headB ∧ Frame raiseBlocks s t ∧ ListTold s t ∧
      t.ports = ((({ s with track := { s.track with held := none, holdTimer := none } } : State).send .u
        (.indexRefused q.kind .timedOut)).raise .indexStall .track).ports := by
  intro t
  let u := ({ s with track := { s.track with held := none, holdTimer := none } } : State).send .u
    (.indexRefused q.kind .timedOut)
  have same : t = s.happens fun _ => u.raise .indexStall .track := by
    simp only [t, State.happens, s.refuseHeld_held .timedOut q hq, u]
  have raised := s.raise_of_lines u.track u.ports .indexStall .track
  change u.raise .indexStall .track = _ at raised
  have refused : Frame raiseBlocks s u := by simp [Frame, u, State.send]
  rw [same]
  refine ⟨?_, ?_, ?_, ?_, ?_, ?_, ?_⟩
  · rw [State.happens_track, u.raise_track_of_unheld _ _ rfl]
    rfl
  · rw [State.happens_alarms, raised]
  · rw [State.happens_headA, raised]
  · rw [State.happens_headB, raised]
  · exact s.happens_frame (fun _ => u.raise .indexStall .track) (refused.trans (u.raise_frame _ _))
  · exact (ListTold.of_term (u.raise_told _ _) rfl).markChanges s
  · rw [State.happens_ports]

/-- Settles O42: a jam is its two raises over the ended requests, and the hold timer a refusal with a raise. -/
theorem jamsAndIndexTimers : Obligations.JamsAndIndexTimers := by
  unfold Obligations.JamsAndIndexTimers
  intro e position s jammed c
  have leaves {behind : Ports → Ports} {u t : State} (l : JamLeaves s t) (j : Jammed behind u t) :
      jammed behind u t :=
    ⟨l.strips, l.magIn, l.magOut, l.claim .a, l.claim .b, l.frame, j⟩
  refine ⟨fun turn => ⟨_, rfl, ?_⟩, ⟨_, rfl, ?_⟩, ⟨_, rfl, ?_⟩⟩
  · have hf : frameOf c = some (.ix, ⟨e.dst, e.src, 0x26, position :: e.extra⟩) := rfl
    rw [s.taken_inTurn .ix c _ turn]
    obtain ⟨j, l⟩ := State.jamFrame (s := s) hf
    exact leaves l j
  · split
    · exact leaves (State.jam_leaves s s.jam.ports rfl (fun _ => rfl) (.refl _ s)) (s.jam_jammed s id)
    · rfl
  · split
    · next hd =>
      obtain ⟨q, hq⟩ := Option.isSome_iff_exists.mp hd.1
      obtain ⟨track, alarms, headA, headB, frame, told, ports⟩ := s.holdExpires q hq
      refine ⟨track, alarms, headA, headB, frame, told, fun r hr => ?_⟩
      obtain rfl : q = r := Option.some.inj (hq.symm.trans hr)
      rw [track]
      exact ports
    · rfl

end Sys2Proof.Machine
end

section
/-! SUPPORT. Alarms of states that agree in alarms, heads and terminal server, and the start of a pull as a whole (R119,
R120, R128). -/

namespace Sys2Proof.Machine

/-! ## Blocks that stay -/

section
variable {l : List Block} {s t : State} (h : Frame l s t)
include h

theorem Frame.store_eq (hl : Block.store ∉ l) : t.store = s.store := by
  obtain ⟨-, -, -, -, -, -, store, -⟩ := h
  exact store hl

theorem Frame.track_eq (hl : Block.track ∉ l) : t.track = s.track := by
  obtain ⟨-, -, -, -, -, -, -, track, -⟩ := h
  exact track hl

theorem Frame.tables_eq (hl : Block.tables ∉ l) : t.tables = s.tables := by
  obtain ⟨-, tables, -⟩ := h
  exact tables hl

theorem Frame.alarms_eq (hl : Block.alarms ∉ l) : t.alarms = s.alarms := by
  obtain ⟨-, -, -, -, -, -, -, -, -, alarms, -⟩ := h
  exact alarms hl

end

/-! ## Alarms, up to the changed-field set -/

theorem AlarmsAs.refl (s : State) : AlarmsAs s s := ⟨rfl, rfl, rfl, rfl⟩

theorem AlarmsAs.trans {s t u : State} (h : AlarmsAs s t) (k : AlarmsAs t u) : AlarmsAs s u := by
  obtain ⟨a, x, y, m⟩ := h
  obtain ⟨b, v, w, n⟩ := k
  refine ⟨b.trans a, v.trans x, w.trans y, ?_⟩
  rw [n, m]

theorem Like.alarmsAs {s t : State} (h : Like s t) : AlarmsAs s t := by
  rw [h]
  exact ⟨rfl, rfl, rfl, rfl⟩

/-- An operation that leaves alarms, heads and terminal server. -/
theorem AlarmsAs.of_frame {l : List Block} {s t : State} (h : Frame l s t) (ha : Block.headA ∉ l)
    (hb : Block.headB ∉ l) (hl : Block.alarms ∉ l) (ht : Block.term ∉ l) : AlarmsAs s t := by
  obtain ⟨-, -, a, b, -, -, -, -, -, alarms, term, -⟩ := h
  exact ⟨alarms hl, a ha, b hb, term ht⟩

theorem State.markChanges_alarmsAs (s old : State) : AlarmsAs s (s.markChanges old) :=
  (s.markChanges_like old).alarmsAs

/-- R151: what the telling of the list does to the terminal server. -/
theorem Terminal.listChanged_form (t : Terminal) (n : Nat) : t.listChanged n = { t with
    scroll := if n < t.scroll + 8 ∧ 0 < t.scroll then n - 8 else t.scroll
    changed := (t.listChanged n).changed } := by
  have mark (u : Terminal) (p : Nat) (f : List Nat) : u.mark p f = { u with changed := (u.mark p f).changed } := by
    unfold Terminal.mark
    split <;> rfl
  unfold Terminal.listChanged
  extract_lets u
  have scrolled : u = { t with scroll := if n < t.scroll + 8 ∧ 0 < t.scroll then n - 8 else t.scroll } := by
    simp only [u]
    split <;> rfl
  rw [mark (u.mark 1 _) 0 _, mark u 1 _, scrolled]

theorem Terminal.listChanged_like {t u : Terminal} (h : u = { t with changed := u.changed }) (n : Nat) :
    u.listChanged n = { t.listChanged n with changed := (u.listChanged n).changed } := by
  generalize u.changed = l at h
  subst h
  rw [Terminal.listChanged_form { t with changed := l } n, t.listChanged_form n]

/-- R138, R139: a raise, where alarms, heads and terminal server agree. -/
theorem AlarmsAs.raise {s t : State} (h : AlarmsAs s t) (tables : t.tables = s.tables) (c : AlarmClass)
    (o : AlarmObject) : AlarmsAs (s.raise c o) (t.raise c o) := by
  obtain ⟨a, x, y, m⟩ := h
  have action : t.actionEntry c = s.actionEntry c := by unfold State.actionEntry; rw [tables]
  have stops : t.stops c o = s.stops c o := by unfold State.stops; rw [a, action]
  rw [State.raise_eq, State.raise_eq]
  dsimp only
  rw [a, x, y, action, stops]
  exact ⟨rfl, rfl, rfl, Terminal.listChanged_like m _⟩

/-- R140: the end of a condition, where alarms, heads and terminal server agree. -/
theorem AlarmsAs.conditionGone {s t : State} (h : AlarmsAs s t) (c : AlarmClass) (o : AlarmObject) :
    AlarmsAs (s.conditionGone c o) (t.conditionGone c o) := by
  obtain ⟨a, x, y, m⟩ := h
  rw [State.conditionGone_eq, State.conditionGone_eq]
  dsimp only
  rw [a, x, y]
  refine ⟨rfl, rfl, rfl, ?_⟩
  cases (s.alarms.over c o).2 with
  | none => exact m
  | some n => exact Terminal.listChanged_like m _

/-! ## The end of a pull (R128) -/

/-- R128: the strip at PULL once its pull has ended or begun. -/
def Track.repulled (t : Track) (x : PullState) : Track :=
  { t with pull := t.pull.map fun y => { y with pullState := x } }

theorem State.releaseGate_of_unheld (s : State) (h : s.track.held = none) : s.releaseGate = s := by
  unfold State.releaseGate
  rw [h]

/-- R128: a pull in time that ends, with no request held. -/
theorem State.endPull_unheld (s : State) (h : s.track.held = none)
    (late : s.puller.current.elim false (fun c => c.timedOut) = false) :
    s.endPull = { s.conditionGone .pullTimeout .pullStation with
      track := s.track.repulled .complete
      puller := { s.puller with timer := none, current := none } } := by
  unfold State.endPull
  extract_lets timedOut a s1 s2 s3
  have gone : s3 = { s.conditionGone .pullTimeout .pullStation with
      track := s.track.repulled .complete
      puller := { s.puller with timer := none, current := none } } := by
    simp only [s3, timedOut, late, Bool.false_eq_true, if_false]
    rw [State.conditionGone_eq, State.conditionGone_eq]
    rfl
  rw [s3.releaseGate_of_unheld (by rw [gone]; exact h), gone]

/-! ## The start of a pull (R119, R120) -/

theorem State.startPull_none (s : State) (h : ∀ x ∈ s.track.pull, x.pullDue = false) : s.startPull = s := by
  unfold State.startPull
  split
  · rfl
  · next x hx => rw [if_neg (by rw [h x hx]; simp)]

/-- R119: the records once the pins of the units of `x` that are not DONE are released. -/
def unpinPull (x : Strip) (l : List BondRecord) : List BondRecord := l.map fun r =>
  if r.strip == x.id && !((x.units[r.unit]?).elim false fun y => y.state == .done) then { r with pinned := false }
  else r

/-- R119, R120, R128: what the start of the pull of the strip `x` leaves, from `s` to `t`. -/
structure PullStarts (x : Strip) (s t : State) : Prop where
  track : t.track = { s.track with
    pull := some { x with pullState := if (s.pullOf x).tasks = [] then .complete else .waiting } }
  store : t.store = { s.store with records := unpinPull x s.store.records }
  puller : t.puller = if (s.pullOf x).tasks = [] then
      { s.puller with current := none, timer := none, ordersQueued := 0 }
    else { s.puller with current := some (s.pullOf x), ordersQueued := 0 }
  alarms : AlarmsAs (if (s.pullOf x).tasks = [] then s.conditionGone .pullTimeout .pullStation else s) t
  ports : t.ports = if (s.pullOf x).tasks = [] then (s.conditionGone .pullTimeout .pullStation).ports
    else s.ports.update .pt PortRec.askWake
  frame : Frame pullBlocks s t

/-- R140: the notes of a condition that is gone. -/
theorem State.conditionGone_ports_of {s t : State} (ha : t.alarms = s.alarms) (hp : t.ports = s.ports)
    (hm : t.mgmt = s.mgmt) (c : AlarmClass) (o : AlarmObject) :
    (t.conditionGone c o).ports = (s.conditionGone c o).ports := by
  rw [State.conditionGone_eq, State.conditionGone_eq]
  dsimp only
  rw [ha, hp, hm]

/-- R119: the state once the strip `x` has become the current pull, where `old` is marked against. -/
structure PullTaken (x : Strip) (s u : State) : Prop where
  track : u.track = s.track
  store : u.store = { s.store with records := unpinPull x s.store.records }
  puller : u.puller = { s.puller with current := some (s.pullOf x), ordersQueued := 0 }
  alarms : AlarmsAs s u
  ports : u.ports = s.ports
  mgmt : u.mgmt = s.mgmt

theorem State.takePull_taken (s : State) (x : Strip) : PullTaken x s (s.happens fun s => s.takePull x) := by
  have begun : AlarmsAs s (s.takePull x) := ⟨rfl, rfl, rfl, rfl⟩
  exact ⟨by simp [State.takePull], by simp [State.takePull, State.releasePins, unpinPull],
    by rw [State.happens_puller]; rfl, begun.trans (State.markChanges_alarmsAs _ s),
    by simp [State.takePull], by simp [State.takePull]⟩

/-- R119 step 4: a pull without a task is COMPLETE at once. -/
theorem PullTaken.completes {x : Strip} {s u : State} (h : PullTaken x s u) (unheld : s.track.held = none)
    (ht : (s.pullOf x).tasks = []) : u.openPull = { u.conditionGone .pullTimeout .pullStation with
      track := s.track.repulled .complete
      puller := { s.puller with timer := none, current := none, ordersQueued := 0 } } := by
  have current : u.puller.current = some (s.pullOf x) := by rw [h.puller]
  rw [u.openPull_ends _ current ht, u.endPull_unheld (by rw [h.track]; exact unheld) (by rw [current]; rfl), h.track,
    h.puller]

/-- R119 step 4, R120: a pull with a task waits, and a QUIET port PT is asked for a wake. -/
theorem PullTaken.waits {x : Strip} {s u : State} (h : PullTaken x s u) (hx : s.track.pull = some x)
    (ht : (s.pullOf x).tasks ≠ []) : u.openPull = { u with
      track := s.track.repulled .waiting
      ports := s.ports.update .pt PortRec.askWake } := by
  have current : u.puller.current = some (s.pullOf x) := by rw [h.puller]
  have some_task : ¬(u.puller.current.elim true fun c => c.tasks.isEmpty) = true := by simpa [current] using ht
  rw [State.openPull, if_neg some_task, State.pullWake, if_pos]
  · simp [State.updatePort, State.updatePullStrip, h.track, h.ports, Track.repulled]
  · simp [State.updatePullStrip, State.pullState, h.track, hx, current]

theorem State.startPull_due (s : State) (x : Strip) (hx : s.track.pull = some x) (due : x.pullDue = true)
    (unheld : s.track.held = none) : PullStarts x s s.startPull := by
  have starts : s.startPull = (s.happens fun s => s.takePull x).happens State.openPull := by
    unfold State.startPull
    rw [hx]
    exact if_pos due
  have frame := s.startPull_frame
  have taken := s.takePull_taken x
  rw [starts] at frame ⊢
  generalize (s.happens fun s => s.takePull x) = u at frame taken
  have placed (y : PullState) : s.track.repulled y = { s.track with pull := some { x with pullState := y } } := by
    rw [Track.repulled, hx]
    rfl
  obtain ⟨track, store, puller, alarms, ports, mgmt⟩ := taken
  have taken : PullTaken x s u := ⟨track, store, puller, alarms, ports, mgmt⟩
  by_cases ht : (s.pullOf x).tasks = []
  · have completes := taken.completes unheld ht
    have gone := alarms.conditionGone .pullTimeout .pullStation
    refine ⟨?_, ?_, ?_, ?_, ?_, frame⟩
    · rw [State.happens_track, completes, placed, if_pos ht]
    · rw [State.happens_store, completes, ← store]
      exact (u.conditionGone_frame _ _).store_eq (by simp)
    · rw [State.happens_puller, completes, if_pos ht]
    · rw [if_pos ht]
      refine gone.trans ?_
      have ended : AlarmsAs (u.conditionGone .pullTimeout .pullStation) u.openPull := by
        rw [completes]
        exact ⟨rfl, rfl, rfl, rfl⟩
      exact ended.trans (State.markChanges_alarmsAs _ u)
    · rw [State.happens_ports, completes, if_pos ht]
      exact State.conditionGone_ports_of alarms.1 ports mgmt _ _
  · have waits := taken.waits hx ht
    refine ⟨?_, ?_, ?_, ?_, ?_, frame⟩
    · rw [State.happens_track, waits, placed, if_neg ht]
    · rw [State.happens_store, waits]
      exact store
    · rw [State.happens_puller, waits, if_neg ht]
      exact puller
    · rw [if_neg ht]
      refine alarms.trans ?_
      have ended : AlarmsAs u u.openPull := by
        rw [waits]
        exact ⟨rfl, rfl, rfl, rfl⟩
      exact ended.trans (State.markChanges_alarmsAs _ u)
    · rw [State.happens_ports, waits, if_neg ht]

/-- R119: the start of a pull moves no request. -/
theorem State.startPull_requests (s : State) (unheld : s.track.held = none) :
    s.startPull.track = { s.track with pull := s.startPull.track.pull } := by
  by_cases due : ∀ x ∈ s.track.pull, x.pullDue = false
  · rw [s.startPull_none due]
  · simp only [not_forall, Bool.not_eq_false] at due
    obtain ⟨x, hx, due⟩ := due
    rw [(s.startPull_due x hx due unheld).track]

end Sys2Proof.Machine
end

section
/-! SUPPORT. INDEX-DONE: what agrees, and what is a jam (R104 to R106). -/

namespace Sys2Proof.Machine

/-- R106: the slots that an INDEX-DONE TRANSFER reports agree with the request in flight. -/
def slotsAgree (t : Track) (i o : Byte) : Bool := t.inFlight.any fun q => q.kind == .transfer &&
  (i == 0 || q.inSlot == some i.toNat && !q.inChanged) &&
  (q.outSlot == none && o == 0 || o != 0 && !q.outChanged && o.toNat ≤ t.magOut.count &&
    q.outSlot.any fun k => k ≤ o.toNat)

/-- R106: no strip on the track has the id of the strip reported. -/
def idFresh (t : Track) (i : Byte) : Bool :=
  i == 0 || t.strips.all fun x => x.id != t.loadCount % 1024 * 64 + i.toNat

/-- R103: a slot byte of 0 names no slot. -/
theorem slotOf_all (b : Byte) (p : Nat → Bool) : (b == 0 || p b.toNat) = (slotOf b).all p := by
  unfold slotOf
  split
  · next h => simp [h]
  · next h => rw [beq_eq_false_iff_ne.mpr h, Bool.false_or, Option.all_some]

theorem slotOf_any (b : Byte) (p : Nat → Bool) : (b != 0 && p b.toNat) = (slotOf b).any p := by
  unfold slotOf
  split
  · next h => simp [h]
  · next h => rw [bne, beq_eq_false_iff_ne.mpr h, Bool.not_false, Bool.true_and, Option.any_some]

theorem slotOf_isNone (b : Byte) : (b == 0) = (slotOf b).isNone := by
  have := slotOf_all b fun _ => false
  rw [Bool.or_false] at this
  rw [this]
  cases slotOf b <;> rfl

/-- R106: the agreement of the slots, over the slots that are named. -/
theorem slotsAgree_eq (t : Track) (i o : Byte) : slotsAgree t i o = t.inFlight.any fun q =>
    q.kind == .transfer && (slotOf i).all (fun k => q.inSlot == some k && !q.inChanged) &&
      (q.outSlot == none && (slotOf o).isNone || (slotOf o).any fun r =>
        !q.outChanged && decide (r ≤ t.magOut.count) && q.outSlot.any fun k => decide (k ≤ r)) := by
  unfold slotsAgree
  simp only [← slotOf_all, ← slotOf_any, ← slotOf_isNone, Bool.and_assoc]

/-- R106: the reported input slot is not the ordered one. -/
def inputDiffers : Option Nat → Option Nat → Bool
  | _, none => false
  | none, some _ => true
  | some k, some x => k != x

/-- R106: the reported output slot is not the ordered one or a later one of the magazine. -/
def outputDiffers (count : Nat) : Option Nat → Option Nat → Bool
  | none, none => false
  | some k, some r => !(k ≤ r && r ≤ count)
  | _, _ => true

theorem transferMismatch_parts (t : Track) (q : FlightRequest) (a b : Option Nat) : transferMismatch t q a b =
    (q.kind != .transfer || inputDiffers q.inSlot a || (q.inChanged && a.isSome) ||
      outputDiffers t.magOut.count q.outSlot b || (q.outChanged && q.outSlot.isSome) ||
      a.any fun k => t.strips.any fun x => x.id == t.stripId k) := by
  cases a <;> rfl

theorem input_agrees (q : FlightRequest) (a : Option Nat) :
    (inputDiffers q.inSlot a || (q.inChanged && a.isSome)) = !(a.all fun k => q.inSlot == some k && !q.inChanged) := by
  cases a with
  | none => simp [inputDiffers]
  | some k => cases hs : q.inSlot <;> simp [inputDiffers, bne]

theorem output_agrees (q : FlightRequest) (count : Nat) (b : Option Nat) :
    (outputDiffers count q.outSlot b || (q.outChanged && q.outSlot.isSome)) =
      !(q.outSlot == none && b.isNone || b.any fun r =>
        !q.outChanged && decide (r ≤ count) && q.outSlot.any fun k => decide (k ≤ r)) := by
  cases b with
  | none => cases hs : q.outSlot <;> simp [outputDiffers]
  | some r =>
    cases hs : q.outSlot with
    | none => simp [outputDiffers]
    | some k =>
      simp only [outputDiffers, Option.any_some, Option.isSome_some, Option.isNone_some, Bool.and_false,
        Bool.false_or, Bool.and_true]
      cases decide (k ≤ r) <;> cases decide (r ≤ count) <;> cases q.outChanged <;> rfl

/-- R106: an INDEX-DONE TRANSFER agrees with the request in flight where its slots do and its strip is new. -/
theorem transferMismatch_eq {t : Track} {q : FlightRequest} (hq : t.inFlight = some q) (i o : Byte) :
    transferMismatch t q (slotOf i) (slotOf o) = !(slotsAgree t i o && idFresh t i) := by
  have fresh : idFresh t i = (slotOf i).all fun k => t.strips.all fun x => x.id != t.stripId k := by
    unfold idFresh
    exact slotOf_all i fun k => t.strips.all fun x => x.id != t.stripId k
  have input := input_agrees q (slotOf i)
  have output := output_agrees q t.magOut.count (slotOf o)
  have stale : ((slotOf i).any fun k => t.strips.any fun x => x.id == t.stripId k) = !idFresh t i := by
    rw [fresh]
    cases slotOf i <;> simp [bne, List.any_eq_not_all_not]
  rw [transferMismatch_parts, slotsAgree_eq, hq, Option.any_some, stale, Bool.or_assoc (q.kind != .transfer), input,
    Bool.or_assoc _ (outputDiffers _ _ _), output]
  simp only [bne, Bool.not_and]

/-! ## The statement -/

/-- R104, R105: an INDEX-DONE STEP in its turn. -/
theorem indexDoneStep_judged (e : Envelope) (code i o : Byte) (s : State)
    (turn : s.inTurn .ix (.indexDoneStep e code i o) = true) :
    let f : Sys2Proof.Frame := ⟨e.dst, e.src, 0x22, [code, i, o] ++ e.extra⟩
    let u := s.takeRx .ix (.indexDoneStep e code i o)
    ∃ t, exec (.indexDoneStep e code i o) s = .next t ∧
      (s.track.inFlight = none → t = (u.send .u (.forwarded f)).markChanges s) ∧
      ∀ q ∈ s.track.inFlight,
        if q.kind = .step ∧ code = 0 then t = (u.stepDone.send .u (.forwarded f)).markChanges s
        else t = (u.jam.forward (.indexDoneStep e code i o)).markChanges s := by
  intro f u
  have hf : frameOf (.indexDoneStep e code i o) = some (.ix, f) := rfl
  have track : u.track = s.track := rfl
  refine ⟨_, rfl, fun hn => ?_, fun q hq => ?_⟩
  · rw [s.taken_inTurn .ix _ _ turn, track, hn, State.forward_of _ hf]
  · rw [s.taken_inTurn .ix _ _ turn, track, hq]
    dsimp only
    split
    · rw [State.forward_of _ hf]
    · rfl

/-- R108: a TRANSFER that agrees has ended, with no request held, where a pull may have started. -/
theorem State.transferDone_track (s : State) (c : Instr) (q : FlightRequest) (i o : Option Nat)
    (unheld : s.track.held = none) : (s.transferDone c q i o).track =
      { s.track.transferred s.tables q i o with pull := (s.transferDone c q i o).track.pull } := by
  have moved := s.transferMoved_track c q i o unheld
  have held : (s.transferMoved c q i o).track.held = none := by
    rw [moved, (Track.transferred_requests _ _ _ _ _).1, unheld]
  rw [s.transferDone_eq, State.startPull_requests _ held, moved]

theorem Track.transferred_same (t : Track) (T : Tables) (q : FlightRequest) (i o : Option Nat) :
    (t.transferred T q i o).doneTimer = none ∧ (t.transferred T q i o).known = t.known := by
  have draws (u : Track) (k : Nat) : (u.draws T i k).doneTimer = u.doneTimer ∧ (u.draws T i k).known = u.known := by
    unfold Track.draws
    dsimp only
    split <;> exact ⟨rfl, rfl⟩
  have reported : (({ t with inFlight := none, doneTimer := none } : Track).reported o).doneTimer = none ∧
      (({ t with inFlight := none, doneTimer := none } : Track).reported o).known = t.known := by
    unfold Track.reported
    cases o with
    | none => exact ⟨rfl, rfl⟩
    | some r => cases t.exit <;> exact ⟨rfl, rfl⟩
  unfold Track.transferred
  cases q.drawn with
  | none => exact reported
  | some k => exact ⟨(draws _ k).1.trans reported.1, (draws _ k).2.trans reported.2⟩

/-- R104, R106, R107: an INDEX-DONE TRANSFER in its turn. -/
theorem indexDoneTransfer_judged (e : Envelope) (i o : Byte) (s : State)
    (turn : s.inTurn .ix (.indexDoneTransfer e i o) = true) :
    let c : Instr := .indexDoneTransfer e i o
    let u := s.takeRx .ix c
    ∃ t, exec c s = .next t ∧
      (s.track.inFlight = none →
        t = (u.send .u (.forwarded ⟨e.dst, e.src, 0x22, [1, i, o] ++ e.extra⟩)).markChanges s) ∧
      ∀ q ∈ s.track.inFlight,
        if (slotsAgree s.track i o && idFresh s.track i) = true then
          t = (u.transferDone c q (slotOf i) (slotOf o)).markChanges s
        else t = (u.jam.forward c).markChanges s := by
  intro c u
  have hf : frameOf c = some (.ix, ⟨e.dst, e.src, 0x22, [1, i, o] ++ e.extra⟩) := rfl
  have track : u.track = s.track := rfl
  refine ⟨_, rfl, fun hn => ?_, fun q hq => ?_⟩
  · rw [s.taken_inTurn .ix _ _ turn, track, hn, State.forward_of _ hf]
  · rw [s.taken_inTurn .ix _ _ turn, track, hq]
    dsimp only
    rw [transferMismatch_eq hq]
    split
    · next ha => rw [ha]; rfl
    · next ha => rw [(Bool.not_eq_true _).mp ha]; rfl

/-- Settles O40: an agreeing STEP ends its request, and what disagrees jams. -/
theorem indexDoneIsJudged : Obligations.IndexDoneIsJudged := by
  unfold Obligations.IndexDoneIsJudged
  intro e code i o s alone stepDone transferDone step slots fresh jammed passedOn
  have jam {c : Instr} {payload : List Byte}
      (hf : frameOf c = some (.ix, ⟨e.dst, e.src, 0x22, payload ++ e.extra⟩)) :
      jammed c payload (((s.takeRx .ix c).jam.forward c).markChanges s) := by
    obtain ⟨j, l⟩ := State.jamFrame (s := s) hf
    exact ⟨l.strips, l.frame, j⟩
  have passed (c : Instr) (payload : List Byte) :
      let t := ((s.takeRx .ix c).send .u (.forwarded ⟨e.dst, e.src, 0x22, payload ++ e.extra⟩)).markChanges s
      Frame [.ports] s t ∧ passedOn c payload t :=
    ⟨((s.takeRx_frame _ _).trans (State.send_frame _ _ _)).markChanges s, State.markChanges_ports _ _⟩
  refine ⟨fun turn => ?_, fun turn => ?_⟩
  · obtain ⟨t, hx, idle, flying⟩ := indexDoneStep_judged e code i o s turn
    refine ⟨t, hx, ?_⟩
    split
    · next hn => exact idle hn ▸ passed stepDone [code, i, o]
    · next hn =>
      obtain ⟨q, hq⟩ := Option.ne_none_iff_exists'.mp hn
      have flying := flying q hq
      have kind : step = true ∧ code = 0 ↔ q.kind = .step ∧ code = 0 := by simp [step, hq]
      by_cases hs : q.kind = .step ∧ code = 0
      · rw [if_pos hs] at flying
        rw [if_pos (kind.mpr hs), flying]
        refine ⟨?_, State.markChanges_ports _ _, State.markChanges_track _ _⟩
        have done : Frame [.track, .ports] (s.takeRx .ix stepDone) (s.takeRx .ix stepDone).stepDone := by
          simp [Frame, State.stepDone]
        exact ((((s.takeRx_frame _ _).mono (by simp)).trans done).trans
          ((State.send_frame _ _ _).mono (by simp))).markChanges s
      · rw [if_neg hs] at flying
        rw [if_neg (mt kind.mp hs), flying]
        exact jam rfl
  · obtain ⟨t, hx, idle, flying⟩ := indexDoneTransfer_judged e i o s turn
    refine ⟨t, hx, fun hn => idle hn ▸ passed transferDone [1, i, o], fun hn wrong => ?_, fun hs hf => ?_⟩
    · obtain ⟨q, hq⟩ := Option.ne_none_iff_exists'.mp hn
      have flying := flying q hq
      rw [if_neg] at flying
      · rw [flying]
        exact jam rfl
      · intro h0
        obtain ⟨h1, h2⟩ := Bool.and_eq_true_iff.mp h0
        rcases wrong with h3 | h3
        · exact Bool.noConfusion (h1.symm.trans h3)
        · exact Bool.noConfusion (h2.symm.trans h3)
    · have flies : s.track.inFlight.isSome = true := by
        cases hq : s.track.inFlight with
        | none => simp [slots, hq] at hs
        | some q => rfl
      obtain ⟨q, hq⟩ := Option.isSome_iff_exists.mp flies
      have unheld : s.track.held = none := by
        cases hd : s.track.held with
        | none => rfl
        | some r => rw [alone (by rw [hd]; rfl)] at hq; cases hq
      have flying := flying q hq
      have agrees : (slotsAgree s.track i o && idFresh s.track i) = true := Bool.and_eq_true_iff.mpr ⟨hs, hf⟩
      rw [if_pos agrees] at flying
      have moved := State.transferDone_track (s.takeRx .ix transferDone) transferDone q (slotOf i) (slotOf o) unheld
      rw [flying, State.markChanges_track, moved]
      obtain ⟨timer, known⟩ := s.track.transferred_same s.tables q (slotOf i) (slotOf o)
      exact ⟨(Track.transferred_requests _ _ _ _ _).2, timer, known⟩

end Sys2Proof.Machine
end

section
/-! SUPPORT. Magazines that are loaded and removed (R91, R94, R100). -/

namespace Sys2Proof.Machine

/-- R140: the end of a condition does not look at the track. -/
theorem State.conditionGone_of_track (s : State) (d : Track) (c : AlarmClass) (o : AlarmObject) :
    ({ s with track := d } : State).conditionGone c o = { s.conditionGone c o with track := d } := by
  rw [State.conditionGone_eq, State.conditionGone_eq]

/-- R91, R103: a MAG-IN frame marks a TRANSFER in flight. -/
theorem Track.setMagIn_flight (t : Track) (m : MagIn) : (t.setMagIn m).inFlight =
    t.inFlight.map fun q => if q.kind = .transfer then
      { q with inChanged := q.inChanged || true, outChanged := q.outChanged || false } else q := by
  simp only [Track.setMagIn, Bool.or_true, Bool.or_false]

/-- R94, R103: a MAG-OUT frame marks a TRANSFER in flight. -/
theorem Track.setMagOut_flight (t : Track) (m : MagOut) : (t.setMagOut m).inFlight =
    t.inFlight.map fun q => if q.kind = .transfer then
      { q with inChanged := q.inChanged || false, outChanged := q.outChanged || true } else q := by
  simp only [Track.setMagOut, Bool.or_true, Bool.or_false]

/-! ## The frames -/

/-- R91: the condition of the alarm of a magazine that is READY again is gone. -/
def State.refilled (s : State) (ready : Prop) [Decidable ready] (c : AlarmClass) : State :=
  if ready then s.conditionGone c .track else s

theorem State.refilled_of_track (s : State) (d : Track) (ready : Prop) [Decidable ready] (c : AlarmClass) :
    ({ s with track := d } : State).refilled ready c = { s.refilled ready c with track := d } := by
  unfold State.refilled
  split
  · exact s.conditionGone_of_track d c .track
  · rfl

theorem State.refilled_frame (s : State) (ready : Prop) [Decidable ready] (c : AlarmClass) :
    Frame leaveBlocks s (s.refilled ready c) := .ite (s.conditionGone_frame c .track) (.refl _ s)

/-- R140: the alarms of a magazine's frame do not depend on the ports. -/
theorem State.refilled_alarms (s : State) (x : Port) (i : Instr) (ready : Prop) [Decidable ready]
    (c : AlarmClass) : AlarmsAs (s.refilled ready c) ((s.takeRx x i).refilled ready c) := by
  have taken : AlarmsAs s (s.takeRx x i) := ⟨rfl, rfl, rfl, rfl⟩
  unfold State.refilled
  split
  · exact taken.conditionGone c .track
  · exact taken

/-- R91: what a MAG-IN frame leaves. -/
theorem State.magIn_leaves {s : State} {i : Instr} {f : Sys2Proof.Frame} (hf : frameOf i = some (.ix, f)) (d : Track)
    (ready : Prop) [Decidable ready] (c : AlarmClass) :
    let u := s.takeRx .ix i
    let t := ((({ u with track := d } : State).refilled ready c).forward i).markChanges s
    t.track = d ∧ AlarmsAs (s.refilled ready c) t ∧ Frame raiseBlocks s t ∧
      (¬ready → Frame [.track, .ports] s t) ∧
      t.ports = ((u.refilled ready c).send .u (.forwarded f)).ports := by
  intro u t
  have made : t = (({ u.refilled ready c with track := d } : State).send .u (.forwarded f)).markChanges s := by
    simp only [t, State.refilled_of_track, State.forward_of _ hf]
  have taken : Frame [.ports] s u := s.takeRx_frame .ix i
  have told (l : List Block) (v : State) (hl : Block.ports ∈ l) : Frame l v (v.send .u (.forwarded f)) :=
    (v.send_frame _ _).mono (by simpa using hl)
  rw [made]
  refine ⟨?_, ?_, ?_, fun hr => ?_, ?_⟩
  · exact State.markChanges_track _ _
  · refine (s.refilled_alarms .ix i ready c).trans (AlarmsAs.trans ?_ (State.markChanges_alarmsAs _ s))
    exact ⟨rfl, rfl, rfl, rfl⟩
  · have refilled : Frame raiseBlocks u { u.refilled ready c with track := d } :=
      ((u.refilled_frame ready c).mono (by simp)).trans (by simp [Frame])
    exact (((taken.mono (by simp)).trans refilled).trans (told _ _ (by simp))).markChanges s
  · have same : u.refilled ready c = u := if_neg hr
    have moved : Frame [.track, .ports] u { u with track := d } := by simp [Frame]
    rw [same]
    exact (((taken.mono (by simp)).trans moved).trans (told _ _ (by simp))).markChanges s
  · rw [State.markChanges_ports]
    rfl

/-- R94, R100: what a MAG-OUT frame leaves. -/
theorem State.magOut_leaves {s : State} {i : Instr} {f : Sys2Proof.Frame} (hf : frameOf i = some (.ix, f)) (d : Track)
    (ready : Prop) [Decidable ready] (c : AlarmClass) :
    let u := s.takeRx .ix i
    let t := (((({ u with track := d } : State).refilled ready c).releaseGate).forward i).markChanges s
    t.track.magOut = d.magOut ∧ t.track.magIn = d.magIn ∧ t.track.strips = d.strips ∧
      AlarmsAs (s.refilled ready c) t ∧ Frame raiseBlocks s t ∧
      GateJudged (fun p => p.enqueue .u false (.forwarded f)) { u.refilled ready c with track := d } t := by
  intro u t
  let v : State := { u.refilled ready c with track := d }
  have made : t = (v.releaseGate.send .u (.forwarded f)).markChanges s := by
    simp only [t, State.refilled_of_track, State.forward_of _ hf, v]
  have taken : Frame [.ports] s u := s.takeRx_frame .ix i
  have track : t.track = v.releaseGate.track := by rw [made, State.markChanges_track]; rfl
  have gate := v.releaseGate_track
  refine ⟨?_, ?_, ?_, ?_, ?_, ?_⟩
  · rw [track, gate]
  · rw [track, gate]
  · rw [track, gate]
    rfl
  · have begun : AlarmsAs (u.refilled ready c) v := ⟨rfl, rfl, rfl, rfl⟩
    have judged : AlarmsAs v v.releaseGate :=
      .of_frame v.releaseGate_frame (by simp) (by simp) (by simp) (by simp)
    have told : AlarmsAs v.releaseGate (v.releaseGate.send .u (.forwarded f)) := ⟨rfl, rfl, rfl, rfl⟩
    rw [made]
    exact (((s.refilled_alarms .ix i ready c).trans begun).trans (judged.trans told)).trans
      (State.markChanges_alarmsAs _ s)
  · have refilled : Frame raiseBlocks u v := ((u.refilled_frame ready c).mono (by simp)).trans (by simp [Frame, v])
    rw [made]
    exact ((((taken.mono (by simp)).trans refilled).trans (v.releaseGate_frame.mono (by simp))).trans
      ((State.send_frame _ _ _).mono (by simp))).markChanges s
  · refine v.releaseGate_judges.behind _ track ?_
    rw [made, State.markChanges_ports]
    rfl

/-! ## The statement -/

/-- Settles O43: a magazine's frame sets the magazine, marks the request in flight, and ends the condition of its alarm
where the magazine is READY. -/
theorem magazinesLoadAndLeave : Obligations.MagazinesLoadAndLeave := by
  unfold Obligations.MagazinesLoadAndLeave
  intro e count s n flight goneIn goneOut input output
  have inputs {c : Instr} {m : MagIn} {loads : Nat} {payload : List Byte}
      (hf : frameOf c = some (.ix, ⟨e.dst, e.src, 0x24, payload ++ e.extra⟩))
      (hm : m.state = .ready ∨ m.state = .absent)
      {body : State → State} (hx : exec c s = .next (s.taken .ix c body))
      (hb : body (s.takeRx .ix c) = (({ s.takeRx .ix c with
        track := { s.track.setMagIn m with loadCount := loads } } : State).refilled (m.state = .ready)
          .magInEmpty).forward c) : input c m loads payload := by
    intro turn
    refine ⟨_, hx, ?_⟩
    rw [s.taken_inTurn .ix c _ turn, hb]
    obtain ⟨track, alarms, frame, absent, ports⟩ := State.magIn_leaves (s := s) hf
      { s.track.setMagIn m with loadCount := loads } (m.state = .ready) .magInEmpty
    refine ⟨track.trans ?_, alarms, frame, fun ha => absent (by rw [ha]; simp), ports⟩
    rw [show flight true false = (s.track.setMagIn m).inFlight from (s.track.setMagIn_flight m).symm]
    rfl
  have outputs {c : Instr} {m : MagOut} {payload : List Byte}
      (hf : frameOf c = some (.ix, ⟨e.dst, e.src, 0x25, payload ++ e.extra⟩))
      {body : State → State} (hx : exec c s = .next (s.taken .ix c body))
      (hb : body (s.takeRx .ix c) = ((({ s.takeRx .ix c with
        track := s.track.setMagOut m } : State).refilled (m.state = .ready) .magOutFull).releaseGate).forward c) :
      output c m payload := by
    intro turn
    refine ⟨_, hx, ?_⟩
    rw [s.taken_inTurn .ix c _ turn, hb]
    obtain ⟨magOut, magIn, strips, alarms, frame, judged⟩ := State.magOut_leaves (s := s) hf
      (s.track.setMagOut m) (m.state = .ready) .magOutFull
    refine ⟨magOut, magIn, strips, alarms, frame, ?_⟩
    have marked : s.track.setMagOut m = { s.track with magOut := m, inFlight := flight false true } := by
      rw [show flight false true = (s.track.setMagOut m).inFlight from (s.track.setMagOut_flight m).symm]
      rfl
    rw [← marked]
    exact judged
  refine ⟨?_, inputs rfl (.inr rfl) rfl rfl, outputs rfl rfl rfl⟩
  split
  · next h0 =>
    subst h0
    exact ⟨inputs rfl (.inr rfl) rfl rfl, outputs rfl rfl rfl⟩
  · next h0 => exact ⟨inputs rfl (.inl rfl) rfl (by rw [if_neg h0]; rfl), outputs rfl rfl (by rw [if_neg h0]; rfl)⟩

end Sys2Proof.Machine
end

section
/-! SUPPORT. INDEX requests: the checks, SKIP, and the gate (R96 to R99, R103). -/

namespace Sys2Proof.Machine

/-! ## The checks of R96 -/

/-- R96: the checks of an INDEX with their reasons, in their order. -/
def indexChecks (s : State) : List (Bool × Reason) := [
  (s.mgmt.run, .notRunning), (s.track.known, .unknown),
  (s.alarms.entries.all fun e => e.action != .safeStop, .stopped),
  ((s.port .ix).state != .down, .portDown),
  (s.track.inFlight.isNone && s.track.held.isNone, .busy)]

theorem indexReason_eq (s : State) : indexReason s = (firstFailed (indexChecks s)).map fun y => y.2 := by
  unfold indexReason indexChecks
  refine firstFailed_step (by simp) fun _ => ?_
  refine firstFailed_step (by simp) fun _ => ?_
  refine firstFailed_step (by simp [safeStopStands]) fun _ => ?_
  refine firstFailed_step (by simp) fun _ => ?_
  exact firstFailed_step (by simp [or_iff_not_imp_left]) fun _ => rfl

/-! ## SKIP (R97, R98) -/

/-- R97, R98: the PENDING units of `x` that `f` reaches. -/
def Strip.openUnits (x : Strip) (f : Nat → Bool) : List Nat :=
  (x.units.zipIdx.filter fun y => f y.2 && y.1.state == .pending).map fun y => y.2

/-- R97, R98: the strip with the units of `l` rejected. -/
def Strip.rejectUnits (x : Strip) (l : List Nat) : Strip :=
  { x with units := x.units.zipIdx.map fun y => if l.contains y.2 then { y.1 with state := .reject } else y.1 }

/-- R97, R98: a record of a PENDING unit at BOND that `f` reaches loses its pin. -/
def Track.skipPin (t : Track) (f : Strip → Nat → Bool) (r : BondRecord) : BondRecord :=
  if t.bond.any (fun x => r.strip == x.id && (x.openUnits (f x)).contains r.unit) then { r with pinned := false }
  else r

/-- R97, R98: the PENDING units at BOND that `f` reaches have become REJECT, and their pins are released. -/
def State.skipped (s : State) (f : Strip → Nat → Bool) : State := { s with
  track := { s.track with bond := s.track.bond.map fun x => x.rejectUnits (x.openUnits (f x)) }
  store := { s.store with records := s.store.records.map (s.track.skipPin f) } }

theorem State.skipped_none (s : State) (f : Strip → Nat → Bool) (hx : s.track.bond = none) : s.skipped f = s := by
  have pins : s.store.records.map (s.track.skipPin f) = s.store.records := by
    refine (List.map_congr_left fun r _ => ?_).trans (List.map_id _)
    rw [Track.skipPin, hx]
    rfl
  have bond : s.track.bond.map (fun x => x.rejectUnits (x.openUnits (f x))) = s.track.bond := by rw [hx]; rfl
  unfold State.skipped
  rw [pins, bond]

/-- The unit at an index of a strip is open where its index is one of the open units. -/
theorem Strip.openUnits_contains (x : Strip) (f : Nat → Bool) {y : UnitRecord × Nat} (hy : y ∈ x.units.zipIdx) :
    (x.openUnits f).contains y.2 = (y.1.state == .pending && f y.2) := by
  obtain ⟨r, k⟩ := y
  have at_k := (zipIdx_mem _ _ _).mp hy
  rw [Bool.eq_iff_iff, List.contains_iff_mem]
  simp only [Strip.openUnits, List.mem_map, List.mem_filter, Bool.and_eq_true]
  constructor
  · rintro ⟨⟨z, j⟩, ⟨hz, hf, hp⟩, rfl⟩
    have := (zipIdx_mem _ _ _).mp hz
    rw [at_k] at this
    cases this
    exact ⟨hp, hf⟩
  · exact fun ⟨hp, hf⟩ => ⟨(r, k), ⟨hy, hf, hp⟩, rfl⟩

theorem State.rejectPending_some (s : State) (f : Strip → Nat → Bool) (x : Strip) (hx : s.track.bond = some x) :
    s.rejectPending (f x) = s.skipped f := by
  have units : x.units.zipIdx.map (fun y => if (y.1.state == .pending && f x y.2) = true then
      { y.1 with state := .reject } else y.1) = (x.rejectUnits (x.openUnits (f x))).units :=
    List.map_congr_left fun y hy => by rw [x.openUnits_contains (f x) hy]
  have gone : (x.units.zipIdx.filter fun y => y.1.state == .pending && f x y.2).map (fun y => y.2) =
      x.openUnits (f x) := by
    unfold Strip.openUnits
    simp only [Bool.and_comm]
  have pins : s.track.skipPin f = fun r =>
      if r.strip == x.id && (x.openUnits (f x)).contains r.unit then { r with pinned := false } else r := by
    funext r
    rw [Track.skipPin, hx, Option.any_some]
  unfold State.rejectPending State.skipped
  rw [pins, hx]
  dsimp only
  rw [gone, units]
  rfl

/-! ## The gate behind SKIP (R97 to R99) -/

theorem zipIdx_map_zipIdx {α β : Type} (l : List α) (g : α × Nat → β) (n : Nat) :
    ((l.zipIdx n).map g).zipIdx n = (l.zipIdx n).map fun y => (g y, y.2) := by
  induction l generalizing n with
  | nil => rfl
  | cons a l ih => simp [List.zipIdx_cons, ih]

theorem any_congr_mem {α : Type} {l : List α} {p q : α → Bool} (h : ∀ a ∈ l, p a = q a) :
    l.any p = l.any q := by
  induction l with
  | nil => rfl
  | cons a l ih =>
    rw [List.any_cons, List.any_cons, h a List.mem_cons_self, ih fun b hb => h b (List.mem_cons_of_mem _ hb)]

/-- R97, R98: units that are rejected were not claimed, and are not. -/
theorem Strip.rejectUnits_claims (x : Strip) (f p : Nat → Bool) :
    ((x.rejectUnits (x.openUnits f)).units.zipIdx.any fun y => p y.2 && y.1.state.isClaim) =
      x.units.zipIdx.any fun y => p y.2 && y.1.state.isClaim := by
  unfold Strip.rejectUnits
  rw [zipIdx_map_zipIdx, List.any_map]
  refine any_congr_mem fun y hy => ?_
  simp only [Function.comp_apply]
  split
  · next hg =>
    rw [x.openUnits_contains f hy, Bool.and_eq_true, beq_iff_eq] at hg
    rw [hg.1]
    rfl
  · rfl

theorem Tables.inWindow_rejectUnits (T : Tables) (x : Strip) (l : List Nat) (u : Nat) :
    T.inWindow (x.rejectUnits l) u = T.inWindow x u := by
  have length : (x.rejectUnits l).units.length = x.units.length := by simp [Strip.rejectUnits]
  unfold Tables.inWindow
  rw [length]
  rfl

/-- R97, R98: the blocking reasons behind SKIP are those ahead of it. -/
theorem State.skipped_reasons (s : State) (f : Strip → Nat → Bool) (k : IndexKind) :
    (s.skipped f).blockingReasons k = s.blockingReasons k := by
  rw [State.blockingReasons_eq, State.blockingReasons_eq]
  have bond : (s.skipped f).track.bond = s.track.bond.map fun x => x.rejectUnits (x.openUnits (f x)) := rfl
  rw [bond, Option.any_map]
  congr 1
  cases s.track.bond with
  | none => rfl
  | some x =>
    rw [Option.any_some, Option.any_some]
    rw [show (s.skipped f).tables = s.tables from rfl]
    simp only [Tables.inWindow_rejectUnits]
    exact x.rejectUnits_claims (f x) fun u => k == .transfer || s.tables.inWindow x u

/-- R99, R103: what the gate makes of a request behind SKIP, from `s` to `t`, where `p` are the ports ahead of it. -/
theorem State.gateIndex_skipped (s : State) (f : Strip → Nat → Bool) (k : IndexKind) :
    let bond := s.track.bond.map fun x => x.rejectUnits (x.openUnits (f x))
    let i := s.track.orderedIn k
    let o := s.track.orderedOut k
    let t := (s.skipped f).gateIndex k
    if s.blockingReasons k ≠ ⟨false, false, false⟩ then
      t.ports = s.ports ∧ t.track = { s.track with
        bond := bond, held := some ⟨k, s.blockingReasons k⟩, holdTimer := some s.track.holdTimeout }
    else if (s.port .ix).tx.length < 8 then
      t.ports = (s.send .ix (.index k i o)).ports ∧ t.track = { s.track with
        bond := bond, inFlight := some ⟨k, i, o, false, false⟩, doneTimer := some s.track.doneTimeout }
    else t.ports = (s.send .u (.indexRefused k .busy)).ports ∧ t.track = { s.track with bond := bond } := by
  intro bond i o t
  have ordered : (s.skipped f).track.orderedIn k = i ∧ (s.skipped f).track.orderedOut k = o := by
    cases k <;> exact ⟨rfl, rfl⟩
  by_cases hr : s.blockingReasons k = ⟨false, false, false⟩
  · rw [if_neg (not_not.mpr hr)]
    have forwarded : t = (s.skipped f).forwardIndex k := by
      simp only [t, State.gateIndex, s.skipped_reasons f k]
      exact if_pos ((GateReasons.empty_iff _).mpr hr)
    have room : ((s.skipped f).port .ix).hasRoom .ix false = decide ((s.port .ix).tx.length < 8) :=
      PortRec.hasRoom_ix _
    rw [forwarded, State.forwardIndex, ordered.1, ordered.2, room]
    simp only [decide_eq_true_eq]
    split
    · exact ⟨rfl, rfl⟩
    · exact ⟨rfl, rfl⟩
  · rw [if_pos hr]
    have held : t = (s.skipped f).holdIndex k (s.blockingReasons k) := by
      simp only [t, State.gateIndex, s.skipped_reasons f k]
      exact if_neg (mt (GateReasons.empty_iff _).mp hr)
    rw [held]
    exact ⟨rfl, rfl⟩

/-! ## The requests -/

/-- R97, R98: the units of the strip at BOND that a request reaches. -/
def State.reach (s : State) (k : IndexKind) (x : Strip) (u : Nat) : Bool := k == .transfer || s.tables.inWindow x u

/-- R97, R98: a PENDING unit stands where the request reaches. -/
def State.openFor (s : State) (k : IndexKind) : Bool := s.track.bond.any fun x =>
  x.units.zipIdx.any fun y => s.reach k x y.2 && y.1.state == .pending

/-- R97: a STEP that has passed R96. -/
theorem State.stepChecks_eq (s : State) (skip : Bool) : s.stepChecks skip =
    if s.track.bond = none then s.send .u (.indexRefused .step .empty)
    else if s.track.bond.any (fun x => s.tables.columnsOf x ≤ x.window + 1) = true then
      s.send .u (.indexRefused .step .endOfStrip)
    else if s.openFor .step = true ∧ skip = false then s.send .u (.indexRefused .step .unitsOpen)
    else (s.skipped (s.reach .step)).gateIndex .step := by
  have reach (x : Strip) : s.reach .step x = s.tables.inWindow x := rfl
  unfold State.stepChecks
  cases hx : s.track.bond with
  | none => rfl
  | some x =>
    have openUnits : s.openFor .step = windowOpen s x := by
      unfold State.openFor windowOpen
      rw [hx]
      rfl
    dsimp only
    rw [if_neg (show ¬some x = none from nofun), openUnits, ← s.rejectPending_some (s.reach .step) x hx, reach x]
    simp only [Option.any_some, decide_eq_true_eq, Bool.and_eq_true, Bool.not_eq_true']

/-- R98: a TRANSFER that has passed R96. -/
theorem State.transferChecks_eq (s : State) (skip : Bool) : s.transferChecks skip =
    if s.openFor .transfer = true ∧ skip = false then s.send .u (.indexRefused .transfer .unitsOpen)
    else (s.skipped (s.reach .transfer)).gateIndex .transfer := by
  have openUnits : s.openFor .transfer = stripOpen s := by
    unfold State.openFor stripOpen
    cases s.track.bond with
    | none => rfl
    | some x => exact any_zipIdx x.units (fun r => r.state == .pending) 0
  have rejected : s.rejectPending (fun _ => true) = s.skipped (s.reach .transfer) := by
    cases hx : s.track.bond with
    | none =>
      rw [s.skipped_none _ hx, State.rejectPending, hx]
    | some x => exact s.rejectPending_some (s.reach .transfer) x hx
  unfold State.transferChecks
  rw [rejected, openUnits]
  simp only [Bool.and_eq_true, Bool.not_eq_true']

/-- R97 to R99, R103: what the gate leaves behind SKIP, once the request has been taken. -/
theorem State.gate_leaves (s : State) (c : Instr) (k : IndexKind) :
    let u := s.takeRx .u c
    let bond := s.track.bond.map fun x => x.rejectUnits (x.openUnits (s.reach k x))
    let i := s.track.orderedIn k
    let o := s.track.orderedOut k
    let t := ((u.skipped (u.reach k)).gateIndex k).markChanges s
    Frame [.track, .store, .ports] s t ∧
      t.store = { s.store with records := s.store.records.map (s.track.skipPin (s.reach k)) } ∧
      if s.blockingReasons k ≠ ⟨false, false, false⟩ then
        t.ports = u.ports ∧ t.track = { s.track with
          bond := bond, held := some ⟨k, s.blockingReasons k⟩, holdTimer := some s.track.holdTimeout }
      else if (s.port .ix).tx.length < 8 then
        t.ports = (u.send .ix (.index k i o)).ports ∧ t.track = { s.track with
          bond := bond, inFlight := some ⟨k, i, o, false, false⟩, doneTimer := some s.track.doneTimeout }
      else t.ports = (u.send .u (.indexRefused k .busy)).ports ∧ t.track = { s.track with bond := bond } := by
  intro u bond i o t
  have gated := u.gateIndex_skipped (u.reach k) k
  have rejected : Frame [.track, .store, .ports] u (u.skipped (u.reach k)) := by simp [Frame, State.skipped]
  refine ⟨?_, ?_, ?_⟩
  · exact ((((s.takeRx_frame .u c).mono (by simp)).trans rejected).trans
      ((State.gateIndex_frame _ k).mono (by simp))).markChanges s
  · rw [State.markChanges_store, (State.gateIndex_frame _ k).store_eq (by simp)]
    rfl
  · rw [State.markChanges_ports, State.markChanges_track]
    exact gated

/-- Settles O39: the checks are those of R96 in their order, and the gate is judged behind SKIP. -/
theorem indexChecksAndGate : Obligations.IndexChecksAndGate := by
  unfold Obligations.IndexChecksAndGate
  refine ⟨fun skip s => ?_, fun transfer skip s => ?_⟩
  · intro checks refused y hy
    have reason : indexReason s = some y.2 := by
      rw [indexReason_eq]
      exact congrArg (Option.map Prod.snd) hy
    have leaves {c : Instr} {k : IndexKind} {body : State → State}
        (hx : exec c s = .next (s.taken .u c body))
        (hb : body (s.takeRx .u c) = (s.takeRx .u c).send .u (.indexRefused k y.2)) : refused c k y.2 := by
      intro turn
      refine ⟨_, hx, ?_⟩
      rw [s.taken_inTurn .u c _ turn, hb]
      exact ⟨((s.takeRx_frame _ _).trans (State.send_frame _ _ _)).markChanges s, State.markChanges_ports _ _⟩
    have same (c : Instr) : indexReason (s.takeRx .u c) = some y.2 := reason
    exact ⟨leaves rfl (by rw [same]), leaves rfl (by rw [same])⟩
  · intro k c refused inReach isOpen gone bond records reasons inSlot outSlot run known stopped port flight held turn
    have passes : indexReason s = none := by
      unfold indexReason
      simp [run, known, stopped, port, flight, held]
    have refusal (y : Reason) : refused y (((s.takeRx .u c).send .u (.indexRefused k y)).markChanges s) :=
      ⟨((s.takeRx_frame _ _).trans (State.send_frame _ _ _)).markChanges s, State.markChanges_ports _ _⟩
    have leaves := s.gate_leaves c k
    have judged : s.blockingReasons k = reasons := by
      rw [s.blockingReasons_eq]
      cases transfer <;> rfl
    have orderedIn : s.track.orderedIn k = inSlot := by
      cases transfer <;> simp [k, inSlot, Track.orderedIn]
    have orderedOut : s.track.orderedOut k = outSlot := by
      cases transfer <;> simp [k, outSlot, Track.orderedOut]
    have reach : s.reach k = inReach := by cases transfer <;> rfl
    have opens : s.openFor k = isOpen := by
      unfold State.openFor
      rw [reach]
    rw [judged, orderedIn, orderedOut, reach] at leaves
    have answers {body : State → State} (hx : exec c s = .next (s.taken .u c body)) :
        exec c s = .next ((body (s.takeRx .u c)).markChanges s) := by
      rw [hx, s.taken_inTurn .u c _ turn]
    have same : indexReason (s.takeRx .u c) = none := passes
    cases transfer with
    | false =>
      have checks : (s.takeRx .u c).stepChecks skip =
          if s.track.bond = none then (s.takeRx .u c).send .u (.indexRefused k .empty)
          else if s.track.bond.any (fun x => s.tables.columnsOf x ≤ x.window + 1) = true then
            (s.takeRx .u c).send .u (.indexRefused k .endOfStrip)
          else if s.openFor k = true ∧ skip = false then (s.takeRx .u c).send .u (.indexRefused k .unitsOpen)
          else ((s.takeRx .u c).skipped ((s.takeRx .u c).reach k)).gateIndex k := State.stepChecks_eq _ skip
      refine ⟨_, answers rfl, ?_⟩
      rw [same]
      dsimp only
      rw [checks, opens]
      by_cases h0 : s.track.bond = none
      · rw [if_pos h0, if_pos ⟨rfl, h0⟩]
        exact refusal .empty
      · rw [if_neg h0, if_neg fun h => h0 h.2]
        by_cases h1 : s.track.bond.any (fun x => s.tables.columnsOf x ≤ x.window + 1) = true
        · rw [if_pos h1, if_pos ⟨rfl, h1⟩]
          exact refusal .endOfStrip
        · rw [if_neg h1, if_neg fun h => h1 h.2]
          by_cases h2 : isOpen = true ∧ skip = false
          · rw [if_pos h2, if_pos h2]
            exact refusal .unitsOpen
          · rw [if_neg h2, if_neg h2]
            exact leaves
    | true =>
      have checks : (s.takeRx .u c).transferChecks skip =
          if s.openFor k = true ∧ skip = false then (s.takeRx .u c).send .u (.indexRefused k .unitsOpen)
          else ((s.takeRx .u c).skipped ((s.takeRx .u c).reach k)).gateIndex k := State.transferChecks_eq _ skip
      refine ⟨_, answers rfl, ?_⟩
      rw [same]
      dsimp only
      rw [checks, opens, if_neg (by simp), if_neg (by simp)]
      by_cases h2 : isOpen = true ∧ skip = false
      · rw [if_pos h2, if_pos h2]
        exact refusal .unitsOpen
      · rw [if_neg h2, if_neg h2]
        exact leaves

end Sys2Proof.Machine
end

section
/-! SUPPORT. Management requests: the plain settings, the operator level, and unknown requests (R95, R115,
R154, R156, R177 to R179, R185). -/

namespace Sys2Proof.Machine

/-! ## One request -/

/-- R179: what a request leaves, in its turn. -/
theorem State.request_inTurn (s : State) (c : Instr) (k tag : Byte) (body : State → State × Reply)
    (turn : s.inTurn .u c = true) :
    s.request c k tag body =
      ((body (s.takeRx .u c)).1.reply k tag (body (s.takeRx .u c)).2).markChanges s :=
  s.taken_inTurn .u c _ turn

/-- R179: what a request that leaves port U to its reply leaves, by the state and the answer of its body. -/
structure Settled (l : List Block) (c : Instr) (k tag : Byte) (s u t : State) (r : Reply) : Prop where
  frame : Frame l s t
  after : t = (u.reply k tag r).markChanges s
  ports : t.ports = ((s.takeRx .u c).reply k tag r).ports

section
variable {l : List Block} {s t : State} {c : Instr} {k tag : Byte} {body : State → State × Reply}
variable {u : State} {r : Reply}

/-- R179: a request is settled as its body says. -/
theorem exec_settled (l : List Block) (u : State) (r : Reply)
    (hx : exec c s = .next (s.request c k tag body)) (turn : s.inTurn .u c = true)
    (hb : body (s.takeRx .u c) = (u, r)) (hu : Frame l (s.takeRx .u c) u)
    (ports : u.ports = (s.takeRx .u c).ports) (hp : Block.ports ∈ l) :
    ∃ t, exec c s = .next t ∧ Settled l c k tag s u t r := by
  refine ⟨_, hx, ?_⟩
  rw [s.request_inTurn c k tag body turn, hb]
  have up : [Block.ports] ⊆ l := by simpa using hp
  exact {
    frame := (((s.takeRx_frame _ _).mono up).trans (hu.trans ((State.reply_frame _ _ _ _).mono up))).markChanges s
    after := rfl
    ports := by rw [State.markChanges_ports, State.reply_ports, State.reply_ports, ports] }

/-- R179: a request that its body answers without another effect. -/
theorem exec_answered (l : List Block) (r : Reply)
    (hx : exec c s = .next (s.request c k tag body)) (turn : s.inTurn .u c = true)
    (hb : body (s.takeRx .u c) = (s.takeRx .u c, r)) (hp : Block.ports ∈ l) :
    ∃ t, exec c s = .next t ∧ Settled l c k tag s (s.takeRx .u c) t r :=
  exec_settled l _ r hx turn hb (Frame.refl _ _) rfl hp

theorem Settled.like (h : Settled l c k tag s u t r) : Like (u.reply k tag r) t := by
  rw [h.after]
  exact State.markChanges_like _ s

theorem Settled.track (h : Settled l c k tag s u t r) : t.track = u.track := by rw [h.like]; rfl
theorem Settled.mgmt (h : Settled l c k tag s u t r) : t.mgmt = u.mgmt := by rw [h.like]; rfl
theorem Settled.puller (h : Settled l c k tag s u t r) : t.puller = u.puller := by rw [h.like]; rfl

end

/-! ## The ranges -/

theorem clampTo_byte (x : Byte) : clampTo 1 255 x.toNat = max 1 x.toNat := by
  unfold clampTo
  have := x.isLt
  omega

theorem clampTo_word (w : W16) : clampTo 1 maxU16 w.toNat = max 1 w.toNat := by
  unfold clampTo maxU16
  have := w.isLt
  omega

theorem clampTo_eq_self (hi n : Nat) (h : 0 < hi) : clampTo 1 hi n = n ↔ ¬(n = 0 ∨ hi < n) := by
  unfold clampTo
  omega

theorem byte_zero (x : Byte) : x = 0 ↔ x.toNat = 0 := by
  rw [← BitVec.toNat_inj]
  rfl

/-! ## The settings -/

section
variable (tag x y : Byte) (w : W16) (s : State)

/-- R185: the supervision time. -/
theorem supervision_set (turn : s.inTurn .u (.controlSupervision tag x) = true) :
    ∃ t, exec (.controlSupervision tag x) s = .next t ∧ Frame [.mgmt, .ports] s t ∧
      t.mgmt = { s.mgmt with supervision := x.toNat, supTimer := none } ∧
      t.ports = ((s.takeRx .u (.controlSupervision tag x)).reply 3 tag .accepted).ports := by
  let u := s.takeRx .u (.controlSupervision tag x)
  obtain ⟨t, hx, h⟩ := exec_settled [.mgmt, .ports]
    { u with mgmt := { u.mgmt with supervision := x.toNat, supTimer := none } } .accepted
    rfl turn rfl (by simp [Frame, u]) rfl (by simp)
  exact ⟨t, hx, h.frame, h.mgmt, h.ports⟩

/-- R95: the input device type. -/
theorem inputType_set (turn : s.inTurn .u (.controlInputType tag x) = true) :
    ∃ t, exec (.controlInputType tag x) s = .next t ∧ Frame [.track, .ports] s t ∧
      if 7 < x.toNat then t.track = s.track ∧
        t.ports = ((s.takeRx .u (.controlInputType tag x)).reply 3 tag (.refused .range)).ports
      else if s.mgmt.run = true ∧ s.tables.usable x.toNat = false then t.track = s.track ∧
        t.ports = ((s.takeRx .u (.controlInputType tag x)).reply 3 tag (.refused .invalid)).ports
      else t.track = { s.track with
          inputType := x.toNat
          stripCounter := if s.track.inputType = x.toNat then s.track.stripCounter else 0 } ∧
        t.ports = ((s.takeRx .u (.controlInputType tag x)).reply 3 tag .accepted).ports := by
  let u := s.takeRx .u (.controlInputType tag x)
  split
  · rename_i high
    obtain ⟨t, hx, h⟩ := exec_answered [.track, .ports] (.refused .range) rfl turn (if_pos high) (by simp)
    exact ⟨t, hx, h.frame, h.track, h.ports⟩
  rename_i high
  split
  · rename_i bad
    have bad' : (s.mgmt.run && !s.tables.usable x.toNat) = true := by simpa using bad
    obtain ⟨t, hx, h⟩ := exec_answered [.track, .ports] (.refused .invalid) rfl turn
      ((if_neg high).trans (if_pos bad')) (by simp)
    exact ⟨t, hx, h.frame, h.track, h.ports⟩
  · rename_i good
    have good' : ¬(s.mgmt.run && !s.tables.usable x.toNat) = true := by simpa using good
    obtain ⟨t, hx, h⟩ := exec_settled [.track, .ports]
      { u with track := { u.track with
          inputType := x.toNat
          stripCounter := if u.track.inputType = x.toNat then u.track.stripCounter else 0 } } .accepted
      rfl turn ((if_neg high).trans (if_neg good')) (by simp [Frame, u]) rfl (by simp)
    exact ⟨t, hx, h.frame, h.track, h.ports⟩

/-- R95: the times of the index timers. -/
theorem indexTimers_set (turn : s.inTurn .u (.controlIndexTimers tag x y) = true) :
    ∃ t, exec (.controlIndexTimers tag x y) s = .next t ∧ Frame [.track, .ports] s t ∧
      t.track = { s.track with holdTimeout := max 1 x.toNat, doneTimeout := max 1 y.toNat } ∧
      t.ports = ((s.takeRx .u (.controlIndexTimers tag x y)).reply 3 tag
        (if x.toNat = 0 ∨ y.toNat = 0 then .clamped else .accepted)).ports := by
  let u := s.takeRx .u (.controlIndexTimers tag x y)
  obtain ⟨t, hx, h⟩ := exec_settled [.track, .ports]
    { u with track := { u.track with
        holdTimeout := clampTo 1 255 x.toNat, doneTimeout := clampTo 1 255 y.toNat } }
    (if x = 0 ∨ y = 0 then .clamped else .accepted) rfl turn rfl (by simp [Frame, u]) rfl (by simp)
  refine ⟨t, hx, h.frame, ?_, ?_⟩
  · rw [h.track, clampTo_byte, clampTo_byte]
    rfl
  · simp only [h.ports, byte_zero]

/-- R115: the time of the pull timer. -/
theorem pullTimer_set (turn : s.inTurn .u (.controlPullTimer tag x) = true) :
    ∃ t, exec (.controlPullTimer tag x) s = .next t ∧ Frame [.puller, .ports] s t ∧
      t.puller = { s.puller with timeout := max 1 x.toNat } ∧
      t.ports = ((s.takeRx .u (.controlPullTimer tag x)).reply 3 tag
        (if x.toNat = 0 then .clamped else .accepted)).ports := by
  let u := s.takeRx .u (.controlPullTimer tag x)
  obtain ⟨t, hx, h⟩ := exec_settled [.puller, .ports]
    { u with puller := { u.puller with timeout := clampTo 1 255 x.toNat } }
    (if x = 0 then .clamped else .accepted) rfl turn rfl (by simp [Frame, u]) rfl (by simp)
  refine ⟨t, hx, h.frame, ?_, ?_⟩
  · rw [h.puller, clampTo_byte]
    rfl
  · simp only [h.ports, byte_zero]

/-- R154: the refresh period of the screen. -/
theorem screenRefresh_set (turn : s.inTurn .u (.controlScreenRefresh tag x) = true) :
    ∃ t, exec (.controlScreenRefresh tag x) s = .next t ∧ Frame [.term, .ports] s t ∧
      Like { s with
        term := { s.term with refreshPeriod := max 1 (min x.toNat 25) }, ports := t.ports } t ∧
      t.ports = ((s.takeRx .u (.controlScreenRefresh tag x)).reply 3 tag
        (if x.toNat = 0 ∨ 25 < x.toNat then .clamped else .accepted)).ports := by
  let u := s.takeRx .u (.controlScreenRefresh tag x)
  obtain ⟨t, hx, h⟩ := exec_settled [.term, .ports]
    { u with term := { u.term with refreshPeriod := clampTo 1 25 x.toNat } }
    (if clampTo 1 25 x.toNat = x.toNat then .accepted else .clamped)
    rfl turn rfl (by simp [Frame, u]) rfl (by simp)
  refine ⟨t, hx, h.frame, ?_, ?_⟩
  · rw [h.like]
    rfl
  · simp only [h.ports, clampTo_eq_self 25 _ (by decide), ite_not]

/-- R177: the threshold of the line alarms. -/
theorem linkThreshold_set (turn : s.inTurn .u (.controlLinkThreshold tag w) = true) :
    ∃ t, exec (.controlLinkThreshold tag w) s = .next t ∧ Frame [.mgmt, .ports] s t ∧
      t.mgmt = { s.mgmt with linkThreshold := max 1 w.toNat } ∧
      t.ports = ((s.takeRx .u (.controlLinkThreshold tag w)).reply 3 tag
        (if w = 0 then .clamped else .accepted)).ports := by
  let u := s.takeRx .u (.controlLinkThreshold tag w)
  obtain ⟨t, hx, h⟩ := exec_settled [.mgmt, .ports]
    { u with mgmt := { u.mgmt with linkThreshold := clampTo 1 maxU16 w.toNat } }
    (if w = 0 then .clamped else .accepted) rfl turn rfl (by simp [Frame, u]) rfl (by simp)
  refine ⟨t, hx, h.frame, ?_, h.ports⟩
  rw [h.mgmt, clampTo_word]
  rfl

/-- R156: the operator level. -/
theorem terminalLevel_set (turn : s.inTurn .u (.terminalLevel tag x) = true) :
    ∃ t, exec (.terminalLevel tag x) s = .next t ∧ Frame [.term, .ports] s t ∧
      if 2 < x.toNat then
        t.ports = ((s.takeRx .u (.terminalLevel tag x)).reply 8 tag (.refused .range)).ports ∧
          t.term = { s.term with changed := t.term.changed }
      else t.ports = ((s.takeRx .u (.terminalLevel tag x)).reply 8 tag .accepted).ports ∧
        t.term = { s.term with level := x.toNat, changed := t.term.changed } ∧
        (s.term.page = 0 → 8 ∈ t.term.changed) := by
  let u := s.takeRx .u (.terminalLevel tag x)
  let v : State := { u with term := { u.term with level := x.toNat }.mark 0 [8] }
  by_cases high : 2 < x.toNat
  · obtain ⟨t, hx, h⟩ := exec_answered [.term, .ports] (.refused .range) rfl turn (if_pos high) (by simp)
    refine ⟨t, hx, h.frame, ?_⟩
    rw [if_pos high]
    exact ⟨h.ports, by rw [h.like]; rfl⟩
  · obtain ⟨t, hx, h⟩ := exec_settled [.term, .ports] v .accepted rfl turn (if_neg high)
      (by simp [Frame, v, u]) rfl (by simp)
    refine ⟨t, hx, h.frame, ?_⟩
    rw [if_neg high]
    refine ⟨h.ports, ?_, fun page => ?_⟩
    · rw [h.like]
      simp only [v, u, Terminal.mark]
      split <;> rfl
    · rw [h.after]
      refine State.mem_markChanges _ s 8 ?_ ?_
      · have still : (v.reply 8 tag .accepted).term.page = s.term.page := by
          simp only [State.reply_term, v, u, Terminal.mark]
          split <;> rfl
        rw [still, page]
        decide
      · have marks := Terminal.mem_mark { u.term with level := x.toNat } [8] 8 (by
          rw [show u.term.page = 0 from page]
          decide) (by simp)
        rw [show u.term.page = 0 from page] at marks
        exact marks

/-- R178, R179: an unknown request. -/
theorem unknownRequest_refused (turn : s.inTurn .u (.managementRequestRefused x tag y) = true) :
    ∃ t, exec (.managementRequestRefused x tag y) s = .next t ∧ Frame [.ports] s t ∧
      t.ports = ((s.takeRx .u (.managementRequestRefused x tag y)).reply x tag (.refused .range)).ports := by
  obtain ⟨t, hx, h⟩ := exec_answered [.ports] (.refused .range) rfl turn rfl (by simp)
  exact ⟨t, hx, h.frame, h.ports⟩

/-- R179: KEEPALIVE. -/
theorem keepalive_idle (turn : s.inTurn .u (.keepalive tag) = true) :
    ∃ t, exec (.keepalive tag) s = .next t ∧ Frame [.ports] s t ∧
      t.ports = (s.takeRx .u (.keepalive tag)).ports := by
  refine ⟨_, rfl, ?_⟩
  rw [s.taken_inTurn .u _ _ turn]
  exact ⟨(s.takeRx_frame _ _).markChanges s, State.markChanges_ports _ s⟩

end

/-- Settles O56, request by request. -/
theorem settingsLevelsAndPlainRequests : Obligations.SettingsLevelsAndPlainRequests := by
  unfold Obligations.SettingsLevelsAndPlainRequests
  constructor
  · intro tag x y w s
    exact ⟨supervision_set tag x s, inputType_set tag x s, indexTimers_set tag x y s, pullTimer_set tag x s,
      screenRefresh_set tag x s, linkThreshold_set tag w s⟩
  · intro tag level kind op s
    exact ⟨terminalLevel_set tag level s, unknownRequest_refused tag kind op s, keepalive_idle tag s⟩

end Sys2Proof.Machine
end

section
/-! SUPPORT. RUN, CONFIG, the supply warning level, and the magazine stops (R93, R180, R181, R186). -/

namespace Sys2Proof.Machine

/-! ## Requests that raise an alarm or end a condition -/

/-- R179: a CONTROL request that left `u` is answered `r`. -/
def ControlAnswered (s : State) (tag : Byte) (r : Reply) (u t : State) : Prop :=
  Like (u.reply 3 tag r) t ∧
  t.alarms = u.alarms ∧ t.headA = u.headA ∧ t.headB = u.headB ∧ t.track = u.track ∧
  t.mgmt = u.mgmt ∧ t.ports = (u.reply 3 tag r).ports ∧
  Frame [.headA, .headB, .track, .alarms, .term, .ports, .mgmt] s t

theorem controlAnswered_of {s : State} {c : Instr} {tag : Byte} {body : State → State × Reply} (u : State)
    (r : Reply) (hx : exec c s = .next (s.request c 3 tag body)) (turn : s.inTurn .u c = true)
    (hb : body (s.takeRx .u c) = (u, r))
    (hu : Frame [.headA, .headB, .track, .alarms, .term, .ports, .mgmt] (s.takeRx .u c) u) :
    ∃ t, exec c s = .next t ∧ ControlAnswered s tag r u t := by
  refine ⟨_, hx, ?_⟩
  rw [s.request_inTurn c 3 tag body turn, hb]
  have frame : Frame [.headA, .headB, .track, .alarms, .term, .ports, .mgmt] s (u.reply 3 tag r) :=
    (((s.takeRx_frame _ _).mono (by simp)).trans hu).trans ((State.reply_frame _ _ _ _).mono (by simp))
  exact ⟨State.markChanges_like _ s, by simp, by simp, by simp, by simp, by simp, by simp, frame.markChanges s⟩

/-! ## RUN and CONFIG (R180, R181) -/

/-- R19: some device type is usable. -/
theorem Tables.usable_any (t : Tables) : (t.state.usable != 0) = (List.range 8).any t.usable := by
  rw [Bool.eq_iff_iff]
  simp [Tables.state, -List.length_filter_pos_iff]

theorem State.run_again (s : State) (h : s.mgmt.run = true) :
    { s with mgmt := { s.mgmt with run := true } } = s := by
  rw [← h]

section
variable (tag code : Byte) (s : State)

/-- R180: RUN. -/
theorem run_judged (turn : s.inTurn .u (.controlRun tag) = true) :
    ∃ t, exec (.controlRun tag) s = .next t ∧
      if s.mgmt.run = true ∨
          ((List.range 8).any s.tables.usable && s.tables.usable s.track.inputType) = true then
        ControlAnswered s tag .accepted
          (({ s.takeRx .u (.controlRun tag) with
            mgmt := { (s.takeRx .u (.controlRun tag)).mgmt with run := true } } : State).conditionGone
              .tableInvalid .part) t
      else ControlAnswered s tag (.refused .invalid) ((s.takeRx .u (.controlRun tag)).raise .tableInvalid .part) t := by
  let u := s.takeRx .u (.controlRun tag)
  have runs : Frame [.headA, .headB, .track, .alarms, .term, .ports, .mgmt] u { u with
      mgmt := { u.mgmt with run := true } } := by simp [Frame]
  have ended := runs.trans ((State.conditionGone_frame _ .tableInvalid .part).mono (by simp))
  rw [← s.tables.usable_any]
  by_cases run : s.mgmt.run = true
  · simp only [if_pos (Or.inl run)]
    have again := congrArg (fun v : State => (v.conditionGone .tableInvalid .part, Reply.accepted))
      (u.run_again run)
    exact controlAnswered_of _ _ rfl turn ((if_pos run).trans again.symm) ended
  by_cases good : (s.tables.state.usable != 0 && s.tables.usable s.track.inputType) = true
  · simp only [if_pos (Or.inr good)]
    exact controlAnswered_of _ _ rfl turn ((if_neg run).trans (if_pos good)) ended
  · simp only [if_neg (not_or.mpr ⟨run, good⟩)]
    exact controlAnswered_of _ _ rfl turn ((if_neg run).trans (if_neg good))
      ((State.raise_frame _ _ _).mono (by simp))

/-- R181: CONFIG. -/
theorem config_judged (turn : s.inTurn .u (.controlConfig tag) = true) :
    ∃ t, exec (.controlConfig tag) s = .next t ∧
      if s.mgmt.run = true ∧ configBusy s = true then
        ControlAnswered s tag (.refused .busy) (s.takeRx .u (.controlConfig tag)) t
      else ControlAnswered s tag .accepted { s.takeRx .u (.controlConfig tag) with
        mgmt := { (s.takeRx .u (.controlConfig tag)).mgmt with run := false } } t := by
  by_cases busy : s.mgmt.run = true ∧ configBusy s = true
  · have busy' : (s.mgmt.run && configBusy s) = true := by rw [Bool.and_eq_true]; exact busy
    simp only [if_pos busy]
    exact controlAnswered_of _ _ rfl turn (if_pos busy') (.refl _ _)
  · have free : ¬(s.mgmt.run && configBusy s) = true := by rw [Bool.and_eq_true]; exact busy
    simp only [if_neg busy]
    exact controlAnswered_of _ _ rfl turn (if_neg free) (by simp [Frame])

/-! ## The supply warning level (R186) -/

/-- R186: the supply judged, in one chain. -/
theorem State.judgeSupply_eq : s.judgeSupply =
    if s.mgmt.supplyMv < s.mgmt.warnLevel ∧ s.mgmt.supplyLow = false then
      (s.setSupplyLow true).raise .supplyLow .part
    else if s.mgmt.warnLevel + Config.hysteresisMv < s.mgmt.supplyMv ∧ s.mgmt.supplyLow = true then
      (s.setSupplyLow false).conditionGone .supplyLow .part
    else s := by
  unfold State.judgeSupply State.supplyFalls State.supplyRises
  by_cases below : s.mgmt.supplyMv < s.mgmt.warnLevel
  · have above : ¬s.mgmt.warnLevel + Config.hysteresisMv < s.mgmt.supplyMv := by omega
    cases s.mgmt.supplyLow <;> simp [below, above]
  · cases s.mgmt.supplyLow <;> simp [below]

theorem State.judgeSupply_frame :
    Frame [.headA, .headB, .track, .alarms, .term, .ports, .mgmt] s s.judgeSupply := by
  have set (b : Bool) : Frame [.headA, .headB, .track, .alarms, .term, .ports, .mgmt] s (s.setSupplyLow b) := by
    simp [Frame, State.setSupplyLow]
  rw [s.judgeSupply_eq]
  exact .ite ((set true).trans ((State.raise_frame _ _ _).mono (by simp)))
    (.ite ((set false).trans ((State.conditionGone_frame _ _ _).mono (by simp))) (.refl _ s))

theorem warnLevelOf_eq : warnLevelOf code = if 1 < code.toNat then none else some (code == 0) := by
  by_cases zero : code = 0
  · subst zero
    rfl
  by_cases one : code = 1
  · subst one
    rfl
  have high : 1 < code.toNat := by bv_omega
  rw [if_pos high, warnLevelOf, if_neg zero, if_neg one]

/-- R186: SUPPLY-LEVEL. -/
theorem supplyLevel_judged (turn : s.inTurn .u (.controlSupplyLevel tag code) = true) :
    let ss := s.takeRx .u (.controlSupplyLevel tag code)
    let level := if code = 0 then 3150 else 3050
    let u : State := { ss with mgmt := { ss.mgmt with warnHigh := code == 0 } }
    let low (v : Bool) : State := { u with mgmt := { u.mgmt with supplyLow := v } }
    ∃ t, exec (.controlSupplyLevel tag code) s = .next t ∧
      if 1 < code.toNat then ControlAnswered s tag (.refused .range) ss t
      else ControlAnswered s tag .accepted
        (if s.mgmt.supplyMv < level ∧ s.mgmt.supplyLow = false then (low true).raise .supplyLow .part
         else if level + 40 < s.mgmt.supplyMv ∧ s.mgmt.supplyLow = true then
           (low false).conditionGone .supplyLow .part
         else u) t := by
  intro ss level u low
  have body : exec (.controlSupplyLevel tag code) s = .next (s.request (.controlSupplyLevel tag code) 3 tag
      fun v => (warnLevelOf code).elim (v, .refused .range) fun x =>
        (({ v with mgmt := { v.mgmt with warnHigh := x } } : State).judgeSupply, .accepted)) := by
    cases o : warnLevelOf code <;> simp only [exec, execControlSupplyLevel, State.controlOn, o] <;> rfl
  by_cases high : 1 < code.toNat
  · simp only [if_pos high]
    refine controlAnswered_of _ _ body turn ?_ (.refl _ _)
    rw [warnLevelOf_eq, if_pos high]
    rfl
  · simp only [if_neg high]
    have selected : u.mgmt.warnLevel = level := by
      by_cases zero : code = 0 <;> simp [Mgmt.warnLevel, u, level, zero, Config.warnHighMv, Config.warnLowMv]
    have judged := u.judgeSupply_eq
    rw [selected] at judged
    refine controlAnswered_of _ _ body turn ?_ ?_
    · rw [warnLevelOf_eq, if_neg high]
      exact congrArg (·, Reply.accepted) judged
    · exact Frame.trans (by simp [Frame, u, ss]) (judged ▸ u.judgeSupply_frame)

end

/-! ## Magazine stops (R93) -/

section
variable (s : State) (k : Nat)

/-- R93: slot `k` of the input magazine becomes `x`, and the magazine `st`. -/
def State.slotPut (x : InSlot) (st : MagInState) : State :=
  { s with track := { s.track with
    magIn := { s.track.magIn with slots := s.track.magIn.slots.set (k - 1) x, state := st } } }

theorem State.slotPut_frame (x : InSlot) (st : MagInState) : Frame [.track] s (s.slotPut k x st) := by
  simp [Frame, State.slotPut]

theorem State.setStop_eq (set : Bool) : s.setStop k set =
    let m := s.track.magIn
    if m.state = .absent ∨ k = 0 ∨ m.count < k then (s, .refused .range)
    else if s.track.inFlight.any (fun q => q.inSlot == some k) = true then (s, .refused .busy)
    else if m.slot k = .taken ∨ m.slot k = .empty then (s, .refused .inconsistent)
    else if (m.slot k = .stop ∧ set = true) ∨ (m.slot k = .unreached ∧ set = false) then (s, .accepted)
    else if m.slot k = .stop then
      if m.cursor < k then (s.slotPut k .unreached m.state, .accepted) else (s, .refused .inconsistent)
    else if k = m.cursor ∧ m.state = .ready then
      ((s.slotPut k .stop .exhausted).raise .magInEmpty .track, .accepted)
    else (s.slotPut k .stop m.state, .accepted) := by
  have ordered : s.track.inFlight.elim false (fun q => q.inSlot == some k) =
      s.track.inFlight.any (fun q => q.inSlot == some k) := by cases s.track.inFlight <;> rfl
  unfold State.setStop
  rw [ordered]
  dsimp only
  refine if_congr Iff.rfl rfl (if_congr Iff.rfl rfl ?_)
  cases here : s.track.magIn.slot k <;> cases set <;> simp [State.slotPut]

end

/-- R93, R94: a stop that is set on the next slot ends the magazine. -/
theorem State.lastStop_raised (s : State) (k : Nat) :
    let u := (s.slotPut k .stop .exhausted).raise .magInEmpty .track
    u.track.magIn = (s.slotPut k .stop .exhausted).track.magIn ∧ u.track.strips = s.track.strips ∧
      u.ports = (s.raise .magInEmpty .track).ports ∧ u.alarms = (s.raise .magInEmpty .track).alarms := by
  dsimp only
  rw [State.raise_eq, State.raise_eq s]
  refine ⟨?_, ?_, rfl, rfl⟩ <;> dsimp only <;> split <;> rfl

/-- R93: MAG-STOP. -/
theorem magStop_judged (tag slot : Byte) (set : Bool) (s : State)
    (turn : s.inTurn .u (.controlMagStop tag slot set) = true) :
    let u := s.takeRx .u (.controlMagStop tag slot set)
    let k := slot.toNat
    let m := s.track.magIn
    let same (r : Reply) (t : State) : Prop := Frame [.ports] s t ∧ t.ports = (u.reply 3 tag r).ports
    let stands (v t : State) : Prop :=
      Frame [.track, .ports] s t ∧ t.track = v.track ∧ t.ports = (u.reply 3 tag .accepted).ports
    ∃ t, exec (.controlMagStop tag slot set) s = .next t ∧
      if m.state = .absent ∨ k = 0 ∨ m.count < k then same (.refused .range) t
      else if s.track.inFlight.any (fun q => q.inSlot == some k) = true then same (.refused .busy) t
      else if m.slot k = .taken ∨ m.slot k = .empty then same (.refused .inconsistent) t
      else if (m.slot k = .stop ∧ set = true) ∨ (m.slot k = .unreached ∧ set = false) then same .accepted t
      else if m.slot k = .stop then
        if m.cursor < k then stands (s.slotPut k .unreached m.state) t else same (.refused .inconsistent) t
      else if k = m.cursor ∧ m.state = .ready then
        Like (((u.slotPut k .stop .exhausted).raise .magInEmpty .track).reply 3 tag .accepted) t ∧
        t.track.magIn = (s.slotPut k .stop .exhausted).track.magIn ∧ t.track.strips = s.track.strips ∧
        t.ports = ((u.raise .magInEmpty .track).reply 3 tag .accepted).ports ∧
        t.alarms = (s.raise .magInEmpty .track).alarms ∧
        Frame [.headA, .headB, .track, .alarms, .term, .ports] s t
      else stands (s.slotPut k .stop m.state) t := by
  intro u k m same stands
  have answers (r : Reply) (hb : u.setStop k set = (u, r)) :
      ∃ t, exec (.controlMagStop tag slot set) s = .next t ∧ same r t := by
    obtain ⟨t, hx, h⟩ := exec_answered [.ports] r rfl turn hb (by simp)
    exact ⟨t, hx, h.frame, h.ports⟩
  have puts (x : InSlot) (st : MagInState) (hb : u.setStop k set = (u.slotPut k x st, .accepted)) :
      ∃ t, exec (.controlMagStop tag slot set) s = .next t ∧ stands (s.slotPut k x st) t := by
    obtain ⟨t, hx, h⟩ := exec_settled [.track, .ports] _ _ rfl turn hb
      ((u.slotPut_frame k x st).mono (by simp)) rfl (by simp)
    exact ⟨t, hx, h.frame, h.track, h.ports⟩
  have judged : u.setStop k set =
      if m.state = .absent ∨ k = 0 ∨ m.count < k then (u, .refused .range)
      else if s.track.inFlight.any (fun q => q.inSlot == some k) = true then (u, .refused .busy)
      else if m.slot k = .taken ∨ m.slot k = .empty then (u, .refused .inconsistent)
      else if (m.slot k = .stop ∧ set = true) ∨ (m.slot k = .unreached ∧ set = false) then (u, .accepted)
      else if m.slot k = .stop then
        if m.cursor < k then (u.slotPut k .unreached m.state, .accepted) else (u, .refused .inconsistent)
      else if k = m.cursor ∧ m.state = .ready then
        ((u.slotPut k .stop .exhausted).raise .magInEmpty .track, .accepted)
      else (u.slotPut k .stop m.state, .accepted) := u.setStop_eq k set
  by_cases h0 : m.state = .absent ∨ k = 0 ∨ m.count < k
  · rw [if_pos h0] at judged
    simp only [if_pos h0]
    exact answers _ judged
  rw [if_neg h0] at judged
  simp only [if_neg h0]
  by_cases h1 : s.track.inFlight.any (fun q => q.inSlot == some k) = true
  · rw [if_pos h1] at judged
    simp only [if_pos h1]
    exact answers _ judged
  rw [if_neg h1] at judged
  simp only [if_neg h1]
  by_cases h2 : m.slot k = .taken ∨ m.slot k = .empty
  · rw [if_pos h2] at judged
    simp only [if_pos h2]
    exact answers _ judged
  rw [if_neg h2] at judged
  simp only [if_neg h2]
  by_cases h3 : (m.slot k = .stop ∧ set = true) ∨ (m.slot k = .unreached ∧ set = false)
  · rw [if_pos h3] at judged
    simp only [if_pos h3]
    exact answers _ judged
  rw [if_neg h3] at judged
  simp only [if_neg h3]
  by_cases h4 : m.slot k = .stop
  · rw [if_pos h4] at judged
    simp only [if_pos h4]
    by_cases h5 : m.cursor < k
    · rw [if_pos h5] at judged
      simp only [if_pos h5]
      exact puts _ _ judged
    · rw [if_neg h5] at judged
      simp only [if_neg h5]
      exact answers _ judged
  rw [if_neg h4] at judged
  simp only [if_neg h4]
  by_cases h5 : k = m.cursor ∧ m.state = .ready
  · rw [if_pos h5] at judged
    simp only [if_pos h5]
    have raised : Frame [.headA, .headB, .track, .alarms, .term, .ports, .mgmt] u
        ((u.slotPut k .stop .exhausted).raise .magInEmpty .track) :=
      ((u.slotPut_frame k _ _).mono (by simp)).trans ((State.raise_frame _ _ _).mono (by simp))
    obtain ⟨t, hx, like, alarms, -, -, track, -, ports, -⟩ := controlAnswered_of _ _ rfl turn judged raised
    obtain ⟨magIn, strips, stopPorts, stopAlarms⟩ := u.lastStop_raised k
    refine ⟨t, hx, like, ?_, ?_, ?_, ?_, ?_⟩
    · rw [track, magIn]
      rfl
    · rw [track, strips]
      rfl
    · rw [ports, State.reply_ports, State.reply_ports, stopPorts]
    · rw [alarms, stopAlarms]
      exact (AlarmsAs.raise (AlarmsAs.of_frame (s.takeRx_frame _ _) (by simp) (by simp) (by simp) (by simp))
        rfl .magInEmpty .track).1
    · refine like.frame ?_
      exact (((s.takeRx_frame _ _).mono (by simp)).trans ((u.slotPut_frame k _ _).mono (by simp))).trans
        (((State.raise_frame _ _ _).mono (by simp)).trans ((State.reply_frame _ _ _ _).mono (by simp)))
  · rw [if_neg h5] at judged
    simp only [if_neg h5]
    exact puts _ _ judged

/-- Settles O57, request by request. -/
theorem runConfigSupplyLevelAndStops : Obligations.RunConfigSupplyLevelAndStops := by
  unfold Obligations.RunConfigSupplyLevelAndStops
  constructor
  · intro tag code s
    exact ⟨run_judged tag s, config_judged tag s, supplyLevel_judged tag code s⟩
  · intro tag slot set s
    exact magStop_judged tag slot set s

end Sys2Proof.Machine
end

section
/-! SUPPORT. What operations queue on port U, and the start of a pull in the words of the statements (R119, R172). -/

namespace Sys2Proof.Machine

/-! ## What is queued on port U -/

/-- R172: from `s` to `t` at most `k` frames, `n` of them NORMAL, came to port U, where what stood stays
queued; port PT is as it was. -/
structure Queues (k n : Nat) (s t : State) : Prop where
  grows : PortRec.Grows k n s.ports.u t.ports.u
  carries : ∀ m, s.ports.u.Carries m → t.ports.u.Carries m
  pull : t.port .pt = s.port .pt

section
variable {k n l m : Nat} {s t u : State}

theorem Queues.refl (s : State) : Queues 0 0 s s := ⟨.refl _, fun _ => id, rfl⟩

theorem Queues.trans (h : Queues k n s t) (g : Queues l m t u) : Queues (k + l) (n + m) s u :=
  ⟨h.grows.trans g.grows, fun x hx => g.carries x (h.carries x hx), g.pull.trans h.pull⟩

theorem Queues.mono (h : Queues k n s t) (hk : k ≤ l) (hn : n ≤ m) : Queues l m s t :=
  ⟨h.grows.mono hk hn, h.carries, h.pull⟩

theorem Queues.of_ports (hu : t.ports.u = s.ports.u) (hp : t.ports.pt = s.ports.pt) : Queues 0 0 s t :=
  ⟨hu ▸ .refl _, fun _ h => hu ▸ h, hp⟩

theorem Queues.of_frame {b : List Block} (h : Frame b s t) (hb : Block.ports ∉ b) : Queues 0 0 s t :=
  .of_ports (by rw [h.ports_eq hb]) (by rw [h.ports_eq hb])

end

theorem State.send_queues (s : State) (m : Msg) : Queues 1 1 s (s.send .u m) :=
  ⟨s.ports.u.enqueue_grows _ _ _ _ fun _ => le_rfl, fun n h => s.ports.enqueue_carries .u false n m h,
    s.send_port_ne .u .pt m (by decide)⟩

/-- R172: a NORMAL frame for which there is room. -/
theorem State.send_carries (s : State) (m : Msg) (live : s.ports.u.state ≠ .down) (length : s.ports.u.tx.length < 8)
    (normals : s.ports.u.normals < 6) : (s.send .u m).ports.u.Carries m := by
  refine s.ports.u.enqueue_self .u _ false m live ?_
  simp [PortRec.hasRoom, Config.queueDepth, Config.normalDepth, length, normals]

theorem Ports.noted_pt (ps : Ports) (b : Bool) (c : AlarmClass) (o : AlarmObject) (n : Nat) (w : NoteEvent) :
    (ps.noted b c o n w).pt = ps.pt := by
  unfold Ports.noted
  split
  · exact ps.enqueue_ne .u .pt _ _ (by decide)
  · rfl

theorem Ports.stopped_pt (ps : Ports) (a b : Bool) (held : Option HeldRequest) : (ps.stopped a b held).pt = ps.pt := by
  have other (p : Ports) (x : Port) (hx : Port.pt ≠ x) (u : Bool) (m : Msg) : (p.enqueue x u m).pt = p.pt :=
    p.enqueue_ne x .pt u m hx
  unfold Ports.stopped
  cases held <;> simp only [Option.elim_none, Option.elim_some] <;> split <;> split <;> simp [other]

/-- R138, R144: a raise with no held request queues its note. -/
theorem State.raise_queues (s : State) (c : AlarmClass) (o : AlarmObject) (unheld : s.track.held = none) :
    Queues 1 0 s (s.raise c o) := by
  refine ⟨?_, fun m h => s.raise_carries c o m h, ?_⟩
  · have grows := s.raise_grows c o
    rwa [s.raise_track_of_unheld c o unheld, unheld] at grows
  · rw [State.raise_eq]
    change (s.raisePorts c o).pt = s.ports.pt
    unfold State.raisePorts
    dsimp only
    split
    · rw [Ports.stopped_pt, Ports.noted_pt]
    · rw [Ports.noted_pt]

/-- R140, R145: the end of a condition queues its note. -/
theorem State.conditionGone_queues (s : State) (c : AlarmClass) (o : AlarmObject) :
    Queues 1 0 s (s.conditionGone c o) := by
  rw [State.conditionGone_eq]
  dsimp only
  cases (s.alarms.over c o).2 with
  | none => exact ⟨(PortRec.Grows.refl _).mono (Nat.zero_le _) le_rfl, fun _ h => h, rfl⟩
  | some y => exact ⟨s.ports.noted_grows _ _ _ _ _, fun m h => s.ports.noted_carries _ _ _ _ _ m h,
      s.ports.noted_pt _ _ _ _ _⟩

theorem State.markChanges_queues (s old : State) : Queues 0 0 s (s.markChanges old) :=
  .of_ports (by rw [State.markChanges_ports]) (by rw [State.markChanges_ports])

/-! ## The tasks of a pull (R118, R119) -/

theorem flatMap_filter {α β : Type} (p : α → Bool) (g : α → List β) (l : List α) :
    (l.filter p).flatMap g = l.flatMap fun a => if p a then g a else [] := by
  induction l with
  | nil => rfl
  | cons a l ih => cases h : p a <;> simp [h, ih]

/-- R119: the pinned record of a wire. -/
def pinnedRecord (l : List BondRecord) (strip u w : Nat) (k : BondKind) : Option BondRecord :=
  l.find? fun r => r.pinned && r.strip == strip && r.unit == u && r.wire == w && r.kind == k

/-- R119: the task of a wire with a pinned pair. -/
def pairTask (T : Tables) (l : List BondRecord) (x : Strip) (u w : Nat) : Option Task :=
  (pinnedRecord l x.id u w .ball).bind fun b => (pinnedRecord l x.id u w .stitch).map fun c =>
    ⟨u, w, ((T.wiresOf x).slot w).loop, b.number, b.head, c.number, c.head, none⟩

/-- R118, R119: the tasks of a pull over the records `l`, in the words of the statements. -/
def pullTasks (T : Tables) (l : List BondRecord) (x : Strip) : List Task :=
  (List.range (T.columnsOf x * T.rowsOf x)).flatMap fun u =>
    (List.range (T.wiresOf x).length).filterMap fun w =>
      if (T.plan x.device).units.contains u && (T.plan x.device).wires.contains w &&
          !((T.wiresOf x).slot w).skip && (x.units[u]?).any (fun r => r.state == .done) then
        pairTask T l x u w
      else none

theorem Store.pinnedPair_task (T : Tables) (y : Store) (x : Strip) (u w : Nat) :
    ((y.pinnedPair x.id u w).map fun p => ({
      unit := u, wire := w, loop := ((T.wiresOf x).slot w).loop, ballRecord := p.1.number, ballHead := p.1.head,
      stitchRecord := p.2.number, stitchHead := p.2.head, result := none } : Task)) =
      pairTask T y.records x u w := by
  have found (k : BondKind) : y.records.find? (fun r => r.pinned && r.isOf x.id u w k) =
      pinnedRecord y.records x.id u w k := by
    unfold pinnedRecord BondRecord.isOf
    simp only [Bool.and_assoc]
  unfold Store.pinnedPair pairTask
  rw [found, found]
  cases pinnedRecord y.records x.id u w .ball <;> cases pinnedRecord y.records x.id u w .stitch <;> rfl

theorem State.tasksOf_eq (s : State) (x : Strip) : s.tasksOf x = pullTasks s.tables s.store.records x := by
  have elim (u : Nat) : (x.units[u]?).elim false (fun r => r.state == .done) =
      (x.units[u]?).any (fun r => r.state == .done) := by cases x.units[u]? <;> rfl
  unfold State.tasksOf Tables.selected planNumbers pullTasks
  rw [flatMap_filter, List.filterMap_flatMap]
  congr 1
  funext u
  cases hu : (s.tables.plan x.device).units.contains u with
  | false => simp
  | true =>
    simp only [if_true, List.filterMap_map, List.filterMap_filter, Function.comp_def, Store.pinnedPair_task, elim,
      Bool.true_and]
    congr 1
    funext w
    cases (s.tables.plan x.device).wires.contains w <;> cases ((s.tables.wiresOf x).slot w).skip <;> simp

/-! ## The start of a pull -/

theorem State.pullOf_tasks (s : State) (x : Strip) :
    (s.pullOf x).tasks = pullTasks s.tables (unpinPull x s.store.records) x := State.tasksOf_eq _ x

/-- R119: where only the pull state and the window of the strip differ, its tasks are the same. -/
theorem pullTasks_congr (T : Tables) (l : List BondRecord) {x y : Strip} (id : y.id = x.id)
    (device : y.device = x.device) (units : y.units = x.units) : pullTasks T l y = pullTasks T l x := by
  have columns : T.columnsOf y = T.columnsOf x := by unfold Tables.columnsOf; rw [device]
  have rows : T.rowsOf y = T.rowsOf x := by unfold Tables.rowsOf; rw [device]
  have wires : T.wiresOf y = T.wiresOf x := by unfold Tables.wiresOf; rw [device]
  unfold pullTasks pairTask
  rw [columns, rows, wires, id, device, units]

/-- R119, R120: the start of the pull of `y`, in the words of the statements. -/
theorem PullStarts.begun {x y : Strip} {s s0 t : State} (h : PullStarts y s t) (id : y.id = x.id)
    (device : y.device = x.device) (units : y.units = x.units) (tables : s.tables = s0.tables)
    (pt : s.port .pt = s0.port .pt) : PullBegun x t.store.records s.puller s0 t := by
  have tasks : (s.pullOf y).tasks = pullTasks s0.tables t.store.records x := by
    rw [s.pullOf_tasks, pullTasks_congr _ _ id device units, tables, h.store]
  have pulled : t.pullState = if (s.pullOf y).tasks = [] then .complete else .waiting := by
    rw [State.pullState, h.track]
    rfl
  have pull : s.pullOf y = ⟨x.id, x.device, (s.pullOf y).tasks, (s0.tables.plan x.device).limit, false⟩ := by
    rw [← id, ← device, ← tables]
    rfl
  have fields : t.track.pull.map (fun y => (y.id, y.units)) = some (x.id, x.units) := by
    rw [h.track, ← id, ← units]
    rfl
  have judged : if (s.pullOf y).tasks = [] then
        t.puller = { s.puller with current := none, timer := none, ordersQueued := 0 } ∧ t.pullState = .complete
      else t.puller = { s.puller with
          current := some ⟨x.id, x.device, (s.pullOf y).tasks, (s0.tables.plan x.device).limit, false⟩
          ordersQueued := 0 } ∧ t.pullState = .waiting ∧
        (t.port .pt).state = if (s0.port .pt).state = .quiet then .waking .localEnd else (s0.port .pt).state := by
    have puller := h.puller
    have ports := h.ports
    by_cases ht : (s.pullOf y).tasks = []
    · rw [if_pos ht] at puller pulled ⊢
      exact ⟨puller, pulled⟩
    · rw [if_neg ht] at puller pulled ports ⊢
      refine ⟨by rw [puller, ← pull], pulled, ?_⟩
      have asked : t.port .pt = (s.port .pt).askWake := by
        rw [State.port, ports]
        rfl
      rw [asked, pt, PortRec.askWake]
      split <;> simp [*]
  rw [tasks] at judged
  exact ⟨fields, judged⟩

end Sys2Proof.Machine
end

section
/-! SUPPORT. A TRANSFER that agrees: its alarms, its frames and its strips (R92, R94, R107, R108, R114). -/

namespace Sys2Proof.Machine

/-! ## The delivery (R94, R107 step 1, R114) -/

/-- R92, R94: a raise that is due, beside what it does to the track. -/
theorem State.raiseIf_alarms (s : State) (p : Prop) [Decidable p] (d : Track) (c : AlarmClass) (o : AlarmObject) :
    AlarmsAs (if p then s.raise c o else s)
      (if p then ({ s with track := d } : State).raise c o else { s with track := d }) := by
  have same : AlarmsAs s { s with track := d } := ⟨rfl, rfl, rfl, rfl⟩
  split
  · exact same.raise rfl c o
  · exact same

theorem State.raiseIf_queues (s : State) (p : Prop) [Decidable p] (c : AlarmClass) (o : AlarmObject)
    (unheld : s.track.held = none) : Queues 1 0 s (if p then s.raise c o else s) := by
  split
  · exact s.raise_queues c o unheld
  · exact (Queues.refl s).mono (Nat.zero_le _) le_rfl

section
variable (s : State) (r : Nat) (x : Strip) (hx : s.track.exit = some x)
include hx

theorem State.deliver_alarms : AlarmsAs
    (if (s.track.magOut.fill r).state = .full then s.raise .magOutFull .track else s) (s.deliver r) := by
  rw [s.deliver_some r x hx]
  extract_lets a u v b
  exact (s.raiseIf_alarms _ _ _ _).trans ⟨rfl, rfl, rfl, rfl⟩

theorem State.deliver_queues (unheld : s.track.held = none) : Queues 2 1 s (s.deliver r) := by
  rw [s.deliver_some r x hx]
  extract_lets a u v b
  have raised : Queues 1 0 u v := u.raiseIf_queues _ _ _ unheld
  obtain ⟨grows, carries, pull⟩ := v.send_queues (x.report (some r))
  exact ⟨raised.grows.trans grows, fun m h => carries m (raised.carries m h), pull.trans raised.pull⟩

/-- R114: up to three frames on port U leave room for the STRIP-REPORT. -/
theorem State.deliver_carries (unheld : s.track.held = none) (live : s.ports.u.state ≠ .down)
    (few : s.ports.u.tx.length ≤ 3) : (s.deliver r).ports.u.Carries (x.report (some r)) := by
  rw [s.deliver_some r x hx]
  extract_lets a u v b
  have raised : Queues 1 0 u v := u.raiseIf_queues _ _ _ unheld
  obtain ⟨length, normals, still⟩ := raised.grows
  have le := u.ports.u.normals_le
  have few : u.ports.u.tx.length ≤ 3 := few
  exact State.send_carries _ _ (still live) (by change v.ports.u.tx.length < 8; omega)
    (by change v.ports.u.normals < 6; omega)

end

/-- R94, R107 step 1: the delivery of the strip at EXIT, where a slot is reported. -/
def State.delivered (s : State) (o : Option Nat) : State := o.elim s fun r => s.happens fun s => s.deliver r

section
variable (s : State) (o : Option Nat) (exits : o.isSome = s.track.exit.isSome)
include exits

theorem State.delivered_alarms (p : Prop) [Decidable p] (hp : p ↔ ∃ r ∈ o, (s.track.magOut.fill r).state = .full) :
    AlarmsAs (if p then s.raise .magOutFull .track else s) (s.delivered o) := by
  cases o with
  | none =>
    rw [if_neg fun h => by simpa using hp.mp h]
    exact .refl s
  | some r =>
    obtain ⟨x, hx⟩ := Option.isSome_iff_exists.mp exits.symm
    have alarms := s.deliver_alarms r x hx
    have full : (s.track.magOut.fill r).state = .full ↔ p := by simp [hp]
    rw [if_congr full rfl rfl] at alarms
    exact alarms.trans (State.markChanges_alarmsAs _ s)

theorem State.delivered_queues (unheld : s.track.held = none) : Queues 2 1 s (s.delivered o) := by
  cases o with
  | none => exact (Queues.refl s).mono (Nat.zero_le _) (Nat.zero_le _)
  | some r =>
    obtain ⟨x, hx⟩ := Option.isSome_iff_exists.mp exits.symm
    exact (s.deliver_queues r x hx unheld).trans (State.markChanges_queues _ s)

theorem State.delivered_carries (unheld : s.track.held = none) (live : s.ports.u.state ≠ .down)
    (few : s.ports.u.tx.length ≤ 3) : ∀ x ∈ s.track.exit, (s.delivered o).ports.u.Carries (x.report o) := by
  intro x hx
  obtain ⟨r, rfl⟩ := Option.isSome_iff_exists.mp (exits.trans (Option.isSome_of_mem hx))
  exact (State.markChanges_queues _ s).carries _ (s.deliver_carries r x hx unheld live few)

end

theorem State.delivered_frame (s : State) (o : Option Nat) : Frame raiseBlocks s (s.delivered o) := by
  cases o with
  | none => exact .refl _ s
  | some r => exact s.happens_frame (fun s => s.deliver r) (s.deliver_frame r)

theorem State.delivered_track (s : State) (o : Option Nat) (unheld : s.track.held = none) :
    (s.delivered o).track = s.track.reported o := by
  cases o with
  | none => rfl
  | some r =>
    rw [State.delivered, Option.elim_some, State.happens_track, s.deliver_track r unheld]
    rfl

/-! ## The input magazine (R92, R107 step 5) -/

section
variable (s : State) (q : FlightRequest) (i : Option Nat)

theorem State.drawStrip_alarms (p : Prop) [Decidable p] (hp : p ↔ ∃ k ∈ q.drawn,
      (s.track.magIn.passSlot k (if i = none then .empty else .taken)).state = .exhausted) :
    AlarmsAs (if p then s.raise .magInEmpty .track else s) (s.drawStrip q i) := by
  cases hk : q.drawn with
  | none =>
    rw [if_neg fun h => by simpa [hk] using hp.mp h, s.drawStrip_none q i hk]
    exact .refl s
  | some k =>
    rw [s.drawStrip_some q i k hk]
    extract_lets m a u v
    have taken : AlarmsAs s v := by
      simp only [v]
      split <;> exact ⟨rfl, rfl, rfl, rfl⟩
    have tables : v.tables = s.tables := by
      simp only [v]
      split <;> rfl
    have same : m.state = .exhausted ↔ p := by simp [hp, hk, m]
    rw [if_congr same rfl rfl]
    split
    · exact taken.raise tables _ _
    · exact taken

theorem State.drawStrip_queues (unheld : s.track.held = none) : Queues 1 0 s (s.drawStrip q i) := by
  cases hk : q.drawn with
  | none =>
    rw [s.drawStrip_none q i hk]
    exact (Queues.refl s).mono (Nat.zero_le _) le_rfl
  | some k =>
    rw [s.drawStrip_some q i k hk]
    extract_lets m a u v
    have taken : Queues 0 0 s v := by
      simp only [v]
      split <;> exact .of_ports rfl rfl
    have held : v.track.held = none := by
      simp only [v]
      split <;> exact unheld
    exact taken.trans (v.raiseIf_queues _ _ _ held)

end

/-! ## The moves (R78, R107) -/

/-- R78: the records once the pins of the strip `x` are released. -/
def unpinStrip (x : Option Strip) (l : List BondRecord) : List BondRecord :=
  l.map fun r => if x.any (fun y => r.strip == y.id) then { r with pinned := false } else r

theorem State.moveStrips_unpins (s : State) :
    s.moveStrips.store = { s.store with records := unpinStrip s.track.pull s.store.records } := by
  rw [State.moveStrips_store]
  cases s.track.pull with
  | none => simp [unpinStrip]
  | some x => rfl

/-- R107: the delivery leaves the other positions, the input magazine, and a request held. -/
theorem Track.reported_kept (t : Track) (o : Option Nat) :
    (t.reported o).magIn = t.magIn ∧ (t.reported o).held = t.held ∧ (t.reported o).pull = t.pull := by
  unfold Track.reported
  cases o with
  | none => exact ⟨rfl, rfl, rfl⟩
  | some r => cases t.exit <;> exact ⟨rfl, rfl, rfl⟩

/-- R107: what the moves of a TRANSFER that agrees leave, with no request held. -/
structure Moved (s : State) (o : Option Nat) (f : Sys2Proof.Frame) (p r : Prop) [Decidable p] [Decidable r]
    (t : State) : Prop where
  alarms : AlarmsAs (if r then (if p then s.raise .magOutFull .track else s).raise .magInEmpty .track
    else if p then s.raise .magOutFull .track else s) t
  store : t.store = { s.store with records := unpinStrip s.track.pull s.store.records }
  queues : Queues 4 2 s t
  report : s.ports.u.state ≠ .down → s.ports.u.tx.length ≤ 3 →
    ∀ x ∈ s.track.exit, t.ports.u.Carries (x.report o)
  forwards : s.ports.u.state ≠ .down → s.ports.u.tx.length ≤ 3 → t.ports.u.Carries (.forwarded f)

theorem State.transferMoved_moved (s : State) {c : Instr} (q : FlightRequest) (i o : Option Nat)
    {x : Port} {f : Sys2Proof.Frame} (hf : frameOf c = some (x, f))
    (exits : o.isSome = s.track.exit.isSome) (unheld : s.track.held = none)
    (p r : Prop) [Decidable p] [Decidable r] (hp : p ↔ ∃ k ∈ o, (s.track.magOut.fill k).state = .full)
    (hr : r ↔ ∃ k ∈ q.drawn,
      (s.track.magIn.passSlot k (if i = none then .empty else .taken)).state = .exhausted) :
    Moved s o f p r (s.transferMoved c q i o) := by
  let u : State := { s with track := { s.track with inFlight := none, doneTimer := none } }
  let d := u.delivered o
  let m := d.moveStrips
  let w := m.happens fun s => s.drawStrip q i
  have moved : s.transferMoved c q i o = w.forward c := rfl
  have sent : w.forward c = w.send .u (.forwarded f) := w.forward_of hf
  have delivered : d.track = u.track.reported o := u.delivered_track o unheld
  have deliveredFrame : Frame raiseBlocks u d := u.delivered_frame o
  have movedFrame : Frame [.track, .store] d m := d.moveStrips_frame
  have drawn : Frame raiseBlocks m w := m.happens_frame (fun s => s.drawStrip q i) (m.drawStrip_frame q i)
  obtain ⟨magIn, held, pull⟩ := u.track.reported_kept o
  rw [← delivered] at magIn held pull
  have placed : m.track = d.track.moves := d.moveStrips_track
  have magIn' : m.track.magIn = s.track.magIn := by rw [placed]; exact magIn
  have held' : m.track.held = none := by rw [placed]; exact held.trans unheld
  have queued : Queues 2 1 u d := u.delivered_queues o exits unheld
  have stays : Queues 0 0 d m := .of_frame movedFrame (by simp)
  have draws : Queues 1 0 m w := (m.drawStrip_queues q i held').trans (State.markChanges_queues _ m)
  obtain ⟨grows, carries, pt⟩ := (queued.trans stays).trans draws
  have report : s.ports.u.state ≠ .down → s.ports.u.tx.length ≤ 3 →
      ∀ x ∈ s.track.exit, w.ports.u.Carries (x.report o) := fun live few x hx =>
    (stays.trans draws).carries _ (u.delivered_carries o exits unheld live few x hx)
  rw [moved, sent]
  have told := w.send_queues (.forwarded f)
  refine ⟨?_, ?_, ⟨grows.trans told.grows, fun m h => told.carries m (carries m h), told.pull.trans pt⟩,
    fun live few x hx => told.carries _ (report live few x hx), fun live few => ?_⟩
  · have first : AlarmsAs (if p then s.raise .magOutFull .track else s) d :=
      (s.raiseIf_alarms p u.track _ _).trans (u.delivered_alarms o exits p hp)
    have second := first.trans (.of_frame movedFrame (by simp) (by simp) (by simp) (by simp))
    have third := (m.drawStrip_alarms q i r (by rw [hr, magIn'])).trans (State.markChanges_alarmsAs _ m)
    have fourth : AlarmsAs w (w.send .u (.forwarded f)) := ⟨rfl, rfl, rfl, rfl⟩
    refine AlarmsAs.trans ?_ (third.trans fourth)
    split
    · refine second.raise ?_ _ _
      have raised : Frame raiseBlocks s (if p then s.raise .magOutFull .track else s) :=
        .ite (s.raise_frame _ _) (.refl _ s)
      rw [raised.tables_eq (by simp), movedFrame.tables_eq (by simp), deliveredFrame.tables_eq (by simp)]
    · exact second
  · rw [State.send_store, drawn.store_eq (by simp), State.moveStrips_unpins, pull, deliveredFrame.store_eq (by simp)]
  · have le := s.ports.u.normals_le
    have length := grows.length
    have normals := grows.normals
    have same : u.ports = s.ports := rfl
    rw [same] at length normals
    exact w.send_carries _ (grows.live live) (by omega) (by omega)

/-! ## The start of the pull, in the words of the statements (R119, R128) -/

theorem PullStarts.alarms_current {x : Strip} {s t : State} (h : PullStarts x s t) :
    AlarmsAs (if t.puller.current = none then s.conditionGone .pullTimeout .pullStation else s) t := by
  have current : t.puller.current = none ↔ (s.pullOf x).tasks = [] := by
    rw [h.puller]
    split <;> simp [*]
  rw [if_congr current rfl rfl]
  exact h.alarms

theorem PullStarts.carries {x : Strip} {s t : State} (h : PullStarts x s t) (m : Msg) (hm : s.ports.u.Carries m) :
    t.ports.u.Carries m := by
  rw [h.ports]
  split
  · exact (s.conditionGone_queues _ _).carries m hm
  · exact hm

/-- R119: what the start of a pull that may be due leaves of alarms and port U. -/
theorem State.startPull_leaves (s : State) (unheld : s.track.held = none) :
    AlarmsAs (if (s.track.pull.any (fun x => x.pullDue) = true) ∧ s.startPull.puller.current = none then
      s.conditionGone .pullTimeout .pullStation else s) s.startPull ∧
    ∀ m, s.ports.u.Carries m → s.startPull.ports.u.Carries m := by
  by_cases due : s.track.pull.any (fun x => x.pullDue) = true
  · obtain ⟨x, hx, hd⟩ := (Option.any_eq_true _ _).mp due
    have starts := s.startPull_due x hx hd unheld
    rw [if_congr (and_iff_right due) rfl rfl]
    exact ⟨starts.alarms_current, starts.carries⟩
  · have still : s.startPull = s := s.startPull_none fun x hx => by
      rw [hx] at due
      simpa using due
    rw [if_neg fun h => due h.1, still]
    exact ⟨.refl s, fun _ h => h⟩

/-! ## The track of a TRANSFER that agrees -/

section
variable (t : Track) (T : Tables) (q : FlightRequest) (i o : Option Nat)

theorem Track.reported_eq : t.reported o = { t with
    magOut := (t.reported o).magOut
    delivered := (t.reported o).delivered
    lastDelivered := (t.reported o).lastDelivered
    exit := (t.reported o).exit } := by
  unfold Track.reported
  cases o with
  | none => rfl
  | some r => cases t.exit <;> rfl

/-- R107: the track behind the moves, by the delivery and the draw. -/
theorem Track.transferred_eq : t.transferred T q i o =
    let u := t.reported o
    let v := q.drawn.elim { t with entry := none } ({ t with entry := none }.draws T i)
    { t with
      magOut := u.magOut
      delivered := u.delivered
      lastDelivered := u.lastDelivered
      exit := t.pull
      pull := t.bond
      bond := t.entry.map fun x => { x with window := 0 }
      entry := v.entry
      magIn := v.magIn
      taken := v.taken
      stripCounter := v.stripCounter
      inFlight := none
      doneTimer := none } := by
  have same : ({ t with inFlight := none, doneTimer := none } : Track).reported o =
      { t.reported o with inFlight := none, doneTimer := none } := by
    cases o with
    | none => rfl
    | some r =>
      cases t with
      | mk entry bond pull exit => cases exit <;> rfl
  unfold Track.transferred
  rw [same, t.reported_eq o]
  cases q.drawn with
  | none => rfl
  | some k => cases i <;> rfl

end

/-- R94, R107: the output magazine of a delivery into slot `r`. -/
theorem MagOut.fill_eq (m : MagOut) (r : Nat) : m.fill r = { m with
    slots := m.slots.zipIdx.map fun y => if m.cursor ≤ y.2 + 1 ∧ y.2 < r then .filled else y.1
    cursor := r + 1
    state := if r + 1 > m.count then .full else m.state } := by
  unfold MagOut.fill
  dsimp only
  split <;> rfl

theorem MagOut.fill_full (m : MagOut) (r : Nat) (ready : m.state = .ready) :
    (m.fill r).state = .full ↔ r + 1 > m.count := by
  rw [m.fill_eq]
  dsimp only
  split <;> simp [*]

/-- R92: the input magazine behind its slot `k`. -/
theorem MagIn.passSlot_eq (m : MagIn) (k : Nat) (x : InSlot) : m.passSlot k x =
    let slots := m.slots.set (k - 1) x
    { m with
      slots := slots
      cursor := k + 1
      state := if m.count < k + 1 ∨ slots.getD k .unreached = .stop then .exhausted else m.state } := by
  change (if m.count < k + 1 ∨ (m.slots.set (k - 1) x).getD k .unreached = .stop then _ else _) = _
  dsimp only
  split <;> rfl

theorem MagIn.passSlot_exhausted (m : MagIn) (k : Nat) (x : InSlot) (ready : m.state = .ready) :
    (m.passSlot k x).state = .exhausted ↔ m.count < k + 1 ∨ (m.slots.set (k - 1) x).getD k .unreached = .stop := by
  rw [m.passSlot_eq]
  dsimp only
  split
  · next h => exact iff_of_true rfl h
  · next h => exact iff_of_false (by rw [ready]; nofun) h

/-! ## What an INDEX-DONE TRANSFER that agrees says -/

section
variable {t : Track} {q : FlightRequest} {i o : Byte} (hq : t.inFlight = some q)
  (agrees : transferMismatch t q (slotOf i) (slotOf o) = false) (flight : FlightInv t)
include hq agrees flight

/-- R94, R103: the output magazine that the request names is READY. -/
theorem output_ready (ho : o ≠ 0) : t.magOut.state = .ready := by
  have said := transferAgrees_of agrees
  obtain ⟨-, -, output⟩ := flight q hq said.kind
  rw [transferMismatch_parts] at agrees
  simp only [Bool.or_eq_false_iff, Bool.and_eq_false_iff] at agrees
  obtain ⟨⟨-, changed⟩, -⟩ := agrees
  have named : q.outSlot.isSome = true := by rw [← said.output, slotOf, if_neg ho]; rfl
  obtain ⟨k, hk⟩ := Option.isSome_iff_exists.mp named
  exact (output k hk (by simpa [named] using changed)).1

theorem full_iff : o ≠ 0 ∧ (o.toNat : Nat) + 1 > t.magOut.count ↔
    ∃ k ∈ slotOf o, (t.magOut.fill k).state = .full := by
  by_cases ho : o = 0
  · simp [slotOf, ho]
  · have ready := output_ready hq agrees flight ho
    simp [slotOf, MagOut.fill_full _ _ ready]

/-- R92, R103: the input magazine that the request draws from is READY. -/
theorem exhausted_iff : (q.inChanged = false ∧ q.inSlot.isSome = true) ∧
      (t.magIn.count < q.inSlot.getD 0 + 1 ∨
        (t.magIn.slots.set (q.inSlot.getD 0 - 1) (if i = 0 then InSlot.empty else .taken)).getD (q.inSlot.getD 0)
          .unreached = .stop) ↔
    ∃ k ∈ q.drawn, (t.magIn.passSlot k (if slotOf i = none then .empty else .taken)).state = .exhausted := by
  have said := transferAgrees_of agrees
  obtain ⟨-, input, -⟩ := flight q hq said.kind
  have zero : slotOf i = none ↔ i = 0 := by
    unfold slotOf
    split
    · next h => exact iff_of_true rfl h
    · next h => exact iff_of_false nofun h
  rw [if_congr zero rfl rfl]
  unfold FlightRequest.drawn
  cases hc : q.inChanged with
  | true => simp
  | false =>
    cases hs : q.inSlot with
    | none => simp
    | some k =>
      have ready := (input k hs hc).1
      simp [MagIn.passSlot_exhausted _ _ _ ready]

end

section
variable (t : Track) (T : Tables) (q : FlightRequest) (i o : Byte)

/-- R94, R107: the delivery, in the words of the statement. -/
theorem reported_fields (exits : (slotOf o).isSome = t.exit.isSome) :
    let u := t.reported (slotOf o)
    if o = 0 then u.magOut = t.magOut ∧ u.delivered = t.delivered ∧ u.lastDelivered = t.lastDelivered
    else u.delivered = min 4294967295 (t.delivered + 1) ∧
      u.lastDelivered = t.exit.map (fun x => ⟨x.id, x.doneCount, x.rejectCount⟩) ∧
      u.magOut = { t.magOut with
        slots := t.magOut.slots.zipIdx.map fun y =>
          if t.magOut.cursor ≤ y.2 + 1 ∧ y.2 < o.toNat then .filled else y.1
        cursor := o.toNat + 1
        state := if (o.toNat : Nat) + 1 > t.magOut.count then .full else t.magOut.state } := by
  by_cases ho : o = 0
  · rw [if_pos ho, slotOf, if_pos ho]
    exact ⟨rfl, rfl, rfl⟩
  · rw [slotOf, if_neg ho] at exits
    obtain ⟨x, hx⟩ := Option.isSome_iff_exists.mp exits.symm
    rw [if_neg ho, slotOf, if_neg ho, Track.reported, hx]
    exact ⟨rfl, rfl, t.magOut.fill_eq _⟩

/-- R92, R107 step 5, R108: the draw, in the words of the statement. -/
theorem drawn_fields :
    let v := q.drawn.elim { t with entry := none } ({ t with entry := none }.draws T (slotOf i))
    let drawn := q.inChanged = false ∧ q.inSlot.isSome = true
    let k := q.inSlot.getD 0
    let slots := t.magIn.slots.set (k - 1) (if i = 0 then InSlot.empty else .taken)
    let n := min 4294967295 (t.stripCounter + 1)
    let interval := (T.plan t.inputType).interval
    (if drawn then v.magIn = { t.magIn with
        slots := slots
        cursor := k + 1
        state := if t.magIn.count < k + 1 ∨ slots.getD k .unreached = .stop then .exhausted else t.magIn.state }
     else v.magIn = t.magIn) ∧
    (if drawn ∧ i ≠ 0 then
      v.entry = some (T.newStrip (t.loadCount % 1024 * 64 + k) t.inputType 0 (0 < interval && n % interval == 0)) ∧
      v.taken = min 4294967295 (t.taken + 1) ∧ v.stripCounter = n
     else v.entry = none ∧ v.taken = t.taken ∧ v.stripCounter = t.stripCounter) := by
  intro v drawn k slots n interval
  by_cases hd : drawn
  · have takes : q.drawn = some k := by
      obtain ⟨hc, hs⟩ := hd
      obtain ⟨j, hj⟩ := Option.isSome_iff_exists.mp hs
      simp [FlightRequest.drawn, hc, k, hj]
    have hv : v = ({ t with entry := none } : Track).draws T (slotOf i) k := by
      simp only [v]
      rw [takes]
      rfl
    rw [hv, if_pos hd]
    by_cases hi : i = 0
    · rw [if_neg (fun h : drawn ∧ i ≠ 0 => h.2 hi), slotOf, if_pos hi]
      simp only [slots, if_pos hi]
      exact ⟨t.magIn.passSlot_eq k .empty, rfl, rfl, rfl⟩
    · rw [if_pos (⟨hd, hi⟩ : drawn ∧ i ≠ 0), slotOf, if_neg hi]
      simp only [slots, if_neg hi]
      exact ⟨t.magIn.passSlot_eq k .taken, rfl, rfl, rfl⟩
  · have takes : q.drawn = none := by
      unfold FlightRequest.drawn
      cases hc : q.inChanged with
      | true => rfl
      | false => simpa [drawn, hc] using hd
    have hv : v = { t with entry := none } := by
      simp only [v]
      rw [takes]
      rfl
    rw [hv, if_neg hd, if_neg (fun h : drawn ∧ i ≠ 0 => hd h.1)]
    exact ⟨rfl, rfl, rfl, rfl⟩

end

/-- R78: a pin released. -/
def BondRecord.unpin (r : BondRecord) : BondRecord := { r with pinned := false }

theorem BondRecord.unpin_if (r : BondRecord) (f g : BondRecord → Bool) :
    let u := if f r then r.unpin else r
    (if g u then u.unpin else u) = if f r || g r then r.unpin else r := by
  cases hf : f r with
  | true =>
    simp only [if_true, Bool.true_or]
    split <;> rfl
  | false => simp

/-- R78, R119: the pins that the moves and the start of a pull release together. -/
theorem unpinPull_unpinStrip (a : Option Strip) (x : Strip) (l : List BondRecord) :
    unpinPull x (unpinStrip a l) = l.map fun r =>
      if (a.any (fun y => r.strip == y.id) ||
          (r.strip == x.id && (x.units[r.unit]?).all fun y => y.state != .done)) = true then
        { r with pinned := false }
      else r := by
  have undone (k : Nat) : (!(x.units[k]?).elim false fun y => y.state == .done) =
      (x.units[k]?).all fun y => y.state != .done := by cases x.units[k]? <;> rfl
  unfold unpinPull unpinStrip
  rw [List.map_map]
  refine List.map_congr_left fun r _ => ?_
  have twice := r.unpin_if (fun r => a.any fun y => r.strip == y.id)
    (fun r => r.strip == x.id && (x.units[r.unit]?).all fun y => y.state != .done)
  refine Eq.trans ?_ twice
  simp only [Function.comp, undone]
  rfl

theorem PullBegun.markChanges {x : Strip} {l : List BondRecord} {p : Puller} {s t : State}
    (h : PullBegun x l p s t) (old : State) : PullBegun x l p s (t.markChanges old) := by
  rw [show t.markChanges old = _ from t.markChanges_like old]
  exact h

/-- R92, R94: the raises of a TRANSFER, where the alarms agree. -/
theorem AlarmsAs.raises {s t : State} (h : AlarmsAs s t) (tables : t.tables = s.tables) (p r : Prop) [Decidable p]
    [Decidable r] : AlarmsAs
      (if r then (if p then s.raise .magOutFull .track else s).raise .magInEmpty .track
        else if p then s.raise .magOutFull .track else s)
      (if r then (if p then t.raise .magOutFull .track else t).raise .magInEmpty .track
        else if p then t.raise .magOutFull .track else t) := by
  have first : AlarmsAs (if p then s.raise .magOutFull .track else s)
      (if p then t.raise .magOutFull .track else t) := by
    split
    · exact h.raise tables _ _
    · exact h
  have same (u : State) : (if p then u.raise .magOutFull .track else u).tables = u.tables := by
    split
    · exact (u.raise_frame _ _).tables_eq (by simp)
    · rfl
  split
  · exact first.raise (by rw [same, same, tables]) _ _
  · exact first

/-- Settles O41: the moves of the strips, the alarms and frames behind them, and the pull that may start. -/
theorem transfersMoveTheStrips : Obligations.TransfersMoveTheStrips := by
  unfold Obligations.TransfersMoveTheStrips
  intro e i o q s old hq agrees inv full drawn k slots exhausted n interval notDone released records count turn
  obtain ⟨-, -, -, flight, -⟩ := id inv
  have said := transferAgrees_of agrees
  have unheld := inv.unheld hq
  obtain ⟨outputs, -, -⟩ := flight q hq said.kind
  have exits : (slotOf o).isSome = s.track.exit.isSome := said.output.trans outputs
  have fullIff : o ≠ 0 ∧ full ↔ _ := full_iff hq agrees flight
  have exhaustedIff : drawn ∧ exhausted ↔ _ := exhausted_iff hq agrees flight
  obtain ⟨t, hx, -, flying⟩ := indexDoneTransfer_judged e i o s turn
  have flying := flying q hq
  rw [transferMismatch_eq hq, Bool.not_eq_false'] at agrees
  rw [if_pos agrees] at flying
  let c : Instr := .indexDoneTransfer e i o
  let w := s.takeRx .ix c
  let y := w.transferMoved c q (slotOf i) (slotOf o)
  have moved : Moved w (slotOf o) ⟨e.dst, e.src, 0x22, [1, i, o] ++ e.extra⟩ (o ≠ 0 ∧ full) (drawn ∧ exhausted) y :=
    w.transferMoved_moved (c := c) q _ _ rfl exits unheld _ _ fullIff exhaustedIff
  have frame : Frame (.store :: raiseBlocks) s y :=
    ((s.takeRx_frame .ix c).mono (by simp)).trans (w.transferMoved_frame c q _ _)
  have track : y.track = s.track.transferred s.tables q (slotOf i) (slotOf o) := w.transferMoved_track c q _ _ unheld
  have unheld' : y.track.held = none := by rw [track, (Track.transferred_requests _ _ _ _ _).1, unheld]
  have bond : y.track.pull = old.bond := by rw [track, Track.transferred_eq]
  have done : w.transferDone c q (slotOf i) (slotOf o) = y.startPull := rfl
  rw [done] at flying
  have started := y.startPull_requests unheld'
  rw [track, Track.transferred_eq] at started
  obtain ⟨alarms, carries⟩ := y.startPull_leaves unheld'
  have rest : Frame pullBlocks s y.startPull := (frame.mono (by simp)).trans y.startPull_frame
  obtain ⟨-, tables, -, -, engineA, engineB, -, -, -, -, -, -, mgmt⟩ := id (rest.markChanges s)
  have pending := (rest.markChanges s).1
  have moves : y.store = { s.store with records := unpinStrip old.pull s.store.records } := moved.store
  have idle (h : ∀ x ∈ old.bond, x.pullDue = false) : y.startPull = y := y.startPull_none (bond ▸ h)
  have starts (x : Strip) (hx : x ∈ old.bond) (due : x.pullDue = true) : PullStarts x y y.startPull :=
    y.startPull_due x (bond.trans hx) due unheld'
  have undue (h : ∀ x ∈ old.bond, x.pullDue = false) : records = unpinStrip old.pull s.store.records := by
    refine List.map_congr_left fun r _ => ?_
    have none_due : (old.bond.any fun x => x.pullDue && r.strip == x.id && notDone x r.unit) = false := by
      cases hb : old.bond with
      | none => rfl
      | some x => simp [h x hb]
    simp only [released, none_due, Bool.or_false]
  have due_records (x : Strip) (hx : x ∈ old.bond) (due : x.pullDue = true) :
      records = unpinPull x (unpinStrip old.pull s.store.records) := by
    rw [unpinPull_unpinStrip]
    refine List.map_congr_left fun r _ => ?_
    simp only [released, Option.mem_def.mp hx, Option.any_some, due, Bool.true_and]
    rfl
  have store : y.startPull.store = { s.store with records := records } := by
    by_cases h : ∀ x ∈ old.bond, x.pullDue = false
    · rw [idle h, moves, undue h]
    · simp only [not_forall, Bool.not_eq_false] at h
      obtain ⟨x, hx, due⟩ := h
      rw [(starts x hx due).store, moves, due_records x hx due]
  have trackT : t.track = _ := (flying ▸ State.markChanges_track _ s : t.track = y.startPull.track).trans started
  have storeT : t.store = y.startPull.store := flying ▸ State.markChanges_store _ s
  have pullerT : t.puller = y.startPull.puller := flying ▸ State.markChanges_puller _ s
  have portsT : t.ports = y.startPull.ports := flying ▸ State.markChanges_ports _ s
  have alarmsT : AlarmsAs y.startPull t := flying ▸ State.markChanges_alarmsAs _ s
  rw [← flying] at tables engineA engineB mgmt pending
  have same : y.puller = s.puller := frame.puller_eq (by simp)
  have delivery := reported_fields s.track o exits
  have draw := drawn_fields s.track s.tables q i
  refine ⟨t, hx, ?_, storeT.trans store, fun h => ?_, fun x hx due => ?_, ?_, fun live few => ?_,
    fun x hx live few => ?_, ?_, ?_, ?_, ?_, ?_, ?_, ?_, ?_, ?_, ?_, tables (by simp), mgmt (by simp),
    engineA (by simp), engineB (by simp), pending⟩
  · rw [trackT]
  · have none_due : ∀ x ∈ old.bond, x.pullDue = false := fun x hx => by
      rw [Option.mem_def.mp hx] at h
      simpa using h
    rw [trackT, pullerT, idle none_due]
    exact ⟨bond, same⟩
  · have begun := (starts x hx due).begun (x := x) (s0 := s) rfl rfl rfl (frame.tables_eq (by simp)) moved.queues.pull
    rw [store, same] at begun
    rw [flying]
    exact begun.markChanges s
  · intro filled drew begun
    have taken : AlarmsAs s w := .of_frame (s.takeRx_frame .ix c) (by simp) (by simp) (by simp) (by simp)
    have drawnAs : AlarmsAs drew y := (taken.raises rfl (o ≠ 0 ∧ full) (drawn ∧ exhausted)).trans moved.alarms
    rw [bond, ← pullerT] at alarms
    refine AlarmsAs.trans ?_ (alarms.trans alarmsT)
    split
    · exact drawnAs.conditionGone _ _
    · exact drawnAs
  · rw [portsT]
    exact carries _ (moved.forwards live few)
  · rw [portsT]
    have queued := carries _ (moved.report live few x hx)
    have named : slotOf o = some o.toNat := by
      have : (slotOf o).isSome = true := exits.trans (Option.isSome_of_mem hx)
      by_cases ho : o = 0
      · rw [slotOf, if_pos ho] at this
        cases this
      · exact if_neg ho
    simp only [named, Strip.report, satAdd, Nat.zero_add] at queued
    exact queued
  all_goals rw [trackT]
  · exact delivery
  · exact draw.1
  · exact draw.2
  · exact unheld

end Sys2Proof.Machine
end

section
/-! SUPPORT. The checks of a TRACK-SET (R111). -/

namespace Sys2Proof.Machine

/-! ## Entries (11 TABLE 21) -/

/-- 11 TABLE 21: what an entry says, by its type. -/
theorem posSpec_cases (y : PosEntry) :
    (y.type = 0 ∧ posSpec y = some .empty) ∨ (y.type = 1 ∧ posSpec y = some (.existing y.id.toNat)) ∨
      (y.type = 2 ∧ posSpec y = some (.new y.id.toNat y.device.toNat y.column.toNat)) ∨
      (2 < y.type.toNat ∧ posSpec y = none) := by
  by_cases h0 : y.type = 0
  · exact .inl ⟨h0, if_pos h0⟩
  by_cases h1 : y.type = 1
  · exact .inr (.inl ⟨h1, (if_neg h0).trans (if_pos h1)⟩)
  by_cases h2 : y.type = 2
  · exact .inr (.inr (.inl ⟨h2, (if_neg h0).trans ((if_neg h1).trans (if_pos h2))⟩))
  · exact .inr (.inr (.inr ⟨by bv_omega, (if_neg h0).trans ((if_neg h1).trans (if_neg h2))⟩))

theorem posSpec_isSome (y : PosEntry) : (posSpec y).isSome = decide (y.type.toNat ≤ 2) := by
  rcases posSpec_cases y with ⟨h, e⟩ | ⟨h, e⟩ | ⟨h, e⟩ | ⟨h, e⟩ <;> rw [e]
  · rw [h]; rfl
  · rw [h]; rfl
  · rw [h]; rfl
  · exact (decide_eq_false (by omega)).symm

theorem filter_map_eq_filterMap {α β : Type} (p : α → Bool) (f : α → β) (l : List α) :
    (l.filter p).map f = l.filterMap fun a => if p a then some (f a) else none := by
  induction l with
  | nil => rfl
  | cons a l ih => cases h : p a <;> simp [h, ih]

/-- R111: the NEW strip of an entry. -/
def PosSpec.fresh? : PosSpec → Option (Nat × Nat × Nat)
  | .new i d f => some (i, d, f)
  | .empty | .existing _ => none

theorem fresh_entries (raw : List PosEntry) : (raw.filterMap posSpec).filterMap PosSpec.fresh? =
    (raw.filter fun y => y.type == 2).map fun y => (y.id.toNat, y.device.toNat, y.column.toNat) := by
  rw [List.filterMap_filterMap, filter_map_eq_filterMap]
  refine List.filterMap_congr fun y _ => ?_
  rcases posSpec_cases y with ⟨h, e⟩ | ⟨h, e⟩ | ⟨h, e⟩ | ⟨h, e⟩ <;> rw [e]
  · rw [h]; rfl
  · rw [h]; rfl
  · rw [h]; rfl
  · rw [if_neg]
    · rfl
    · rw [beq_iff_eq]
      intro k
      rw [k] at h
      exact absurd h (by decide)

section
variable {raw : List PosEntry} (all : (raw.all fun y => y.type.toNat ≤ 2) = true)
include all

theorem specs_length : (raw.filterMap posSpec).length = raw.length := by
  refine List.filterMap_length_eq_length.mpr fun y hy => ?_
  rw [posSpec_isSome]
  exact List.all_eq_true.mp all y hy

theorem specs_getElem? (k : Nat) : (raw.filterMap posSpec)[k]? = (raw[k]?).bind posSpec := by
  induction raw generalizing k with
  | nil => rfl
  | cons y l ih =>
    rw [List.all_cons, Bool.and_eq_true, ← posSpec_isSome] at all
    obtain ⟨p, hp⟩ := Option.isSome_iff_exists.mp all.1
    rw [List.filterMap_cons, hp]
    cases k with
    | zero => simp [hp]
    | succ k => simpa using ih all.2 k

theorem named_entries : (raw.filterMap posSpec).filterMap PosSpec.id? =
    (raw.filter fun y => y.type != 0).map fun y => y.id.toNat := by
  rw [List.filterMap_filterMap, filter_map_eq_filterMap]
  refine List.filterMap_congr fun y hy => ?_
  have small := List.all_eq_true.mp all y hy
  rcases posSpec_cases y with ⟨h, e⟩ | ⟨h, e⟩ | ⟨h, e⟩ | ⟨h, -⟩
  · rw [e, h]; rfl
  · rw [e, h]; rfl
  · rw [e, h]; rfl
  · exact absurd small (by simpa using h)

/-- R111: the EXISTING strips of the entries with their positions. -/
theorem listed_entries : (raw.filterMap posSpec).zipIdx.filterMap
      (fun y => y.1.old?.map fun i => (i, y.2)) =
    (raw.zipIdx.filter fun y => y.1.type == 1).map fun y => (y.1.id.toNat, y.2) := by
  have general (n : Nat) (l : List PosEntry) (all : (l.all fun y => y.type.toNat ≤ 2) = true) :
      ((l.filterMap posSpec).zipIdx n).filterMap (fun y => y.1.old?.map fun i => (i, y.2)) =
        ((l.zipIdx n).filter fun y => y.1.type == 1).map fun y => (y.1.id.toNat, y.2) := by
    induction l generalizing n with
    | nil => rfl
    | cons y l ih =>
      rw [List.all_cons, Bool.and_eq_true] at all
      have rest := ih (n + 1) all.2
      rcases posSpec_cases y with ⟨h, e⟩ | ⟨h, e⟩ | ⟨h, e⟩ | ⟨h, -⟩
      · simpa [e, h, PosSpec.old?] using rest
      · simpa [e, h, PosSpec.old?] using rest
      · simpa [e, h, PosSpec.old?] using rest
      · exact absurd all.1 (by simpa using h)
  exact general 0 raw all

end

/-! ## Strips by their ids -/

theorem findIdx_placed {α : Type} (p : α → Bool) (l : List (Option α)) :
    (((l.zipIdx).filterMap fun y => y.1.map fun x => (x, y.2)).find? fun z => p z.1).map Prod.snd =
      l.findIdx? fun z => z.any p := by
  have general (n : Nat) (l : List (Option α)) :
      (((l.zipIdx n).filterMap fun y => y.1.map fun x => (x, y.2)).find? fun z => p z.1).map Prod.snd =
        (l.findIdx? fun z => z.any p).map (· + n) := by
    induction l generalizing n with
    | nil => rfl
    | cons x l ih =>
      have rest := ih (n + 1)
      have shift (o : Option Nat) : (o.map (· + (n + 1))) = (o.map (· + 1)).map (· + n) := by
        cases o with
        | none => rfl
        | some k => simp only [Option.map_some]; congr 1; omega
      rw [shift] at rest
      cases x with
      | none =>
        rw [List.zipIdx_cons, List.filterMap_cons, List.findIdx?_cons]
        exact rest
      | some x =>
        rw [List.zipIdx_cons, List.filterMap_cons, List.findIdx?_cons, Option.any_some]
        dsimp only [Option.map_some]
        rw [List.find?_cons]
        cases p x with
        | true => simp
        | false => exact rest
  simpa using general 0 l

/-- R88: the position and the strip of an id. -/
theorem Track.find_position (t : Track) (i : Nat) : (t.find i).map Prod.snd =
    [t.entry, t.bond, t.pull, t.exit].findIdx? fun z => z.any fun x => x.id == i :=
  findIdx_placed (fun x : Strip => x.id == i) t.positions

theorem Track.find_strip (t : Track) (i : Nat) : (t.find i).map Prod.fst = t.strips.find? fun x => x.id == i := by
  rw [t.strips_placed, List.find?_map]
  rfl

theorem rising_iff (l : List Nat) : rising l = true ↔ l.Pairwise fun i j : Nat => i < j := by
  rw [← List.isChain_iff_pairwise]
  induction l with
  | nil => simp [rising]
  | cons a l ih =>
    cases l with
    | nil => simp [rising]
    | cons b l => simp [rising, ih]

/-! ## The checks (R111) -/

/-- The four entries of a TRACK-SET, from ENTRY to EXIT. -/
def trackSetEntries (b : TrackSetBody) : List PosEntry := [b.entry, b.bond, b.pull, b.exit]

/-- R112 step 6: the window column that is given. -/
def trackSetColumn (b : TrackSetBody) : Option Nat := if b.window = 0xFF then none else some b.window.toNat

/-- R111: the position of the strip that an entry names. -/
def Track.spot (t : Track) (y : PosEntry) : Option Nat :=
  [t.entry, t.bond, t.pull, t.exit].findIdx? fun z => z.any fun x => x.id == y.id.toNat

/-- R111: the strip that an entry names. -/
def Track.named (t : Track) (y : PosEntry) : Option Strip := t.strips.find? fun x => x.id == y.id.toNat

/-- R111 steps 6 and 7: where the EXISTING strips stand, and where they are to stand. -/
def Track.stood (t : Track) (raw : List PosEntry) : List (Nat × Nat) :=
  (raw.zipIdx.filter fun y => y.1.type == 1).filterMap fun y => (t.spot y.1).map fun k => (k, y.2)

/-- R111 step 4: the columns of the strip that stands at BOND. -/
def State.bondColumns (s : State) (y : PosEntry) : Option Nat :=
  if y.type = 1 then (s.track.named y).map s.tables.columnsOf
  else if y.type = 2 then (s.tables.device y.device.toNat).map fun d => d.columns else some 0

/-- R111: the checks of a TRACK-SET with their reasons, in their order. -/
def trackSetChecks (b : TrackSetBody) (s : State) : List (Bool × Reason) :=
  let news := (trackSetEntries b).filter fun y => y.type == 2
  let listed := (trackSetEntries b).zipIdx.filter fun y => y.1.type == 1
  let ids : List Nat := ((trackSetEntries b).filter fun y => y.type != 0).map fun y => y.id.toNat
  let device (y : PosEntry) : Option DeviceType := s.tables.device y.device.toNat
  [(!s.track.known && !s.headA.state.inFlight && !s.headB.state.inFlight, .busy),
    ((trackSetEntries b).all fun y => y.type.toNat ≤ 2, .range),
    (news.all fun y => y.device.toNat < 8, .range),
    (news.all fun y => (device y).isSome, .invalid),
    (news.all fun y => (device y).any fun d => y.column.toNat ≤ d.columns, .range),
    (b.window == 0xFF || (s.bondColumns b.bond).all fun n => b.window.toNat < n, .range),
    (listed.all fun y => (s.track.spot y.1).isSome, .inconsistent),
    (decide ids.Nodup, .inconsistent),
    (news.all fun y => (s.track.spot y).isNone, .inconsistent),
    ((s.track.stood (trackSetEntries b)).all fun y => y.1 ≤ y.2, .inconsistent),
    (decide (((s.track.stood (trackSetEntries b)).map fun y => y.1).Pairwise fun i j : Nat => i < j), .inconsistent)]

/-- Two checks with one reason. -/
theorem firstFailed_both {p : Prop} [Decidable p] {b c : Bool} {r : Reason} {l : List (Bool × Reason)}
    {x : Option Reason} (hp : p ↔ b = false ∨ c = false)
    (h : b = true → c = true → x = (firstFailed l).map fun y => y.2) :
    (if p then some r else x) = (firstFailed ((b, r) :: (c, r) :: l)).map fun y => y.2 := by
  cases b with
  | false => rw [if_pos (hp.mpr (.inl rfl))]; exact firstFailed_fail rfl
  | true => exact firstFailed_pass rfl (firstFailed_step (hp.trans (by simp)) (h rfl))

/-- Three checks with one reason. -/
theorem firstFailed_three {p : Prop} [Decidable p] {b c d : Bool} {r : Reason} {l : List (Bool × Reason)}
    {x : Option Reason} (hp : p ↔ b = false ∨ c = false ∨ d = false)
    (h : x = (firstFailed l).map fun y => y.2) :
    (if p then some r else x) = (firstFailed ((b, r) :: (c, r) :: (d, r) :: l)).map fun y => y.2 := by
  cases b with
  | false => rw [if_pos (hp.mpr (.inl rfl))]; exact firstFailed_fail rfl
  | true => exact firstFailed_pass rfl (firstFailed_both (hp.trans (by simp)) fun _ _ => h)

theorem any_iff_all_false {α : Type} {l : List α} {p q : α → Bool} (h : ∀ y ∈ l, p y = !q y) :
    l.any p = true ↔ l.all q = false := by
  rw [List.any_eq_true, List.all_eq_false]
  exact exists_congr fun y => and_congr_right fun hy => by rw [h y hy]; cases q y <;> simp

theorem Track.find_isNone (t : Track) (y : PosEntry) : (t.find y.id.toNat).isSome = (t.spot y).isSome := by
  rw [Track.spot, ← t.find_position, Option.isSome_map]

/-- R111 step 4: the columns, by what the entry says. -/
theorem specColumns_eq (s : State) (y : PosEntry) (small : y.type.toNat ≤ 2) :
    (posSpec y).bind (specColumns s) = s.bondColumns y := by
  unfold State.bondColumns
  rcases posSpec_cases y with ⟨h, e⟩ | ⟨h, e⟩ | ⟨h, e⟩ | ⟨h, -⟩
  · rw [e, h]; rfl
  · rw [e, h, if_pos rfl, Track.named, ← s.track.find_strip, Option.map_map]; rfl
  · rw [e, h, if_neg (by decide), if_pos rfl]; rfl
  · omega

theorem trackSetReason_eq (b : TrackSetBody) (s : State) :
    trackSetReason s (trackSetEntries b) (trackSetColumn b) = (firstFailed (trackSetChecks b s)).map fun y => y.2 := by
  unfold trackSetReason
  extract_lets specs news old ids stood
  have hnews : news = ((trackSetEntries b).filter fun y => y.type == 2).map fun y =>
      (y.id.toNat, y.device.toNat, y.column.toNat) := by
    rw [← fresh_entries]
    refine List.filterMap_congr fun x _ => ?_
    cases x <;> rfl
  unfold trackSetChecks
  dsimp only
  refine firstFailed_step (by cases s.track.known <;> simp [or_iff_not_imp_left]) fun _ => ?_
  refine firstFailed_both ?_ fun all devices => ?_
  · rw [hnews, List.any_map]
    have short : specs.length < (trackSetEntries b).length ↔
        ((trackSetEntries b).all fun y => y.type.toNat ≤ 2) = false := by
      rw [← Bool.not_eq_true]
      constructor
      · intro h all
        exact absurd (specs_length all) (Nat.ne_of_lt h)
      · intro h
        refine lt_of_le_of_ne (List.length_filterMap_le _ _) fun e => h ?_
        rw [List.all_eq_true]
        intro y hy
        rw [← posSpec_isSome]
        exact List.filterMap_length_eq_length.mp e y hy
    rw [Bool.or_eq_true, decide_eq_true_eq, short, any_iff_all_false fun y _ => ?_]
    simp only [Function.comp, ← decide_not, Nat.not_lt]
  refine firstFailed_step ?_ fun valid => ?_
  · rw [hnews, List.any_map, any_iff_all_false fun y _ => ?_]
    simp only [Function.comp, Option.not_isSome]
  refine firstFailed_step ?_ fun _ => ?_
  · rw [hnews, List.any_map, any_iff_all_false fun y hy => ?_]
    obtain ⟨d, hd⟩ := Option.isSome_iff_exists.mp (List.all_eq_true.mp valid y hy)
    simp only [Function.comp, hd, Option.any_some, ← decide_not, Nat.not_le]
  have second : (specs[1]?).bind (specColumns s) = s.bondColumns b.bond := by
    rw [specs_getElem? all, Option.bind_assoc]
    exact specColumns_eq s b.bond (by simpa using List.all_eq_true.mp all b.bond (by simp [trackSetEntries]))
  refine firstFailed_step ?_ fun _ => ?_
  · rw [second, trackSetColumn]
    by_cases hw : b.window = 0xFF
    · rw [if_pos hw, beq_iff_eq.mpr hw]
      simp
    · rw [if_neg hw, beq_eq_false_iff_ne.mpr hw]
      cases s.bondColumns b.bond <;> simp
  have named : ids = _ := named_entries all
  have hold : old = ((trackSetEntries b).zipIdx.filter fun y => y.1.type == 1).map fun y => (y.1.id.toNat, y.2) := by
    rw [← listed_entries all]
    refine List.filterMap_congr fun x _ => ?_
    obtain ⟨p, k⟩ := x
    cases p <;> rfl
  have hstood : stood = s.track.stood (trackSetEntries b) := by
    simp only [stood, hold, Track.stood, List.filterMap_map, Track.spot, ← Track.find_position, Option.map_map]
    rfl
  rw [hstood]
  refine firstFailed_three ?_ (firstFailed_both ?_ fun _ _ => rfl)
  · rw [named, hold, List.length_map, hnews, List.any_map, Bool.or_eq_true, Bool.or_eq_true, or_assoc]
    refine or_congr ?_ (or_congr (by simp) ?_)
    · rw [decide_eq_true_eq, Track.stood, ← Bool.not_eq_true, ← not_iff_not, Nat.not_lt, not_not]
      have le := List.length_filterMap_le (fun y : PosEntry × Nat => (s.track.spot y.1).map fun k => (k, y.2))
        ((trackSetEntries b).zipIdx.filter fun y => y.1.type == 1)
      have found := List.filterMap_length_eq_length
        (f := fun y : PosEntry × Nat => (s.track.spot y.1).map fun k => (k, y.2))
        (l := (trackSetEntries b).zipIdx.filter fun y => y.1.type == 1)
      simp only [Option.isSome_map] at found
      rw [List.all_eq_true, ← found]
      exact ⟨fun h => le_antisymm le h, fun h => h.ge⟩
    · refine any_iff_all_false fun y _ => ?_
      rw [Function.comp, Track.find_isNone, Option.not_isNone]
  · rw [Bool.or_eq_true]
    refine or_congr (any_iff_all_false fun y _ => ?_) ?_
    · rw [← decide_not]
      exact decide_eq_decide.mpr Nat.not_le.symm
    · rw [Bool.not_eq_true', ← Bool.not_eq_true, rising_iff, decide_eq_false_iff_not]

end Sys2Proof.Machine
end

section
/-! SUPPORT. An accepted TRACK-SET: its frames, its claims and its alarms (R29, R112, R114, R140, R143). -/

namespace Sys2Proof.Machine

/-! ## STRIP-REPORTs (R114) -/

/-- R114: the reports of the strips of `l`, queued on port U. -/
def Ports.reported (ps : Ports) (l : List Strip) : Ports :=
  l.foldl (fun p x => p.enqueue .u false (x.report none)) ps

theorem Ports.reported_u_other (ps : Ports) (l : List Strip) : (ps.reported l).pt = ps.pt := by
  unfold Ports.reported
  induction l generalizing ps with
  | nil => rfl
  | cons x l ih => exact (ih _).trans (ps.enqueue_ne .u .pt false _ (by decide))

theorem Ports.reported_keeps (l : List Strip) (ps : Ports) (m : Msg) (h : ps.u.Carries m) :
    (ps.reported l).u.Carries m := by
  unfold Ports.reported
  induction l generalizing ps with
  | nil => exact h
  | cons x l ih => exact ih _ (ps.enqueue_carries .u false m _ h)

theorem Ports.reported_grows (l : List Strip) (ps : Ports) :
    PortRec.Grows l.length l.length ps.u (ps.reported l).u := by
  unfold Ports.reported
  induction l generalizing ps with
  | nil => exact .refl _
  | cons x l ih =>
    have first : PortRec.Grows 1 1 ps.u (ps.enqueue .u false (x.report none)).u :=
      ps.u.enqueue_grows _ _ _ _ fun _ => le_rfl
    exact (first.trans (ih _)).mono (by simp [Nat.add_comm]) (by simp [Nat.add_comm])

/-- R114, R172: where there is room for the reports they are all queued. -/
theorem Ports.reported_carries (l : List Strip) (ps : Ports) (live : ps.u.state ≠ .down)
    (length : ps.u.tx.length + l.length ≤ 8) (normals : ps.u.normals + l.length ≤ 6) :
    ∀ x ∈ l, (ps.reported l).u.Carries (x.report none) := by
  induction l generalizing ps with
  | nil => nofun
  | cons y l ih =>
    rw [List.length_cons] at length normals
    intro x hx
    have first : PortRec.Grows 1 1 ps.u (ps.enqueue .u false (y.report none)).u :=
      ps.u.enqueue_grows _ _ _ _ fun _ => le_rfl
    have later : ps.reported (y :: l) = (ps.enqueue .u false (y.report none)).reported l := rfl
    rw [later]
    rcases List.mem_cons.mp hx with rfl | hx
    · refine Ports.reported_keeps l _ _ (ps.u.enqueue_self .u _ false _ live ?_)
      have room : ps.u.tx.length < 8 ∧ ps.u.normals < 6 := by omega
      simp [PortRec.hasRoom, Config.queueDepth, Config.normalDepth, room]
    · obtain ⟨len, norm, still⟩ := first
      exact ih _ (still live) (by omega) (by omega) x hx

theorem State.dropStrip_ports (s : State) (x : Strip) :
    (s.dropStrip x).ports = s.ports.enqueue .u false (x.report none) := by
  unfold State.dropStrip
  cases h : x.pulling <;> simp [State.releaseStrip, State.releasePins, State.discardPull]

theorem State.dropStrips_ports (l : List (Strip × Nat)) (s : State) :
    (l.foldl (fun (s : State) y => s.dropStrip y.1) s).ports = s.ports.reported (l.map Prod.fst) := by
  unfold Ports.reported
  induction l generalizing s with
  | nil => rfl
  | cons y l ih => rw [List.foldl_cons, ih, s.dropStrip_ports]; rfl

theorem State.dropOthers_frame (s : State) (ids : List Nat) (moves : List StripMove) :
    Frame [.store, .track, .puller, .ports] s (s.dropOthers ids moves) := by
  have dropped := Frame.foldl (fun (s : State) (y : Strip × Nat) => s.dropStrip y.1)
    (fun t y => t.dropStrip_frame y.1) (s.track.placed.filter fun y => !ids.contains y.1.id) s
  unfold State.dropOthers
  exact dropped.trans (by simp [Frame])

/-- R112 steps 4 and 5: the strips that move and the NEW ones are queued nowhere. -/
theorem State.restate_after (s : State) (specs : List PosSpec) : Frame [.store, .track, .puller]
    (s.happens fun t => t.dropOthers (specs.filterMap PosSpec.id?) (movesOf s.track specs)) (s.restate specs) := by
  have moves := Frame.foldl (fun (s : State) (m : StripMove) => s.happens fun s => s.moveExisting m)
    fun t m => t.happens_frame (fun s => s.moveExisting m) (t.moveExisting_frame m)
  have news := Frame.foldl (fun (s : State) (y : PosSpec × Nat) => s.happens fun s => s.introduce y)
    fun t y => t.happens_frame (fun s => s.introduce y) ((t.introduce_frame y).mono (m := [.store, .track, .puller])
      (by simp))
  exact (moves _ _).trans (news _ _)

/-- R112: what the steps of the strips can change. -/
theorem State.restate_frame (s : State) (specs : List PosSpec) :
    Frame [.store, .track, .puller, .ports] s (s.restate specs) :=
  (s.happens_frame (fun t => t.dropOthers _ _) (s.dropOthers_frame _ _)).trans
    ((s.restate_after specs).mono (by simp))

theorem State.restate_ports (s : State) (specs : List PosSpec) :
    (s.restate specs).ports = s.ports.reported ((goneOf s.track specs).map Prod.fst) := by
  rw [(s.restate_after specs).ports_eq (by simp), State.happens_ports]
  exact s.dropStrips_ports _

/-! ## Conditions that are gone (R140) -/

/-- R112 step 7: the alarms whose conditions end when the track is KNOWN. -/
def ofTrack (y : AlarmEntry) : Bool := y.cls == .jam || y.cls == .trackUnknown

/-- R135: at most two alarms are JAM or TRACK-UNKNOWN. -/
theorem ofTrack_length (f : AlarmEntry → Bool) {l : List AlarmEntry} (h : ListInv l) :
    (l.filter fun y => ofTrack y && f y).length ≤ 2 := by
  obtain ⟨pairs, objects, -⟩ := h
  have distinct := pairs.sublist ((List.filter_sublist (p := fun y => ofTrack y && f y)).map
    fun e => (e.cls, e.obj))
  have known : ∀ e ∈ (l.filter fun y => ofTrack y && f y).map fun e => (e.cls, e.obj),
      e ∈ [(AlarmClass.jam, AlarmObject.track), (.trackUnknown, .track)] := by
    intro e he
    obtain ⟨y, hy, rfl⟩ := List.mem_map.mp he
    obtain ⟨hy, hf⟩ := List.mem_filter.mp hy
    have ho := objects y hy
    simp only [ofTrack, Bool.and_eq_true, Bool.or_eq_true, beq_iff_eq] at hf
    rcases hf.1 with hc | hc <;> rw [hc] at ho ⊢ <;> simpa [AlarmClass.objects] using ho
  simpa using (distinct.subperm known).length_le

theorem Ports.overNoted_carries (b : Bool) (m : List AlarmEntry) (ps : Ports) (x : Msg) (h : ps.u.Carries x) :
    (m.foldl (Ports.overNoted b) ps).u.Carries x := by
  induction m generalizing ps with
  | nil => exact h
  | cons e m ih => exact ih _ (ps.noted_carries _ _ _ _ _ _ h)

theorem Ports.overNoted_pt (b : Bool) (m : List AlarmEntry) (ps : Ports) :
    (m.foldl (Ports.overNoted b) ps).pt = ps.pt := by
  induction m generalizing ps with
  | nil => rfl
  | cons e m ih => exact (ih _).trans (ps.noted_pt _ _ _ _ _)

/-- R112 step 7: what the track that is KNOWN again queues. -/
theorem State.trackKnown_queues (s : State) (once : ListedOnce s.alarms) (listed : ListInv s.alarms.entries) :
    Queues 2 0 s s.trackKnown := by
  obtain ⟨-, ports⟩ := State.conditionsGone_ended { s with track := { s.track with known := true } }
    (fun e => e.cls == .trackUnknown || e.cls == .jam) once
  have few := ofTrack_length (fun e => e.state != .clearedUnacked) listed
  simp only [ofTrack, Bool.or_comm (_ == AlarmClass.jam)] at few
  have known : s.trackKnown.ports = _ := ports
  refine ⟨?_, fun m hm => ?_, ?_⟩
  · rw [known]
    exact (Ports.overNoted_grows _ _ _).mono few le_rfl
  · rw [known]
    exact Ports.overNoted_carries _ _ _ _ hm
  · rw [State.port, known]
    exact Ports.overNoted_pt _ _ _

theorem AlarmsAs.conditionsGone {s t : State} (h : AlarmsAs s t) (f : AlarmEntry → Bool) :
    AlarmsAs (s.conditionsGone f) (t.conditionsGone f) := by
  have each (l : List AlarmEntry) (s t : State) (h : AlarmsAs s t) :
      AlarmsAs (l.foldl (fun (s : State) e => s.conditionGone e.cls e.obj) s)
        (l.foldl (fun (s : State) e => s.conditionGone e.cls e.obj) t) := by
    induction l generalizing s t with
    | nil => exact h
    | cons e l ih => exact ih _ _ (h.conditionGone e.cls e.obj)
  unfold State.conditionsGone
  rw [h.1]
  exact each _ s t h

/-! ## Claims that end (R29, R43) -/

/-- R29, R43: a head whose claim has ended; an AFTER-UNIT pause takes effect. -/
def HeadCtx.unclaimed (c : HeadCtx) : HeadCtx :=
  if c.claim.isSome = true ∧ c.pause = some .afterUnit then
    { c with
      claim := none
      holds := { c.holds with operator := true }
      state := if c.holds.link then .offline else .hold }
  else { c with claim := none }

/-- R112 step 1: what the end of the claims leaves of a head out of flight. -/
theorem HeadCtx.unclaimed_eq (c : HeadCtx) (idle : c.state.inFlight = false) : c.unclaimed =
    if c.claim.isSome then
      let d := { c with claim := none }
      if d.pause = some .afterUnit then d.addOperator else d
    else c := by
  unfold HeadCtx.unclaimed
  cases hc : c.claim with
  | none =>
    rw [if_neg (by simp), if_neg (by simp), ← hc]
  | some k =>
    simp only [Option.isSome_some, true_and, if_true]
    split
    · simp [HeadCtx.addOperator, HeadCtx.followHolds, idle, Holds.state, Holds.any]
    · rfl

theorem State.endClaims_heads (s : State) (idle : s.headA.state.inFlight = false ∧ s.headB.state.inFlight = false) :
    s.endClaims.headA = s.headA.unclaimed ∧ s.endClaims.headB = s.headB.unclaimed :=
  ⟨(s.headA.unclaimed_eq idle.1).symm, (s.headB.unclaimed_eq idle.2).symm⟩

/-- From `c` to `d` claim, pause request and the hold reason OPERATOR of a head stay. -/
structure ClaimKept (c d : HeadCtx) : Prop where
  claim : d.claim = c.claim
  pause : d.pause = c.pause
  operator : d.holds.operator = c.holds.operator

theorem ClaimKept.refl (c : HeadCtx) : ClaimKept c c := ⟨rfl, rfl, rfl⟩

theorem HeadCtx.over_claimKept (c : HeadCtx) (k : Head) (l : List AlarmEntry) (n : Option (AlarmEntry × NoteEvent)) :
    ClaimKept c (c.over k l n) := by
  have judged : ClaimKept c (c.judge k l) := by
    rw [c.judge_eq]
    exact ⟨rfl, rfl, rfl⟩
  unfold HeadCtx.over
  split
  · exact judged
  · exact .refl c

theorem State.conditionGone_claimKept (s : State) (c : AlarmClass) (o : AlarmObject) (h : Head) :
    ClaimKept (s.head h) ((s.conditionGone c o).head h) := by
  rw [State.conditionGone_eq]
  cases h
  · exact s.headA.over_claimKept .a _ _
  · exact s.headB.over_claimKept .b _ _

theorem HeadCtx.overBy_claimKept (c : HeadCtx) (h : Head) (f : AlarmEntry → Bool) (l : List AlarmEntry) :
    ClaimKept c (c.overBy h f l) := by
  unfold HeadCtx.overBy
  split
  · rw [c.judge_eq]
    exact ⟨rfl, rfl, rfl⟩
  · exact .refl c

theorem HeadCtx.unclaimed_fields (c : HeadCtx) : c.unclaimed.claim = none ∧ c.unclaimed.pause = c.pause ∧
    c.unclaimed.holds.operator = (c.holds.operator || c.claim.isSome && c.pause == some .afterUnit) := by
  unfold HeadCtx.unclaimed
  split
  · next h => exact ⟨rfl, rfl, by simp [h.1, h.2]⟩
  · next h =>
    refine ⟨rfl, rfl, ?_⟩
    have off : (c.claim.isSome && c.pause == some PauseMode.afterUnit) = false := by
      rw [← Bool.not_eq_true, Bool.and_eq_true, beq_iff_eq]
      exact h
    rw [off, Bool.or_false]

/-- R112: the state of a TRACK-SET with its claims ended, for its alarms. -/
def State.headsFreed (s : State) : State := { s with headA := s.headA.unclaimed, headB := s.headB.unclaimed }

/-- R140, R143: the conditions of the track end, and heads and alarms follow. -/
theorem State.trackKnown_alarms {s k t : State} (listed : AlarmInv s) (h : AlarmsAs s.headsFreed k)
    (pull : Prop) [Decidable pull]
    (after : AlarmsAs (if pull then k.trackKnown.conditionGone .pullTimeout .pullStation else k.trackKnown) t) :
    (∀ i, (t.head i).claim = none ∧ (t.head i).pause = (s.head i).pause ∧
      (t.head i).holds.operator = ((s.head i).holds.operator ||
        (s.head i).claim.isSome && (s.head i).pause == some .afterUnit)) ∧
    ∃ v, ConditionsOver ofTrack s.headsFreed v ∧
      AlarmsAs (if pull then v.conditionGone .pullTimeout .pullStation else v) t := by
  let u := s.headsFreed.conditionsGone ofTrack
  let v := u.markChanges s
  have ended : ConditionsEnded ofTrack s.headsFreed u := (s.headsFreed.conditionsGone_ended ofTrack listed.listedOnce).1
  have order : (fun e : AlarmEntry => e.cls == .trackUnknown || e.cls == .jam) = ofTrack :=
    funext fun e => Bool.or_comm _ _
  have known : AlarmsAs u k.trackKnown := by
    have marked : AlarmsAs s.headsFreed { k with track := { k.track with known := true } } :=
      h.trans ⟨rfl, rfl, rfl, rfl⟩
    unfold State.trackKnown
    rw [order]
    exact marked.conditionsGone ofTrack
  have same : AlarmsAs v k.trackKnown := by
    obtain ⟨a, x, y, m⟩ := known
    have like : v = _ := u.markChanges_like s
    refine ⟨by rw [a, like], by rw [x, like], by rw [y, like], ?_⟩
    rw [m, like]
  have last : AlarmsAs (if pull then v.conditionGone .pullTimeout .pullStation else v) t := by
    refine AlarmsAs.trans ?_ after
    split
    · exact same.conditionGone _ _
    · exact same
  refine ⟨fun i => ?_, v, ended.conditionsOver s rfl, last⟩
  have first : ClaimKept (s.headsFreed.head i) (v.head i) := by
    rw [State.markChanges_head, ended.heads]
    exact (s.headsFreed.head i).overBy_claimKept i ofTrack _
  have second : ClaimKept (v.head i) (t.head i) := by
    have heads : t.head i = (if pull then v.conditionGone .pullTimeout .pullStation else v).head i := by
      obtain ⟨-, x, y, -⟩ := last
      cases i
      · exact x
      · exact y
    rw [heads]
    split
    · exact v.conditionGone_claimKept _ _ i
    · exact .refl _
  have freed : s.headsFreed.head i = (s.head i).unclaimed := by cases i <;> rfl
  rw [freed] at first
  obtain ⟨claim, pause, operator⟩ := (s.head i).unclaimed_fields
  exact ⟨second.claim.trans (first.claim.trans claim), second.pause.trans (first.pause.trans pause),
    second.operator.trans (first.operator.trans operator)⟩

end Sys2Proof.Machine
end

section
/-! SUPPORT. An accepted TRACK-SET: the strips at their positions, the records and the pull that starts (R78, R112,
R119, R132). -/

namespace Sys2Proof.Machine

/-! ## Claims that end, and the strips -/

theorem Strip.plain_of_noClaim {x : Strip} (h : NoClaim (some x)) : x.plain = x := by
  have units : x.units.map (fun r => if r.state.isClaim then { r with state := .pending } else r) = x.units := by
    conv_rhs => rw [← List.map_id x.units]
    refine List.map_congr_left fun r hr => ?_
    rw [h x rfl r hr]
    rfl
  unfold Strip.plain
  rw [units]

/-- R114: claims that end change no count of a STRIP-REPORT. -/
theorem Strip.plain_report (x : Strip) (o : Option Nat) : x.plain.report o = x.report o := by
  have sum (f : UnitRecord → Nat) (hf : ∀ r : UnitRecord, f { r with state := .pending } = f r) :
      x.plain.units.map f = x.units.map f := by
    rw [Strip.plain, List.map_map]
    refine List.map_congr_left fun r _ => ?_
    dsimp only [Function.comp]
    split
    · exact hf r
    · rfl
  have count (st : UnitState) (hs : st.isClaim = false) (hp : st ≠ .pending) :
      (x.plain.units.filter fun r => r.state == st).length = (x.units.filter fun r => r.state == st).length := by
    rw [← List.countP_eq_length_filter, ← List.countP_eq_length_filter, Strip.plain, List.countP_map]
    refine List.countP_congr fun r _ => ?_
    dsimp only [Function.comp]
    split
    · next hc =>
      have : r.state ≠ st := fun e => by rw [e, hs] at hc; cases hc
      simp [this, hp.symm]
    · rfl
  unfold Strip.report Strip.doneCount Strip.rejectCount
  rw [sum _ fun _ => rfl, sum _ fun _ => rfl, count .done rfl nofun, count .reject rfl nofun]
  rfl

/-- R112 step 1: every strip with its claims ended. -/
theorem Track.unclaimed_find_plain {t : Track} (entry : NoClaim t.entry) (pull : NoClaim t.pull)
    (exit : NoClaim t.exit) (i : Nat) : t.unclaimed.find i = (t.find i).map fun z => (z.1.plain, z.2) := by
  rw [t.unclaimed_find]
  cases hz : t.find i with
  | none => rfl
  | some z =>
    obtain ⟨place, -, hk⟩ := Track.find_some hz
    have plain (h : NoClaim (t.place z.2)) : z.1.plain = z.1 := Strip.plain_of_noClaim (place ▸ h)
    match hz2 : z.2, hk with
    | 0, _ => simp [hz2, plain (by rw [hz2]; exact entry)]
    | 1, _ => simp [hz2]
    | 2, _ => simp [hz2, plain (by rw [hz2]; exact pull)]
    | 3, _ => simp [hz2, plain (by rw [hz2]; exact exit)]

/-! ## Moves by their entries -/

/-- The specifications of a TRACK-SET. -/
def trackSetSpecs (b : TrackSetBody) : List PosSpec := (trackSetEntries b).filterMap posSpec

section
variable {b : TrackSetBody} (all : ((trackSetEntries b).all fun y => y.type.toNat ≤ 2) = true)
include all

theorem trackSetSpecs_getElem? {k : Nat} {y : PosEntry} (hy : (trackSetEntries b)[k]? = some y) :
    (trackSetSpecs b)[k]? = posSpec y := by
  rw [trackSetSpecs, specs_getElem? all, hy]
  rfl

/-- R112 step 4: the moves to position `k` are those of its entry. -/
theorem movesOf_any (t : Track) {k : Nat} {y : PosEntry} (hy : (trackSetEntries b)[k]? = some y)
    (p : StripMove → Bool) : ((movesOf t (trackSetSpecs b)).any fun m => m.now == k && p m) =
      (y.type == 1 && (t.find y.id.toNat).any fun z => p ⟨z.1, z.2, k⟩) := by
  have spec := trackSetSpecs_getElem? all hy
  rw [Bool.eq_iff_iff, List.any_eq_true, Bool.and_eq_true, Option.any_eq_true]
  constructor
  · rintro ⟨m, hm, hp⟩
    rw [Bool.and_eq_true, beq_iff_eq] at hp
    obtain ⟨rfl, hp⟩ := hp
    obtain ⟨q, hq, hm⟩ := movesOf_mem.mp hm
    obtain ⟨rfl, found, -⟩ := moveOf_some hm
    rw [hq] at spec
    rcases posSpec_cases y with ⟨h, e⟩ | ⟨h, e⟩ | ⟨h, e⟩ | ⟨h, e⟩ <;> rw [e] at spec
    · cases spec
    · obtain hid := PosSpec.existing.inj (Option.some.inj spec)
      rw [hid] at found
      exact ⟨by rw [h]; rfl, _, found, hp⟩
    · cases spec
    · cases spec
  · rintro ⟨hy1, z, hz, hp⟩
    have said : posSpec y = some (.existing y.id.toNat) := by
      rcases posSpec_cases y with ⟨h, e⟩ | ⟨h, e⟩ | ⟨h, e⟩ | ⟨h, e⟩
      · rw [h] at hy1; cases hy1
      · exact e
      · rw [h] at hy1; cases hy1
      · rw [beq_iff_eq] at hy1
        rw [hy1] at h
        exact absurd h (by decide)
    refine ⟨⟨z.1, z.2, k⟩, movesOf_mem.mpr ⟨_, spec.trans said, ?_⟩, by simp [hp]⟩
    simp only [moveOf, Option.mem_def.mp hz, Option.map_some]

end

/-! ## Strips that are dropped and moved, in the words of the statement -/

/-- R112: the ids that the entries name. -/
def trackSetIds (b : TrackSetBody) : List Nat :=
  ((trackSetEntries b).filter fun y => y.type != 0).map fun y => y.id.toNat

/-- R112 step 3: the strips that are dropped. -/
def Track.drops (t : Track) (b : TrackSetBody) : List Strip := t.strips.filter fun x => !(trackSetIds b).contains x.id

/-- R112 step 4: the entry `y` moves its strip to position `k`. -/
def Track.moved (t : Track) (k : Nat) (y : PosEntry) : Bool := y.type == 1 && (t.spot y).any fun j => j != k

/-- R132: the pull is discarded. -/
def Track.discardsPull (t : Track) (b : TrackSetBody) : Bool :=
  t.pull.any fun x => (x.pullState == .waiting || x.pullState == .ordered) &&
    !(b.pull.type == 1 && b.pull.id.toNat == x.id)

/-- R119: the strip that starts its pull. -/
def Track.starts (t : Track) (b : TrackSetBody) : Option Strip :=
  ((t.named b.pull).filter fun x => t.moved 2 b.pull && x.pullDue).map Strip.plain

theorem Track.unclaimed_spot (t : Track) (y : PosEntry) : t.unclaimed.spot y = t.spot y := by
  rw [Track.spot, Track.spot, ← Track.find_position, ← Track.find_position, t.unclaimed_find, Option.map_map]
  rfl

theorem Track.find_any (t : Track) (y : PosEntry) (p : Nat → Bool) :
    ((t.find y.id.toNat).any fun z => p z.2) = (t.spot y).any p := by
  rw [Track.spot, ← Track.find_position, Option.any_map]

/-- R112 step 3: the strips dropped, with their claims ended. -/
theorem unclaimed_goneOf (t : Track) (specs : List PosSpec) : (goneOf t.unclaimed specs).map Prod.fst =
    (goneOf t specs).map fun z => if z.2 = 1 then z.1.plain else z.1 := by
  have placed : t.unclaimed.placed = t.placed.map fun z => (if z.2 = 1 then z.1.plain else z.1, z.2) := by
    simp only [Track.placed, Track.positions, Track.unclaimed]
    cases t.entry <;> cases t.bond <;> cases t.pull <;> cases t.exit <;> rfl
  rw [goneOf, goneOf, placed, List.filter_map, List.map_map]
  congr 1
  refine List.filter_congr fun z _ => ?_
  dsimp only [Function.comp]
  split <;> rfl

theorem restating_news (b : TrackSetBody) (t : Track) (T : Tables) : (restatingOf T t (trackSetSpecs b)).news =
    ((trackSetEntries b).filter fun y => y.type == 2).length := by
  have fresh := congrArg List.length (fresh_entries (trackSetEntries b))
  rw [List.length_map] at fresh
  rw [← fresh]
  change (trackSetSpecs b).countP PosSpec.isNew = ((trackSetSpecs b).filterMap PosSpec.fresh?).length
  generalize trackSetSpecs b = l
  induction l with
  | nil => rfl
  | cons p l ih => 
    rw [List.countP_cons, List.filterMap_cons, ih]
    cases p <;> rfl

section
variable {b : TrackSetBody} (all : ((trackSetEntries b).all fun y => y.type.toNat ≤ 2) = true) (t : Track)
include all

theorem goneOf_strips : (goneOf t (trackSetSpecs b)).map Prod.fst = t.drops b := by
  have ids : (trackSetSpecs b).filterMap PosSpec.id? = trackSetIds b := named_entries all
  rw [Track.drops, t.strips_placed, List.filter_map, goneOf, ids]
  rfl

/-- R78: the strips whose pins a TRACK-SET releases. -/
theorem restating_frees (T : Tables) (i : Nat) : (restatingOf T t.unclaimed (trackSetSpecs b)).frees i =
    (((t.drops b).any fun x => x.id == i) || (t.moved 3 b.exit && i == b.exit.id.toNat)) := by
  refine congrArg₂ or ?_ ?_
  · have gone := congrArg (fun l : List Strip => l.any fun x => x.id == i) (unclaimed_goneOf t (trackSetSpecs b))
    rw [List.any_map, List.any_map] at gone
    rw [← goneOf_strips all, List.any_map]
    refine gone.trans (any_congr_mem fun z _ => ?_)
    dsimp only [Function.comp]
    split <;> rfl
  · have exits (m : StripMove) : (m.exits && m.strip.id == i) =
        (m.now == 3 && (m.was != 3 && m.strip.id == i)) := by
      unfold StripMove.exits
      by_cases h : m.now = 3
      · simp only [h, beq_self_eq_true, Bool.and_true, Bool.true_and]
      · simp only [beq_eq_false_iff_ne.mpr h, Bool.and_false, Bool.false_and]
    refine (any_congr_mem fun m _ => exits m).trans ?_
    rw [movesOf_any all t.unclaimed (k := 3) (y := b.exit) rfl fun m => m.was != 3 && m.strip.id == i]
    rw [Track.moved, ← t.unclaimed_spot, ← Track.find_any, Bool.and_assoc]
    refine congrArg (b.exit.type == 1 && ·) ?_
    cases hz : t.unclaimed.find b.exit.id.toNat with
    | none => rfl
    | some z =>
      obtain ⟨-, hid, -⟩ := Track.find_some hz
      simp only [Option.any_some, hid, Bool.beq_comm (a := i)]

theorem restating_drops (T : Tables) :
    (restatingOf T t.unclaimed (trackSetSpecs b)).drops = (t.drops b).length := by
  have lengths := congrArg List.length (unclaimed_goneOf t (trackSetSpecs b))
  rw [List.length_map, List.length_map] at lengths
  rw [← goneOf_strips all, List.length_map, ← lengths]
  rfl

/-- R119: a strip arrives at PULL. -/
theorem arrives_iff : ((movesOf t.unclaimed (trackSetSpecs b)).any fun m => m.now == 2 && m.was != 2) =
    t.moved 2 b.pull := by
  rw [movesOf_any all t.unclaimed (k := 2) (y := b.pull) rfl fun m => m.was != 2]
  rw [Track.find_any t.unclaimed b.pull fun j => j != 2, t.unclaimed_spot]
  rfl

end

/-! ## The strips at their positions -/

/-- R112 steps 6 and 7, R119: the strip `x` at position `k`, with the window column and the pull state given. -/
def Strip.restated (x : Strip) (k : Nat) (w : Option Nat) (p : Option PullState) : Strip :=
  { x with
    window := if k = 1 then w.getD x.window else x.window
    pullState := if k = 2 then p.getD x.pullState else x.pullState }

/-- R112 step 4: an EXISTING strip once it has moved to `k`, with its claims ended. -/
def Strip.movedTo (z : Strip) (was k : Nat) : Strip :=
  { z.plain with pullState := if was ≠ k ∧ z.pulling = true then .none else z.pullState }

theorem StripMove.settled_plain (z : Strip) (was k : Nat) :
    StripMove.settled ⟨z.plain, was, k⟩ = z.movedTo was k := by
  unfold StripMove.settled Strip.movedTo
  dsimp only
  by_cases h : was = k
  · rw [if_pos h, if_neg fun c => c.1 h]
    rfl
  · rw [if_neg h]
    have same : z.plain.pulling = z.pulling := rfl
    rw [same]
    cases hp : z.pulling with
    | true => rw [if_pos rfl, if_pos ⟨h, rfl⟩]
    | false => rw [if_neg nofun, if_neg fun c => nomatch c.2]; rfl

section
variable {s : State} (claims : ClaimInv s)
include claims

/-- R112: what an entry leaves at its position. -/
theorem settles_cases (T : Tables) {y : PosEntry} {p : PosSpec} (hp : posSpec y = some p) (k : Nat) :
    p.settles T s.track.unclaimed k =
      if y.type = 2 then some (T.newStrip y.id.toNat y.device.toNat y.column.toNat false)
      else if y.type = 1 then (s.track.find y.id.toNat).map fun z => z.1.movedTo z.2 k
      else none := by
  obtain ⟨-, -, -, -, entry, pull, exit, -⟩ := claims
  rcases posSpec_cases y with ⟨h, e⟩ | ⟨h, e⟩ | ⟨h, e⟩ | ⟨h, e⟩ <;> rw [e] at hp
  · cases hp
    rw [h, if_neg (by decide), if_neg (by decide)]
    rfl
  · cases hp
    rw [h, if_neg (by decide), if_pos rfl]
    simp only [PosSpec.settles, PosSpec.newAt, moveOf, Track.unclaimed_find_plain entry pull exit, Option.map_map]
    refine Option.map_congr fun z _ => ?_
    exact StripMove.settled_plain z.1 z.2 k
  · cases hp
    rw [h, if_pos rfl]
    rfl
  · cases hp

end

/-- R132: where a pull is discarded it is that of the strip at PULL. -/
theorem discards_pulling {s : State} (beside : s.lane.Beside) {specs : List PosSpec}
    (hd : (restatingOf s.tables s.track specs).discards = true) :
    ∃ x, s.track.pull = some x ∧ x.pulling = true := by
  rcases Bool.or_eq_true_iff.mp hd with hd | hd
  · obtain ⟨⟨y, j⟩, hy, hp⟩ := List.any_eq_true.mp hd
    obtain ⟨place, hj⟩ := Track.mem_placed (List.mem_filter.mp hy).1
    obtain rfl := State.pulling_place beside hj place hp
    exact ⟨y, place, hp⟩
  · obtain ⟨m, hm, hp⟩ := List.any_eq_true.mp hd
    obtain ⟨p, -, hm⟩ := movesOf_mem.mp hm
    obtain ⟨-, found, -⟩ := moveOf_some hm
    obtain ⟨place, -, hlt⟩ := Track.find_some found
    obtain ⟨-, pulling⟩ := Bool.and_eq_true_iff.mp hp
    rw [State.pulling_place beside hlt place pulling] at place
    exact ⟨m.strip, place, pulling⟩

/-- 11 TABLE 21: the entry names an EXISTING strip. -/
theorem posSpec_existing (y : PosEntry) (i : Nat) :
    posSpec y = some (.existing i) ↔ (y.type == 1 && y.id.toNat == i) = true := by
  rcases posSpec_cases y with ⟨h, e⟩ | ⟨h, e⟩ | ⟨h, e⟩ | ⟨h, e⟩ <;> rw [e]
  · rw [h]; exact iff_of_false nofun nofun
  · rw [h, beq_self_eq_true, Bool.true_and, beq_iff_eq, Option.some.injEq, PosSpec.existing.injEq]
  · rw [h]; exact iff_of_false nofun nofun
  · refine iff_of_false nofun fun k => ?_
    rw [Bool.and_eq_true, beq_iff_eq] at k
    rw [k.1] at h
    exact absurd h (by decide)

/-- R132: the pull is discarded where its strip does not stay at PULL. -/
theorem discards_iff {s : State} {b : TrackSetBody} (all : ((trackSetEntries b).all fun y => y.type.toNat ≤ 2) = true)
    (h : Restatable s.track (trackSetSpecs b)) (inv : PullInv s) :
    (restatingOf s.tables s.track (trackSetSpecs b)).discards = s.track.discardsPull b := by
  obtain ⟨⟨nodup, -⟩, -⟩ := id inv
  have pulls := ((pullInv_iff s).mp inv).2
  have second : (trackSetSpecs b)[2]? = posSpec b.pull := trackSetSpecs_getElem? all rfl
  unfold Track.discardsPull
  cases hx : s.track.pull with
  | none =>
    rw [Option.any_none, ← Bool.not_eq_true]
    intro hd
    obtain ⟨x, hx', -⟩ := discards_pulling pulls.beside hd
    rw [hx] at hx'
    cases hx'
  | some x =>
    rw [Option.any_some]
    change _ = (x.pulling && _)
    cases hp : x.pulling with
    | false =>
      rw [Bool.false_and, ← Bool.not_eq_true]
      intro hd
      obtain ⟨y, hy, hp'⟩ := discards_pulling pulls.beside hd
      obtain rfl := Option.some.inj (hx.symm.trans hy)
      rw [hp] at hp'
      cases hp'
    | true =>
      rw [Bool.true_and]
      cases hs : b.pull.type == 1 && b.pull.id.toNat == x.id with
      | true =>
        rw [Bool.not_true, ← Bool.not_eq_true]
        exact fun hd => h.discards_leaves pulls.beside hx (second.trans ((posSpec_existing _ _).mpr hs)) hd
      | false =>
        rw [Bool.not_false, ← Bool.not_eq_false]
        intro hd
        have stays := (posSpec_existing _ _).mp (second.symm.trans (h.pull_stays nodup hx hp hd))
        rw [hs] at stays
        cases stays

end Sys2Proof.Machine
end

section
/-! SUPPORT. What an accepted TRACK-SET leaves as a whole (R112, R119). -/

namespace Sys2Proof.Machine

/-! ## The states of an accepted TRACK-SET -/

/-- What the checks of a TRACK-SET leave (R111). -/
structure Settable (s : State) (b : TrackSetBody) : Prop where
  types : ((trackSetEntries b).all fun y => y.type.toNat ≤ 2) = true
  unknown : s.track.known = false
  restatable : Restatable s.track (trackSetSpecs b)
  idle : s.headA.state.inFlight = false ∧ s.headB.state.inFlight = false

theorem settable_of {s : State} {b : TrackSetBody} (h : (trackSetChecks b s).all (fun y => y.1) = true) :
    trackSetReason s (trackSetEntries b) (trackSetColumn b) = none ∧ Settable s b := by
  have none_fails : firstFailed (trackSetChecks b s) = none := by
    rw [List.find?_eq_none]
    intro y hy
    simp [List.all_eq_true.mp h y hy]
  have passes : trackSetReason s (trackSetEntries b) (trackSetColumn b) = none := by
    rw [trackSetReason_eq, none_fails]
    rfl
  obtain ⟨unknown, restatable⟩ := restatable_of (s := s) (raw := trackSetEntries b) rfl passes
  exact ⟨passes, {
    types := List.all_eq_true.mp h ((trackSetEntries b).all fun y => y.type.toNat ≤ 2, .range)
      (by simp [trackSetChecks])
    unknown := unknown
    restatable := restatable
    idle := ⟨trackSetReason_none passes .a, trackSetReason_none passes .b⟩ }⟩

/-- R112 steps 1 to 6. -/
def State.restated (s : State) (b : TrackSetBody) : State :=
  ((s.happens State.endClaims).restate (trackSetSpecs b)).setWindow (trackSetColumn b)

/-- R112 steps 1 to 7. -/
def State.knownAgain (s : State) (tag : Byte) (b : TrackSetBody) : State :=
  ((s.restated b).happens State.trackKnown).reply 7 tag .accepted

theorem State.acceptTrackSet_known (s : State) (tag : Byte) {b : TrackSetBody} (h : Settable s b) :
    s.acceptTrackSet tag (trackSetSpecs b) (trackSetColumn b) =
      if s.track.moved 2 b.pull then (s.knownAgain tag b).startPull else s.knownAgain tag b := by
  have ended : (s.happens State.endClaims).track = s.track.unclaimed := State.happens_track _ _
  rw [State.acceptTrackSet_eq]
  dsimp only
  rw [ended, arrives_iff h.types]
  rfl

/-- R112: the strip that the entry `y` leaves at position `k`, before the window column is set. -/
def State.stated (s : State) (y : PosEntry) (k : Nat) : Option Strip :=
  if y.type = 2 then some (s.tables.newStrip y.id.toNat y.device.toNat y.column.toNat false)
  else if y.type = 1 then (s.track.find y.id.toNat).map fun z => z.1.movedTo z.2 k
  else none

section
variable {s : State} {b : TrackSetBody} (h : Settable s b)
include h

theorem Settable.restates : Restates (restatingOf s.tables s.track.unclaimed (trackSetSpecs b))
    (s.happens State.endClaims) ((s.happens State.endClaims).restate (trackSetSpecs b)) := by
  have ended : (s.happens State.endClaims).track = s.track.unclaimed := State.happens_track _ _
  have tables : (s.happens State.endClaims).tables = s.tables := State.happens_tables _ _
  have restates := (s.happens State.endClaims).restate_restates (specs := trackSetSpecs b)
    (ended ▸ h.restatable.unclaimed)
  rwa [ended, tables] at restates

/-- R112: the strips at their positions behind step 5. -/
theorem Settable.restate_place (claims : ClaimInv s) {k : Nat} {y : PosEntry}
    (hy : (trackSetEntries b)[k]? = some y) :
    ((s.happens State.endClaims).restate (trackSetSpecs b)).track.place k = s.stated y k := by
  have hk : k < 4 := (List.getElem?_eq_some_iff.mp hy).1
  have spec := trackSetSpecs_getElem? h.types hy
  obtain ⟨p, hp⟩ : ∃ p, posSpec y = some p := by
    rw [← Option.isSome_iff_exists, posSpec_isSome]
    exact List.all_eq_true.mp h.types y (List.mem_of_getElem? hy)
  rw [h.restates.track]
  refine (Track.place_replaced (s.happens State.endClaims).track
    (restatingOf s.tables s.track.unclaimed (trackSetSpecs b)).place hk).trans ?_
  change ((trackSetSpecs b)[k]?).bind (fun p => p.settles s.tables s.track.unclaimed k) = _
  rw [spec, hp, Option.bind_some, settles_cases claims s.tables hp]
  rfl

theorem Settable.restated_place (claims : ClaimInv s) {k : Nat} {y : PosEntry}
    (hy : (trackSetEntries b)[k]? = some y) :
    (s.restated b).track.place k = (s.stated y k).map fun x => x.restated k (trackSetColumn b) none := by
  rw [← h.restate_place claims hy]
  have hk : k < 4 := (List.getElem?_eq_some_iff.mp hy).1
  have same (x : Option Strip) {j : Nat} (hj : j ≠ 1) :
      x = x.map fun x => x.restated j (trackSetColumn b) none := by
    cases x with
    | none => rfl
    | some x => simp [Strip.restated, hj]
  match k, hk with
  | 0, _ => exact same _ (by decide)
  | 1, _ => rfl
  | 2, _ => exact same _ (by decide)
  | 3, _ => exact same _ (by decide)

end

/-- R112 step 7: what stays when the track is KNOWN again. -/
theorem State.knownAgain_track (s : State) (tag : Byte) (b : TrackSetBody) :
    (s.knownAgain tag b).track = { (s.restated b).track with known := true } := by
  rw [State.knownAgain, State.reply_track, State.happens_track]
  exact (State.conditionsGone_frame _ _).track_eq (by simp)

theorem State.trackKnown_frame (s : State) : Frame (.track :: leaveBlocks) s s.trackKnown := by
  have marked : Frame (.track :: leaveBlocks) s { s with track := { s.track with known := true } } := by simp [Frame]
  exact marked.trans ((State.conditionsGone_frame _ _).mono (by simp))

theorem State.knownAgain_frame (s : State) (tag : Byte) (b : TrackSetBody) :
    Frame (.track :: leaveBlocks) (s.restated b) (s.knownAgain tag b) :=
  ((s.restated b).happens_frame _ (s.restated b).trackKnown_frame).trans ((State.reply_frame _ _ _ _).mono (by simp))

theorem State.restated_frame (s : State) (b : TrackSetBody) :
    Frame [.headA, .headB, .track, .store, .puller, .ports] s (s.restated b) := by
  have ended : Frame [.headA, .headB, .track, .store, .puller, .ports] s s.endClaims := by
    simp [Frame, State.endClaims]
  exact ((s.happens_frame _ ended).trans ((State.restate_frame _ _).mono (by simp))).trans
    ((State.setWindow_frame _ _).mono (by simp))

/-! ## The pull that starts (R119) -/

theorem Track.named_eq (t : Track) (y : PosEntry) : t.named y = (t.find y.id.toNat).map Prod.fst :=
  (t.find_strip y.id.toNat).symm

/-- R119: the strip `y`, at PULL of `v`, is `x` and starts its pull. -/
structure Begins (x y : Strip) (v z : State) : Prop where
  pull : v.track.pull = some y
  id : y.id = x.id
  device : y.device = x.device
  units : y.units = x.units
  starts : PullStarts y v z

/-- R119: from `v` to `z` the strip `x`, if any, starts its pull; else nothing changes. -/
def PullOutcome (x : Option Strip) (v z : State) : Prop :=
  (x = none ∧ z = v) ∨ ∃ a y, x = some a ∧ Begins a y v z

section
variable {s : State} {b : TrackSetBody} (h : Settable s b) (claims : ClaimInv s) (unheld : s.track.held = none)
include h

theorem Settable.knownAgain_held (tag : Byte) : (s.knownAgain tag b).track.held = s.track.held := by
  rw [State.knownAgain_track]
  change ((s.happens State.endClaims).restate (trackSetSpecs b)).track.held = _
  rw [h.restates.track]
  change (s.happens State.endClaims).track.held = _
  rw [State.happens_track]
  rfl

include claims

theorem Settable.knownAgain_pull (tag : Byte) : (s.knownAgain tag b).track.pull = s.stated b.pull 2 := by
  rw [State.knownAgain_track]
  exact h.restate_place claims (k := 2) (y := b.pull) rfl

/-- R119: the strip that starts its pull stands at PULL. -/
theorem Settable.starts_some (tag : Byte) {x : Strip} (hx : s.track.starts b = some x) :
    s.track.moved 2 b.pull = true ∧ ∃ y, (s.knownAgain tag b).track.pull = some y ∧ y.pullDue = true ∧
      y.id = x.id ∧ y.device = x.device ∧ y.units = x.units := by
  obtain ⟨z, hz, rfl⟩ := Option.map_eq_some_iff.mp hx
  obtain ⟨named, hz⟩ := Option.filter_eq_some_iff.mp hz
  obtain ⟨moved, due⟩ := Bool.and_eq_true_iff.mp hz
  have type : b.pull.type = 1 := by simpa using (Bool.and_eq_true_iff.mp moved).1
  rw [Track.named_eq] at named
  obtain ⟨⟨z, was⟩, found, rfl⟩ := Option.map_eq_some_iff.mp named
  refine ⟨moved, z.movedTo was 2, ?_, due, rfl, rfl, rfl⟩
  rw [h.knownAgain_pull claims, State.stated, type, if_neg (by decide), if_pos rfl, found]
  rfl

/-- R119: else no strip that has moved to PULL is pull-due. -/
theorem Settable.starts_none (tag : Byte) (hx : s.track.starts b = none) (moved : s.track.moved 2 b.pull = true) :
    ∀ y ∈ (s.knownAgain tag b).track.pull, y.pullDue = false := by
  have type : b.pull.type = 1 := by simpa using (Bool.and_eq_true_iff.mp moved).1
  intro y hy
  rw [h.knownAgain_pull claims, State.stated, type, if_neg (by decide), if_pos rfl] at hy
  obtain ⟨⟨z, was⟩, found, rfl⟩ := Option.map_eq_some_iff.mp hy
  have named : s.track.named b.pull = some z := by rw [Track.named_eq, found]; rfl
  rw [Track.starts, named, Option.map_eq_none_iff, Option.filter_some, moved] at hx
  change z.pullDue = false
  cases hd : z.pullDue with
  | false => rfl
  | true => simp [hd] at hx

include unheld

/-- R119: an accepted TRACK-SET starts a pull, or leaves the pull controller as it stands. -/
theorem Settable.outcome (tag : Byte) :
    PullOutcome (s.track.starts b) (s.knownAgain tag b)
      (s.acceptTrackSet tag (trackSetSpecs b) (trackSetColumn b)) := by
  have accepted := s.acceptTrackSet_known tag h
  cases hx : s.track.starts b with
  | none =>
    refine .inl ⟨rfl, ?_⟩
    rw [accepted]
    split
    · next moved => exact State.startPull_none _ (h.starts_none claims tag hx moved)
    · rfl
  | some x =>
    obtain ⟨moved, y, pull, due, id, device, units⟩ := h.starts_some claims tag hx
    refine .inr ⟨x, y, rfl, pull, id, device, units, ?_⟩
    rw [accepted, if_pos moved]
    exact State.startPull_due _ y pull due ((h.knownAgain_held tag).trans unheld)

end

/-! ## The track -/

section
variable {x : Option Strip} {v z : State} (o : PullOutcome x v z)
include o

theorem PullOutcome.track : z.track = { v.track with pull := z.track.pull } := by
  rcases o with ⟨-, rfl⟩ | ⟨a, y, -, begins⟩
  · rfl
  · rw [begins.starts.track]

/-- R119: the strip at PULL keeps all but its pull state. -/
theorem PullOutcome.pull : ∃ p : Option PullState, p.isSome = x.isSome ∧
    z.track.pull = v.track.pull.map fun y => { y with pullState := p.getD y.pullState } := by
  rcases o with ⟨rfl, rfl⟩ | ⟨a, y, rfl, begins⟩
  · refine ⟨none, rfl, ?_⟩
    cases z.track.pull <;> rfl
  · refine ⟨some (if (v.pullOf y).tasks = [] then .complete else .waiting), rfl, ?_⟩
    rw [begins.starts.track, begins.pull]
    rfl

end

section
variable {s : State} {b : TrackSetBody} (h : Settable s b) (claims : ClaimInv s) (tag : Byte) {z : State}
  (o : PullOutcome (s.track.starts b) (s.knownAgain tag b) z)
include h claims o

/-- R112, R119: the strips at their positions. -/
theorem Settable.accepted_place : ∃ p : Option PullState, p.isSome = (s.track.starts b).isSome ∧
    ∀ k y, (trackSetEntries b)[k]? = some y →
      z.track.place k = (s.stated y k).map fun x => x.restated k (trackSetColumn b) p := by
  obtain ⟨p, hp, pull⟩ := o.pull
  refine ⟨p, hp, fun k e he => ?_⟩
  have hk : k < 4 := (List.getElem?_eq_some_iff.mp he).1
  have stands := h.restated_place claims he
  rw [o.track, s.knownAgain_track tag b]
  have other {j : Nat} (hj : j ≠ 2) (q : Option PullState) (x : Option Strip) :
      (x.map fun x => x.restated j (trackSetColumn b) none) = x.map fun x => x.restated j (trackSetColumn b) q := by
    cases x with
    | none => rfl
    | some x => simp [Strip.restated, hj]
  match k, hk, stands with
  | 0, _, stands => exact stands.trans (other (by decide) p _)
  | 1, _, stands => exact stands.trans (other (by decide) p _)
  | 2, _, stands =>
    change z.track.pull = _
    rw [pull, s.knownAgain_track tag b]
    change (s.restated b).track.pull = _ at stands
    rw [stands, Option.map_map]
    rfl
  | 3, _, stands => exact stands.trans (other (by decide) p _)

end

end Sys2Proof.Machine
end

section
/-! SUPPORT. An accepted TRACK-SET in the words of its statement: ids, positions, NEW and EXISTING strips (R88, R111,
R112). -/

namespace Sys2Proof.Machine

/-- The entries and the strips at their positions. -/
theorem positions_entry {t : Track} {b : TrackSetBody} {y : (Option Strip × PosEntry) × Nat}
    (h : y ∈ (t.positions.zip (trackSetEntries b)).zipIdx) :
    (trackSetEntries b)[y.2]? = some y.1.2 ∧ t.place y.2 = y.1.1 := by
  obtain ⟨⟨x, e⟩, k⟩ := y
  have at_k := (zipIdx_mem _ _ _).mp h
  obtain ⟨hx, he⟩ := List.getElem?_zip_eq_some.mp at_k
  refine ⟨he, ?_⟩
  have hk : k < 4 := (List.getElem?_eq_some_iff.mp he).1
  match k, hk, hx with
  | 0, _, hx => exact Option.some.inj hx
  | 1, _, hx => exact Option.some.inj hx
  | 2, _, hx => exact Option.some.inj hx
  | 3, _, hx => exact Option.some.inj hx

theorem starts_type {t : Track} {b : TrackSetBody} (h : (t.starts b).isSome = true) : b.pull.type = 1 := by
  obtain ⟨x, hx⟩ := Option.isSome_iff_exists.mp h
  obtain ⟨z, hz, -⟩ := Option.map_eq_some_iff.mp hx
  have moved := (Bool.and_eq_true_iff.mp (Option.filter_eq_some_iff.mp hz).2).1
  simpa using (Bool.and_eq_true_iff.mp moved).1

section
variable {s : State} {b : TrackSetBody} (h : Settable s b)
include h

theorem Settable.stated_id {k : Nat} {y : PosEntry} (hy : (trackSetEntries b)[k]? = some y) :
    (s.stated y k).map (fun x => x.id) = if y.type != 0 then some y.id.toNat else none := by
  have small := List.all_eq_true.mp h.types y (List.mem_of_getElem? hy)
  have spec := trackSetSpecs_getElem? h.types hy
  unfold State.stated
  rcases posSpec_cases y with ⟨ht, e⟩ | ⟨ht, e⟩ | ⟨ht, e⟩ | ⟨ht, -⟩
  · rw [ht]; rfl
  · rw [ht, if_neg (by decide), if_pos rfl]
    obtain ⟨z, hz⟩ := Option.isSome_iff_exists.mp
      (h.restatable.found _ (List.mem_of_getElem? (spec.trans e)))
    obtain ⟨-, hid, -⟩ := Track.find_some hz
    rw [hz]
    exact congrArg some hid
  · rw [ht]; rfl
  · exact absurd small (by simpa using ht)

variable (claims : ClaimInv s) (tag : Byte) {z : State}
  (o : PullOutcome (s.track.starts b) (s.knownAgain tag b) z)
include claims o

theorem Settable.place_id {k : Nat} {y : PosEntry} (hy : (trackSetEntries b)[k]? = some y) :
    (z.track.place k).map (fun x => x.id) = if y.type != 0 then some y.id.toNat else none := by
  obtain ⟨p, -, place⟩ := h.accepted_place claims tag o
  rw [place k y hy, Option.map_map, ← h.stated_id hy]
  rfl

/-- R88: the ids behind an accepted TRACK-SET. -/
theorem Settable.accepted_ids : z.track.strips.map (fun x => x.id) = trackSetIds b := by
  have at_k (k : Nat) (y : PosEntry) (hy : (trackSetEntries b)[k]? = some y) := h.place_id claims tag o hy
  rw [Track.strips_eq, List.map_filterMap, trackSetIds, filter_map_eq_filterMap]
  change [0, 1, 2, 3].filterMap _ = [b.entry, b.bond, b.pull, b.exit].filterMap _
  simp only [List.filterMap_cons, at_k 0 b.entry rfl, at_k 1 b.bond rfl, at_k 2 b.pull rfl, at_k 3 b.exit rfl]
  rfl

theorem Settable.accepted_positions :
    ((z.track.positions.zip (trackSetEntries b)).all fun y => y.1.isSome == (y.2.type != 0)) = true := by
  rw [List.all_eq_true]
  intro y hy
  obtain ⟨k, hk⟩ := List.mem_iff_getElem?.mp hy
  obtain ⟨he, hp⟩ := positions_entry (y := (y, k)) ((zipIdx_mem _ _ _).mpr hk)
  have ids := congrArg Option.isSome (h.place_id claims tag o he)
  rw [Option.isSome_map, hp] at ids
  rw [ids, beq_iff_eq]
  split
  · next ht => rw [ht]; rfl
  · next ht => rw [(Bool.not_eq_true _).mp ht]; rfl

/-- R112 step 5: the NEW strips. -/
theorem Settable.accepted_new {y : (Option Strip × PosEntry) × Nat}
    (hy : y ∈ (z.track.positions.zip (trackSetEntries b)).zipIdx) (type : y.1.2.type = 2) {x : Strip}
    (hx : x ∈ y.1.1) :
    x = { s.tables.newStrip y.1.2.id.toNat y.1.2.device.toNat y.1.2.column.toNat false with
        window := if y.2 = 1 then (trackSetColumn b).getD x.window else x.window } ∧
      (y.2 ≠ 1 ∨ trackSetColumn b = none →
        x = s.tables.newStrip y.1.2.id.toNat y.1.2.device.toNat y.1.2.column.toNat false) := by
  obtain ⟨p, hp, place⟩ := h.accepted_place claims tag o
  obtain ⟨he, hz⟩ := positions_entry hy
  have stated := place y.2 y.1.2 he
  rw [hz, State.stated, if_pos type, Option.mem_def.mp hx] at stated
  have idle : y.2 = 2 → p = none := by
    intro h2
    rw [h2] at he
    rw [← Option.not_isSome_iff_eq_none, hp]
    intro starts
    have one := starts_type starts
    rw [show b.pull = y.1.2 from Option.some.inj he, type] at one
    exact absurd one (by decide)
  have eq := Option.some.inj stated
  generalize s.tables.newStrip y.1.2.id.toNat y.1.2.device.toNat y.1.2.column.toNat false = n at eq
  have pull : (if y.2 = 2 then p.getD n.pullState else n.pullState) = n.pullState := by
    split
    · next h2 => rw [idle h2]; rfl
    · rfl
  have eq : x = { n with window := if y.2 = 1 then (trackSetColumn b).getD n.window else n.window } := by
    rw [eq]
    unfold Strip.restated
    dsimp only
    rw [pull]
  rw [eq]
  cases hw : trackSetColumn b with
  | none => simp
  | some w => by_cases h1 : y.2 = 1 <;> simp [h1]

/-- R112 step 4: the EXISTING strips. -/
theorem Settable.accepted_existing (inv : PullInv s) {y : (Option Strip × PosEntry) × Nat}
    (hy : y ∈ (z.track.positions.zip (trackSetEntries b)).zipIdx) (type : y.1.2.type = 1) {x : Strip}
    (hx : x ∈ y.1.1) {w : Strip} (hw : w ∈ s.track.named y.1.2) :
    x = { w.plain with
      window := if y.2 = 1 then (trackSetColumn b).getD w.window else w.window
      pullState := if y.2 = 2 ∧ (s.track.starts b).isSome = true then x.pullState
        else if w.pullState = .waiting ∨ w.pullState = .ordered then
          (if y.2 = 2 then w.pullState else .none)
        else w.pullState } := by
  obtain ⟨p, hp, place⟩ := h.accepted_place claims tag o
  obtain ⟨he, hz⟩ := positions_entry hy
  rw [Option.mem_def, Track.named_eq] at hw
  obtain ⟨⟨v, was⟩, found, rfl⟩ := Option.map_eq_some_iff.mp hw
  have stated := place y.2 y.1.2 he
  rw [hz, State.stated, type, if_neg (by decide), if_pos rfl, found, Option.mem_def.mp hx] at stated
  have eq : x = (v.movedTo was y.2).restated y.2 (trackSetColumn b) p := Option.some.inj stated
  obtain ⟨stands, -, hk⟩ := Track.find_some found
  have beside := ((pullInv_iff s).mp inv).2.beside
  have standing : v.pulling = true → was = 2 := State.pulling_place beside hk stands
  have waits : v.pullState = .waiting ∨ v.pullState = .ordered ↔ v.pulling = true := by
    simp [Strip.pulling]
  have state : x.pullState = if y.2 = 2 ∧ (s.track.starts b).isSome = true then x.pullState
      else if v.pullState = .waiting ∨ v.pullState = .ordered then
        (if y.2 = 2 then v.pullState else .none)
      else v.pullState := by
    have moves : (v.movedTo was y.2).pullState = if v.pullState = .waiting ∨ v.pullState = .ordered then
        (if y.2 = 2 then v.pullState else .none) else v.pullState := by
      simp only [Strip.movedTo, waits]
      cases hv : v.pulling with
      | false => simp
      | true => simp [standing hv, eq_comm]
    by_cases h2 : y.2 = 2 ∧ (s.track.starts b).isSome = true
    · rw [if_pos h2]
    rw [if_neg h2, ← moves, eq]
    change (if y.2 = 2 then p.getD (v.movedTo was y.2).pullState else (v.movedTo was y.2).pullState) = _
    split
    · next at_pull =>
      have none_starts : p = none := by
        rw [← Option.not_isSome_iff_eq_none, hp]
        exact fun starts => h2 ⟨at_pull, starts⟩
      rw [none_starts]
      rfl
    · rfl
  have rest : x = { v.plain with
      window := if y.2 = 1 then (trackSetColumn b).getD v.window else v.window, pullState := x.pullState } := by
    rw [eq]
    rfl
  dsimp only
  rw [← state]
  exact rest

end

end Sys2Proof.Machine
end

section
/-! SUPPORT. An accepted TRACK-SET: records, pull, counts, frames and alarms (R78, R112, R114, R119, R132, R140). -/

namespace Sys2Proof.Machine

/-! ## Records and pins (R78, R119) -/

/-- R78: the strips whose pins the steps of a TRACK-SET release. -/
def Track.frees (t : Track) (b : TrackSetBody) (i : Nat) : Bool :=
  ((t.drops b).any fun x => x.id == i) || (t.moved 3 b.exit && i == b.exit.id.toNat)

/-- R78, R119: the records whose pins an accepted TRACK-SET releases. -/
def Track.unpins (t : Track) (b : TrackSetBody) (r : BondRecord) : Bool :=
  t.frees b r.strip ||
    (t.starts b).any fun x => r.strip == x.id && (x.units[r.unit]?).all fun y => y.state != .done

/-- R119: the start of a pull releases the pins of the units that are not DONE. -/
theorem unpinPull_eq (x : Strip) (l : List BondRecord) : unpinPull x l = l.map fun r =>
    if r.strip == x.id && (x.units[r.unit]?).all (fun y => y.state != .done) then r.unpin else r := by
  refine List.map_congr_left fun r _ => ?_
  have open_unit : (!((x.units[r.unit]?).elim false fun y => y.state == .done)) =
      (x.units[r.unit]?).all fun y => y.state != .done := by
    cases x.units[r.unit]? <;> rfl
  rw [open_unit]
  rfl

section
variable {s : State} {b : TrackSetBody} (h : Settable s b) (tag : Byte)
include h

theorem Settable.knownAgain_store : (s.knownAgain tag b).store = s.store.freed (s.track.frees b) := by
  have frees : (restatingOf s.tables s.track.unclaimed (trackSetSpecs b)).frees = s.track.frees b :=
    funext fun i => restating_frees h.types s.track s.tables i
  rw [(s.knownAgain_frame tag b).store_eq (by simp)]
  change ((s.happens State.endClaims).restate (trackSetSpecs b)).store = _
  rw [h.restates.store, frees, State.happens_store]
  rfl

/-- R132: the pull of a strip that leaves PULL is discarded. -/
theorem Settable.knownAgain_puller (inv : PullInv s) :
    (s.knownAgain tag b).puller = s.puller.discarded (s.track.discardsPull b) := by
  let u := s.happens State.endClaims
  have track : u.track = s.track.unclaimed := State.happens_track _ _
  have tables : u.tables = s.tables := State.happens_tables _ _
  have kept : PullInv u := (s.endClaims_steady.trans (s.happens_steady _)).tracked.pulls inv
  have discards := discards_iff (s := u) h.types (track ▸ h.restatable.unclaimed) kept
  rw [track, tables] at discards
  rw [(s.knownAgain_frame tag b).puller_eq (by simp)]
  change (u.restate (trackSetSpecs b)).puller = _
  rw [h.restates.puller, discards, State.happens_puller]
  rfl

variable {z : State} (o : PullOutcome (s.track.starts b) (s.knownAgain tag b) z)
include o

theorem Settable.accepted_store : z.store = { s.store with
    records := s.store.records.map fun r => if s.track.unpins b r then r.unpin else r } := by
  have known := h.knownAgain_store tag
  rcases o with ⟨none_starts, rfl⟩ | ⟨x, y, starts, begins⟩
  · rw [known]
    refine congrArg (fun l => { s.store with records := l }) (List.map_congr_left fun r _ => ?_)
    rw [Track.unpins, none_starts, Option.any_none, Bool.or_false]
    rfl
  · rw [begins.starts.store, known]
    refine congrArg (fun l => { s.store with records := l }) ?_
    rw [unpinPull_eq, begins.id, begins.units, Store.freed, List.map_map]
    refine List.map_congr_left fun r _ => ?_
    rw [Track.unpins, starts, Option.any_some]
    exact r.unpin_if (fun r => s.track.frees b r.strip)
      fun r => r.strip == x.id && (x.units[r.unit]?).all fun y => y.state != .done

/-! ## Counts and magazines (R88, R113) -/

theorem Settable.accepted_track : z.track = { s.track with
    entry := z.track.entry, bond := z.track.bond, pull := z.track.pull, exit := z.track.exit
    known := true
    dropped := tally s.track.dropped (s.track.drops b).length
    introduced := tally s.track.introduced ((trackSetEntries b).filter fun y => y.type == 2).length } := by
  have restated := h.restates.track
  rw [State.happens_track, restating_drops h.types, restating_news b] at restated
  rw [o.track, s.knownAgain_track tag b]
  unfold State.restated State.setWindow
  rw [restated]
  rfl

/-! ## The pull that starts (R119) -/

theorem Settable.accepted_begun (inv : PullInv s) (pt : (s.knownAgain tag b).port .pt = s.port .pt) {x : Strip}
    (starts : s.track.starts b = some x) :
    PullBegun x z.store.records (s.puller.discarded (s.track.discardsPull b)) s z := by
  have tables : (s.knownAgain tag b).tables = s.tables := by
    rw [(s.knownAgain_frame tag b).tables_eq (by simp), (s.restated_frame b).tables_eq (by simp)]
  rcases o with ⟨idle, -⟩ | ⟨a, y, begun, begins⟩
  · rw [starts] at idle
    cases idle
  · obtain rfl := Option.some.inj (starts.symm.trans begun)
    rw [← h.knownAgain_puller tag inv]
    exact begins.starts.begun begins.id begins.device begins.units tables pt

theorem Settable.accepted_idle (inv : PullInv s) (idle : s.track.starts b = none) :
    z.puller = s.puller.discarded (s.track.discardsPull b) := by
  rcases o with ⟨-, rfl⟩ | ⟨x, -, starts, -⟩
  · exact h.knownAgain_puller tag inv
  · rw [idle] at starts
    cases starts

end

/-! ## Frames (R114, R172) -/

theorem Ports.reported_congr (ps : Ports) {l m : List Strip}
    (h : l.map (fun x => x.report none) = m.map fun x => x.report none) : ps.reported l = ps.reported m := by
  have folded (l : List Strip) :
      ps.reported l = (l.map fun x => x.report none).foldl (fun p m => p.enqueue .u false m) ps := by
    rw [Ports.reported, List.foldl_map]
  rw [folded, folded, h]

/-- R86: at most four strips are dropped. -/
theorem Track.drops_length (t : Track) (b : TrackSetBody) : (t.drops b).length ≤ 4 := by
  have strips : t.strips.length ≤ 4 := by
    rw [Track.strips_eq]
    exact List.length_filterMap_le _ _
  exact (List.length_filter_le _ _).trans strips

/-- R140: the notes of the conditions that end stand behind the STRIP-REPORTs. -/
theorem State.restated_known_queues {s : State} (b : TrackSetBody) (listed : AlarmInv s) :
    Queues 2 0 (s.restated b) ((s.restated b).happens State.trackKnown) := by
  have same : (s.restated b).alarms = s.alarms := (s.restated_frame b).alarms_eq (by simp)
  have noted := (s.restated b).trackKnown_queues (by rw [same]; exact listed.listedOnce) (by rw [same]; exact listed.1)
  exact noted.trans (State.markChanges_queues _ (s.restated b))

theorem State.knownAgain_queues {s : State} (b : TrackSetBody) (listed : AlarmInv s) (tag : Byte) :
    Queues 3 1 (s.restated b) (s.knownAgain tag b) :=
  (State.restated_known_queues b listed).trans (State.send_queues _ _)

section
variable {s : State} {b : TrackSetBody} (h : Settable s b)
include h

/-- R114: the dropped strips are reported as they stood. -/
theorem Settable.restated_ports : (s.restated b).ports = s.ports.reported (s.track.drops b) := by
  have ended : (s.happens State.endClaims).track = s.track.unclaimed := State.happens_track _ _
  change ((s.happens State.endClaims).restate (trackSetSpecs b)).ports = _
  rw [State.restate_ports, ended, State.happens_ports]
  refine s.ports.reported_congr ?_
  rw [unclaimed_goneOf, ← goneOf_strips h.types, List.map_map, List.map_map]
  refine List.map_congr_left fun z _ => ?_
  dsimp only [Function.comp]
  split
  · exact z.1.plain_report none
  · rfl

theorem Settable.restated_queues : Queues (s.track.drops b).length (s.track.drops b).length s (s.restated b) := by
  refine ⟨?_, fun m hm => ?_, ?_⟩
  · rw [h.restated_ports]
    exact Ports.reported_grows _ _
  · rw [h.restated_ports]
    exact Ports.reported_keeps _ _ _ hm
  · rw [State.port, h.restated_ports]
    exact Ports.reported_u_other _ _

variable (listed : AlarmInv s) (tag : Byte)
include listed

theorem Settable.knownAgain_pt : (s.knownAgain tag b).port .pt = s.port .pt :=
  (h.restated_queues.trans (State.knownAgain_queues b listed tag)).pull

/-- R114: up to two frames on port U leave room for the STRIP-REPORTs. -/
theorem Settable.knownAgain_reports (live : s.ports.u.state ≠ .down) (few : s.ports.u.tx.length ≤ 2) :
    ∀ x ∈ s.track.drops b, (s.knownAgain tag b).ports.u.Carries (x.report none) := by
  intro x hx
  refine (State.knownAgain_queues b listed tag).carries _ ?_
  rw [h.restated_ports]
  have drops := s.track.drops_length b
  have normals := s.ports.u.normals_le
  exact Ports.reported_carries _ s.ports live (by omega) (by omega) x hx

/-- R179: up to one frame on port U leaves room for the CONTROL-REPLY. -/
theorem Settable.knownAgain_answers (live : s.ports.u.state ≠ .down) (few : s.ports.u.tx.length ≤ 1) :
    (s.knownAgain tag b).ports.u.Carries (.controlReply 7 tag .accepted) := by
  obtain ⟨length, normals, still⟩ := (h.restated_queues.trans (State.restated_known_queues b listed)).grows
  have drops := s.track.drops_length b
  have le := s.ports.u.normals_le
  exact State.send_carries _ _ (still live) (by omega) (by omega)

end

theorem PullOutcome.carries {x : Option Strip} {v z : State} (o : PullOutcome x v z) {m : Msg}
    (hm : v.ports.u.Carries m) : z.ports.u.Carries m := by
  rcases o with ⟨-, rfl⟩ | ⟨a, y, -, begins⟩
  · exact hm
  · exact begins.starts.carries m hm

theorem PullOutcome.frame {x : Option Strip} {v z : State} (o : PullOutcome x v z) : Frame pullBlocks v z := by
  rcases o with ⟨-, rfl⟩ | ⟨a, y, -, begins⟩
  · exact .refl _ z
  · exact begins.starts.frame

/-! ## Alarms and heads (R29, R140, R143) -/

theorem Settable.restated_alarms {s : State} {b : TrackSetBody} (h : Settable s b) :
    AlarmsAs s.headsFreed (s.restated b) := by
  obtain ⟨headA, headB⟩ := s.endClaims_heads h.idle
  have ended : AlarmsAs s.headsFreed s.endClaims := ⟨rfl, headA, headB, rfl⟩
  have restated : AlarmsAs (s.happens State.endClaims) ((s.happens State.endClaims).restate (trackSetSpecs b)) :=
    .of_frame (State.restate_frame _ _) (by simp) (by simp) (by simp) (by simp)
  exact ((ended.trans (State.markChanges_alarmsAs _ s)).trans restated).trans
    (.of_frame (State.setWindow_frame _ _) (by simp) (by simp) (by simp) (by simp))

theorem State.knownAgain_alarms (s : State) (tag : Byte) (b : TrackSetBody) :
    AlarmsAs (s.restated b).trackKnown (s.knownAgain tag b) :=
  (State.markChanges_alarmsAs _ (s.restated b)).trans
    (.of_frame (State.reply_frame _ _ _ _) (by simp) (by simp) (by simp) (by simp))

/-- R128: a pull with no task ends the condition of PULL-TIMEOUT. -/
theorem PullOutcome.alarms {x : Option Strip} {v z : State} (o : PullOutcome x v z) : AlarmsAs
    (if x.isSome = true ∧ z.puller.current = none then v.conditionGone .pullTimeout .pullStation else v) z := by
  rcases o with ⟨rfl, rfl⟩ | ⟨a, y, rfl, begins⟩
  · rw [if_neg fun k => nomatch k.1]
    exact .refl z
  · simp only [Option.isSome_some, true_and]
    exact begins.starts.alarms_current

/-- R112 step 7: heads and alarms of an accepted TRACK-SET. -/
theorem Settable.accepted_alarms {s z : State} {b : TrackSetBody} (h : Settable s b) (listed : AlarmInv s) (tag : Byte)
    (o : PullOutcome (s.track.starts b) (s.knownAgain tag b) z) :
    (∀ i, (z.head i).claim = none ∧ (z.head i).pause = (s.head i).pause ∧
      (z.head i).holds.operator = ((s.head i).holds.operator ||
        (s.head i).claim.isSome && (s.head i).pause == some .afterUnit)) ∧
    ∃ v, ConditionsOver ofTrack s.headsFreed v ∧
      AlarmsAs (if (s.track.starts b).isSome = true ∧ z.puller.current = none then
        v.conditionGone .pullTimeout .pullStation else v) z := by
  refine State.trackKnown_alarms listed h.restated_alarms _ (AlarmsAs.trans ?_ o.alarms)
  have known := s.knownAgain_alarms tag b
  split
  · exact known.conditionGone _ _
  · exact known

end Sys2Proof.Machine
end

section
/-! SUPPORT. A TRACK-SET is judged (R111, R112). -/

namespace Sys2Proof.Machine

section
variable {tag : Byte} {b : TrackSetBody} {s : State} (turn : s.inTurn .u (.trackSet tag b) = true)
include turn

/-- R111, R112: a TRACK-SET in its turn is refused, or accepted. -/
theorem trackSet_judged : exec (.trackSet tag b) s = .next
    (((trackSetReason s (trackSetEntries b) (trackSetColumn b)).elim
      ((s.takeRx .u (.trackSet tag b)).acceptTrackSet tag (trackSetSpecs b) (trackSetColumn b))
      fun r => (s.takeRx .u (.trackSet tag b)).reply 7 tag (.refused r)).markChanges s) := by
  let u := s.takeRx .u (.trackSet tag b)
  refine congrArg Host.Outcome.next ((s.taken_inTurn .u _ _ turn).trans (congrArg (State.markChanges · s) ?_))
  change (match trackSetReason u (trackSetEntries b) (trackSetColumn b) with
    | some r => u.reply 7 tag (.refused r)
    | none => u.acceptTrackSet tag (trackSetSpecs b) (trackSetColumn b)) =
      (trackSetReason u (trackSetEntries b) (trackSetColumn b)).elim _ _
  cases trackSetReason u (trackSetEntries b) (trackSetColumn b) <;> rfl

/-- R111: a TRACK-SET that fails a check changes nothing but the queues of port U. -/
theorem trackSet_refused {y : Bool × Reason} (fails : firstFailed (trackSetChecks b s) = some y) :
    ∃ t, exec (.trackSet tag b) s = .next t ∧ Frame [.ports] s t ∧
      t.ports = ((s.takeRx .u (.trackSet tag b)).reply 7 tag (.refused y.2)).ports := by
  have judged := trackSet_judged turn
  rw [trackSetReason_eq, fails] at judged
  exact ⟨_, judged, ((s.takeRx_frame _ _).trans (State.reply_frame _ _ _ _)).markChanges s,
    State.markChanges_ports _ s⟩

/-- R112: else it is accepted. -/
theorem trackSet_accepted (passes : trackSetReason s (trackSetEntries b) (trackSetColumn b) = none) :
    exec (.trackSet tag b) s = .next
      (((s.takeRx .u (.trackSet tag b)).acceptTrackSet tag (trackSetSpecs b) (trackSetColumn b)).markChanges s) := by
  have judged := trackSet_judged turn
  rwa [passes] at judged

end

theorem State.takeRx_queue (s : State) (c : Instr) : (s.takeRx .u c).ports.u.tx = s.ports.u.tx ∧
    (s.takeRx .u c).ports.u.state = s.ports.u.state := by
  change (if s.ports.u.oldest.any (spells .u c) then s.ports.u.freeOldest else s.ports.u).tx = _ ∧
    (if s.ports.u.oldest.any (spells .u c) then s.ports.u.freeOldest else s.ports.u).state = _
  split <;> simp

theorem tally_filter {α : Type} (n : Nat) (l : List α) :
    tally n l.length = if l = [] then n else min 4294967295 (n + l.length) := by
  cases l with
  | nil => rfl
  | cons a l => rfl

/-- Settles O44: R111 by the checks in their order, R112 by what the steps leave of each part of the state. -/
theorem trackSetIsJudged : Obligations.TrackSetIsJudged := by
  unfold Obligations.TrackSetIsJudged
  intro tag b s c raw news listed ids device places place strip columns stood checks
  refine ⟨fun y hy turn => trackSet_refused turn hy, ?_⟩
  intro all inv alarms claims turn window drops dropped moved discards puller plain starts records count
  obtain ⟨passes, ⟨types, unknown, restatable, idle⟩⟩ := settable_of all
  let u := s.takeRx .u c
  have set : Settable u b := ⟨types, unknown, restatable, idle⟩
  have unheld : u.track.held = none := by
    obtain ⟨⟨-, requests, -⟩, -⟩ := id inv
    exact (requests unknown).2
  have accepted := trackSet_accepted turn passes
  have o : PullOutcome (u.track.starts b) (u.knownAgain tag b) _ := set.outcome claims unheld tag
  change exec c s = .next ((u.acceptTrackSet tag (trackSetSpecs b) (trackSetColumn b)).markChanges s) at accepted
  generalize u.acceptTrackSet tag (trackSetSpecs b) (trackSetColumn b) = z at accepted o
  obtain ⟨queue, line⟩ := s.takeRx_queue c
  have rest : Frame pullBlocks s z := (((s.takeRx_frame .u c).mono (by simp)).trans
    (((u.restated_frame b).mono (by simp)).trans ((u.knownAgain_frame tag b).mono (by simp)))).trans o.frame
  obtain ⟨-, tables, -, -, engineA, engineB, -, -, -, -, -, -, mgmt⟩ := id (rest.markChanges s)
  have pending := (rest.markChanges s).1
  have track := set.accepted_track tag o
  have store : z.store = { s.store with records := records } := set.accepted_store tag o
  obtain ⟨heads, v, gone, last⟩ := set.accepted_alarms alarms tag o
  refine ⟨_, accepted, ?_⟩
  rw [State.markChanges_track, State.markChanges_store, State.markChanges_puller, State.markChanges_ports]
  refine ⟨congrArg Track.known track, (congrArg Track.held track).trans rfl,
    (congrArg Track.inFlight track).trans rfl, fun i _ => ?_, (congrArg Track.magIn track).trans rfl,
    (congrArg Track.magOut track).trans rfl, set.accepted_ids claims tag o, set.accepted_positions claims tag o,
    fun y hy type x hx => set.accepted_new claims tag o hy type hx,
    fun y hy type x hx w hw => set.accepted_existing claims tag o inv hy type hx hw, store,
    fun h => set.accepted_idle tag o inv h, fun x hx => ?_, fun x hx live few => ?_, fun live few => ?_,
    (congrArg Track.introduced track).trans ?_, (congrArg Track.dropped track).trans (tally_filter _ _),
    (congrArg Track.taken track).trans rfl, (congrArg Track.delivered track).trans rfl,
    ⟨v, gone, last.trans (State.markChanges_alarmsAs z s)⟩,
    tables (by simp), mgmt (by simp), engineA (by simp), engineB (by simp), pending⟩
  · rw [State.markChanges_head]
    exact heads i
  · have begun := set.accepted_begun tag o inv (set.knownAgain_pt alarms tag) hx
    rw [store] at begun
    exact begun.markChanges s
  · have reports := set.knownAgain_reports alarms tag (line ▸ live) (by rw [queue]; exact few) x hx
    have queued := o.carries reports
    simp only [Strip.report, satAdd, Nat.zero_add] at queued
    exact queued
  · exact o.carries (set.knownAgain_answers alarms tag (line ▸ live) (by rw [queue]; omega))
  · exact tally_filter _ news

end Sys2Proof.Machine
end

section
/-! SUPPORT. Pull records as they are written, and the end of a pull: what each leaves of every block (R77, R100, R125
to R128, R131). -/

namespace Sys2Proof.Machine

/-! ## The pull controller and the bond records beside the other blocks -/

/-- The state with another pull controller and other bond records. -/
def State.withPulls (s : State) (p : Puller) (y : Store) : State := { s with puller := p, store := y }

section
variable (s : State) (p : Puller) (y : Store)

@[simp] theorem State.withPulls_puller : (s.withPulls p y).puller = p := rfl
@[simp] theorem State.withPulls_track : (s.withPulls p y).track = s.track := rfl

theorem State.withPulls_alarmsAs : AlarmsAs s (s.withPulls p y) := ⟨rfl, rfl, rfl, rfl⟩

/-- R138: a raise looks at neither. -/
theorem State.raise_withPulls (c : AlarmClass) (o : AlarmObject) :
    (s.withPulls p y).raise c o = (s.raise c o).withPulls p y := by
  rw [State.raise_eq, State.raise_eq]
  rfl

/-- R140: nor does the end of a condition. -/
theorem State.conditionGone_withPulls (c : AlarmClass) (o : AlarmObject) :
    (s.withPulls p y).conditionGone c o = (s.conditionGone c o).withPulls p y := by
  rw [State.conditionGone_eq, State.conditionGone_eq]
  rfl

theorem State.forwardIndex_withPulls (k : IndexKind) :
    (s.withPulls p y).forwardIndex k = (s.forwardIndex k).withPulls p y := by
  have port : (s.withPulls p y).port .ix = s.port .ix := rfl
  unfold State.forwardIndex
  simp only [port]
  cases (s.port .ix).hasRoom .ix false <;> rfl

/-- R100: nor does the index gate. -/
theorem State.releaseGate_withPulls : (s.withPulls p y).releaseGate = s.releaseGate.withPulls p y := by
  have reasons (k : IndexKind) : (s.withPulls p y).blockingReasons k = s.blockingReasons k := by cases k <;> rfl
  unfold State.releaseGate
  simp only [State.withPulls_track, reasons]
  cases s.track.held with
  | none => rfl
  | some q =>
    dsimp only
    cases (s.blockingReasons q.kind).empty
    · rfl
    · exact State.forwardIndex_withPulls { s with
        track := { s.track with held := none, holdTimer := none } } p y q.kind

end

/-! ## One pull record (R125 to R127, R131) -/

/-- R125: the pull record `n` of a task. -/
def Task.record (y : Task) (n time strip : Nat) (v : Verdict) (f : Option Nat) (m : Option PullMode) : PullRecord :=
  ⟨n, time, strip, y.unit, y.wire, y.loop, f, m, v, y.attributed m, y.ballRecord, y.stitchRecord⟩

/-- R125 to R127: the pull controller with the record `r`, but for the task that it answers. -/
def Puller.logged (p : Puller) (r : PullRecord) : Puller :=
  let q := { p with
    nextPull := nextInCycle p.nextPull
    log := addLog p.log r
    last := some ⟨r.verdict, r.force, r.mode⟩ }
  (q.setStats r.head ((p.stats r.head).move r.verdict (r.force.getD 0))).setRun r.head
    (moveRun (p.run r.head) r.verdict)

/-- R77: the bond records with the pair of the pull record `r` unpinned. -/
def Store.answered (y : Store) (r : PullRecord) : Store := y.unpin r.ballRecord r.stitchRecord r.number

/-- R125, R127, R131: what the record `r` does outside the pull controller and the bond records: the strip counts it,
`run` failures of its head raise PULL-FAIL from `limit` on, and its PULL-REPORT is queued. -/
def State.reports (s : State) (r : PullRecord) (limit run : Nat) : State :=
  let u := s.updatePullStrip fun x => x.countPull r.verdict
  (if r.verdict = .fail ∧ limit ≤ run then u.raise .pullFail (.head r.head) else u).send .u
    (.pullReport r.number r.verdict r.force r.mode)

/-- R77: the records once the pair of a pull record is unpinned. -/
theorem Store.answered_eq (y : Store) (r : PullRecord) : y.answered r = { y with records := y.records.map fun z =>
    if z.number = r.ballRecord ∨ z.number = r.stitchRecord then { z with pinned := false, pullRef := some r.number }
    else z } := by
  simp only [Store.answered, Store.unpin, Bool.or_eq_true, beq_iff_eq]

/-- R125 step 2. -/
theorem addLog_eq (l : List PullRecord) (r : PullRecord) :
    addLog l r = (if l.length < 256 then l else l.drop 1) ++ [r] := rfl

section
variable (p : Puller) (r : PullRecord)

theorem Puller.logged_log : (p.logged r).log = addLog p.log r := by unfold Puller.logged; cases r.head <;> rfl
theorem Puller.logged_nextPull : (p.logged r).nextPull = nextInCycle p.nextPull := by
  unfold Puller.logged; cases r.head <;> rfl
theorem Puller.logged_last : (p.logged r).last = some ⟨r.verdict, r.force, r.mode⟩ := by
  unfold Puller.logged; cases r.head <;> rfl
theorem Puller.logged_run : (p.logged r).run r.head = moveRun (p.run r.head) r.verdict := by
  unfold Puller.logged; cases r.head <;> rfl
theorem Puller.logged_run_other : (p.logged r).run (otherHead r.head) = p.run (otherHead r.head) := by
  unfold Puller.logged; cases r.head <;> rfl
theorem Puller.logged_stats :
    (p.logged r).stats r.head = (p.stats r.head).move r.verdict (r.force.getD 0) := by
  unfold Puller.logged; cases r.head <;> rfl
theorem Puller.logged_stats_other : (p.logged r).stats (otherHead r.head) = p.stats (otherHead r.head) := by
  unfold Puller.logged; cases r.head <;> rfl

/-- What a pull record leaves of the pull controller. -/
theorem Puller.logged_same : (p.logged r).timeout = p.timeout ∧ (p.logged r).ordersQueued = p.ordersQueued ∧
    (p.logged r).stray = p.stray ∧ (p.logged r).timer = p.timer := by
  unfold Puller.logged; cases r.head <;> exact ⟨rfl, rfl, rfl, rfl⟩

theorem Puller.logged_current (c : Option CurrentPull) :
    ({ p with current := c } : Puller).logged r = { p.logged r with current := c } := by
  unfold Puller.logged; cases r.head <;> rfl

theorem Puller.run_of (h : Head) (c : Option CurrentPull) (n : Option Nat) :
    ({ p with current := c, timer := n } : Puller).run h = p.run h := by cases h <;> rfl
theorem Puller.stats_of (h : Head) (c : Option CurrentPull) (n : Option Nat) :
    ({ p with current := c, timer := n } : Puller).stats h = p.stats h := by cases h <;> rfl

end

theorem State.reports_withPulls (s : State) (p : Puller) (y : Store) (r : PullRecord) (limit run : Nat) :
    (s.withPulls p y).reports r limit run = (s.reports r limit run).withPulls p y := by
  have raised := (s.updatePullStrip fun x => x.countPull r.verdict).raise_withPulls p y .pullFail (.head r.head)
  unfold State.reports
  split
  · exact congrArg (fun u : State => u.send .u (.pullReport r.number r.verdict r.force r.mode)) raised
  · rfl

/-- R125: all that the pull record of the task `y`, at place `k`, does. -/
theorem State.writePull_eq {s : State} {k : Nat} {c : CurrentPull} {y : Task} (hc : s.puller.current = some c)
    (hy : c.tasks[k]? = some y) (v : Verdict) (f : Option Nat) (m : Option PullMode) :
    let r := y.record s.puller.nextPull s.mgmt.time c.strip v f m
    s.writePull k v f m = (s.reports r c.limit (moveRun (s.puller.run r.head) r.verdict)).withPulls
      { s.puller.logged r with
        current := some { c with tasks := c.tasks.set k { y with result := some s.puller.nextPull } } }
      (s.store.answered r) := by
  intro r
  rw [← State.reports_withPulls]
  unfold State.writePull
  rw [hc]
  dsimp only
  rw [hy]
  dsimp only
  generalize hp : (Puller.setRun _ _ _ : Puller) = p
  have controller : p = { s.puller.logged r with
      current := some { c with tasks := c.tasks.set k { y with result := some s.puller.nextPull } } } := by
    subst hp
    rw [← Puller.logged_current]
    simp only [Puller.logged, r, Task.record]
    cases y.attributed m <;> rfl
  rw [← controller]
  rfl

/-! ## The end of a pull (R128) -/

/-- R128: the pull is COMPLETE, and where it did not time out the condition of PULL-TIMEOUT ends. -/
def State.pullOver (s : State) (late : Bool) : State :=
  let u := s.updatePullStrip fun x => { x with pullState := .complete }
  if late then u else u.conditionGone .pullTimeout .pullStation

theorem State.pullOver_track (s : State) (late : Bool) : (s.pullOver late).track = s.track.repulled .complete := by
  unfold State.pullOver
  cases late
  · exact (State.conditionGone_frame _ _ _).track_eq (by simp)
  · rfl

/-- R100, R128: the pull is over, and the gate judges. -/
theorem State.endPull_over (s : State) (p : Puller) (y : Store) :
    (s.withPulls p y).endPull = (s.pullOver (p.current.elim false fun c => c.timedOut)).releaseGate.withPulls
      { p with timer := none, current := none } y := by
  let u := s.updatePullStrip fun x => { x with pullState := .complete }
  rw [← State.releaseGate_withPulls]
  unfold State.endPull State.pullOver
  dsimp only
  rw [State.withPulls_puller]
  cases p.current.elim false fun c => c.timedOut
  · exact congrArg State.releaseGate (u.conditionGone_withPulls _ y .pullTimeout .pullStation)
  · rfl

/-- R100, R128: what stands in `u` once the gate has judged `told`, where `behind` is queued behind the judging. -/
theorem State.releaseGate_leaves {told u : State} (behind : Ports → Ports) (alarms : AlarmsAs told.releaseGate u)
    (track : u.track = told.releaseGate.track) (ports : u.ports = behind told.releaseGate.ports) (old : State) :
    AlarmsAs told (u.markChanges old) ∧ GateJudged behind told (u.markChanges old) := by
  have gate : AlarmsAs told told.releaseGate :=
    .of_frame told.releaseGate_frame (by simp) (by simp) (by simp) (by simp)
  exact ⟨(gate.trans alarms).trans (State.markChanges_alarmsAs u old), told.releaseGate_judges.behind behind
    ((State.markChanges_track u old).trans track) ((State.markChanges_ports u old).trans ports)⟩

/-- What stays of the part in every pull command. -/
theorem Frame.pull_rest {s t : State} (h : Frame pullBlocks s t) : t.tables = s.tables ∧ t.mgmt = s.mgmt ∧
    t.engineA = s.engineA ∧ t.engineB = s.engineB ∧ t.pending = s.pending := by
  obtain ⟨pending, tables, -, -, engineA, engineB, -, -, -, -, -, -, mgmt⟩ := h
  exact ⟨tables (by simp), mgmt (by simp), engineA (by simp), engineB (by simp), pending⟩

/-! ## The strips (R125, R128) -/

theorem State.pull_of_ordered {s : State} (h : s.pullState = .ordered) :
    ∃ x, s.track.pull = some x ∧ x.pullState = .ordered := by
  cases hx : s.track.pull with
  | none => rw [State.pullState, hx] at h; cases h
  | some x => rw [State.pullState, hx] at h; exact ⟨x, rfl, h⟩

theorem State.current_of_strip {s : State} {n : Nat} (h : s.puller.current.any (fun p => p.strip == n) = true) :
    ∃ c, s.puller.current = some c ∧ c.strip = n := by
  simpa [Option.any_eq_true] using h

/-- From `d` to `e` the strip at PULL is changed by `f`, and the others stand as they are. -/
structure Track.Pulled (f : Strip → Strip) (d e : Track) : Prop where
  entry : e.entry = d.entry
  bond : e.bond = d.bond
  exit : e.exit = d.exit
  pull : e.pull = d.pull.map f

theorem Track.Pulled.trans {f g : Strip → Strip} {d e k : Track} (h : d.Pulled f e) (l : e.Pulled g k) :
    d.Pulled (g ∘ f) k :=
  ⟨l.entry.trans h.entry, l.bond.trans h.bond, l.exit.trans h.exit, by rw [l.pull, h.pull, Option.map_map]⟩

theorem Track.Pulled.state {f : Strip → Strip} {d e : Track} {x : Strip} (h : d.Pulled f e) (hx : d.pull = some x) :
    (e.pull.elim .none fun y => y.pullState) = (f x).pullState := by
  rw [h.pull, hx]
  rfl

theorem Track.Pulled.units {f : Strip → Strip} {d e : Track} (h : d.Pulled f e)
    (hf : ∀ x, ((f x).id, (f x).units) = (x.id, x.units)) :
    e.pull.map (fun x => (x.id, x.units)) = d.pull.map fun x => (x.id, x.units) := by
  rw [h.pull, Option.map_map]
  exact congrArg d.pull.map (funext hf)

theorem Track.Pulled.strips {f : Strip → Strip} {d e : Track} (h : d.Pulled f e)
    (hf : ∀ x, ((f x).id, (f x).units) = (x.id, x.units)) :
    e.strips.map (fun x => (x.id, x.units)) = d.strips.map fun x => (x.id, x.units) := by
  have pull : e.pull.toList.map (fun x => (x.id, x.units)) = d.pull.toList.map fun x => (x.id, x.units) := by
    rw [← Option.toList_map, h.units hf, Option.toList_map]
  unfold Track.strips
  rw [h.entry, h.bond, h.exit]
  simp only [List.map_append, pull]

/-- R138, R144: a raise may end a held request, and moves no strip. -/
theorem State.raise_pulled (s : State) (c : AlarmClass) (o : AlarmObject) : s.track.Pulled id (s.raise c o).track := by
  rw [State.raise_eq]
  dsimp only
  split <;> exact ⟨rfl, rfl, rfl, Option.map_id.symm ▸ rfl⟩

/-- R100: nor does the gate. -/
theorem State.releaseGate_pulled (s : State) : s.track.Pulled id s.releaseGate.track := by
  rw [State.releaseGate_track]
  exact ⟨rfl, rfl, rfl, Option.map_id.symm ▸ rfl⟩

theorem State.pullOver_pulled (s : State) (late : Bool) :
    s.track.Pulled (fun x => { x with pullState := .complete }) (s.pullOver late).track := by
  rw [State.pullOver_track]
  exact ⟨rfl, rfl, rfl, rfl⟩

/-- R125: a pull record counts on the strip at PULL. -/
theorem State.reports_pulled (s : State) (r : PullRecord) (limit run : Nat) :
    s.track.Pulled (fun x => x.countPull r.verdict) (s.reports r limit run).track := by
  have counted : s.track.Pulled (fun x => x.countPull r.verdict)
      (s.updatePullStrip fun x => x.countPull r.verdict).track := ⟨rfl, rfl, rfl, rfl⟩
  unfold State.reports
  split
  · exact counted.trans (State.raise_pulled _ _ _)
  · exact counted

theorem Strip.countPull_same (x : Strip) (v : Verdict) :
    ((x.countPull v).id, (x.countPull v).units) = (x.id, x.units) ∧ (x.countPull v).pullState = x.pullState := by
  cases v <;> exact ⟨rfl, rfl⟩

end Sys2Proof.Machine
end

section
/-! SUPPORT. A PULL-RESULT: where it matches, and what its pull record leaves (R122 to R128). -/

namespace Sys2Proof.Machine

/-! ## The verdict, the head and the counts (R123 to R126) -/

theorem pullModeOf_none (mode : Byte) : pullModeOf mode = none ↔ 4 < mode.toNat := by
  rw [pullModeOf, List.getElem?_eq_none_iff]
  exact Iff.rfl

/-- R123, R124: the modes of a result, by their codes. -/
theorem pullModeOf_some {mode : Byte} {m : PullMode} (h : m ∈ pullModeOf mode) :
    (mode = 0 ∨ mode = 1 ↔ m = .ballLift ∨ m = .ballNeck) ∧
      (mode = 0 ∨ mode = 4 ↔ m = .ballLift ∨ m = .stitchLift) := by
  have le : mode.toNat ≤ 4 := by
    by_contra hn
    rw [(pullModeOf_none mode).mpr (by omega)] at h
    cases h
  simp only [← BitVec.toNat_inj]
  unfold pullModeOf at h
  interval_cases mode.toNat <;> cases h <;> decide

/-- R124: the head that a result is charged to. -/
theorem Task.attributed_of (y : Task) {mode : Byte} {m : PullMode} (h : m ∈ pullModeOf mode) :
    y.attributed (some m) = if mode = 0 ∨ mode = 1 then y.ballHead else y.stitchHead := by
  rw [if_congr (pullModeOf_some h).1 rfl rfl]
  cases m <;> rfl

/-- R123: the verdict of a result. -/
theorem pullVerdict_of (l : PullLimits) (f : Nat) {mode : Byte} {m : PullMode} (h : m ∈ pullModeOf mode) :
    pullVerdict l m f = if f < (if mode = 0 ∨ mode = 4 then l.fLift else l.fMin) then .fail else .pass := by
  rw [if_congr (pullModeOf_some h).2 rfl rfl]
  cases m <;> rfl

/-- R126: a result counts while its count has not reached 65535. -/
theorem PullStats.move_result (x : PullStats) (f : Nat) (fails : Prop) [Decidable fails] :
    x.move (if fails then .fail else .pass) f =
      if (if fails then x.fails < 65535 else x.passes < 65535) then { x with
        passes := if fails then x.passes else x.passes + 1
        fails := if fails then x.fails + 1 else x.fails
        sum := x.sum + f
        minimum := some (x.minimum.elim f fun z => min z f) }
      else x := by
  by_cases h : fails
  · simp only [if_pos h]; rfl
  · simp only [if_neg h]; rfl

/-! ## Where a result matches (R122) -/

/-- R122: a result that does not match is stray. -/
theorem State.takeResult_stray {s : State} {strip unit wire force : Nat} {mode : Option PullMode}
    (h : ∀ c ∈ s.puller.current, c.strip = strip → s.pullState = .ordered → mode.isSome = true →
      c.placeOf unit wire = none) : s.takeResult strip unit wire force mode = s.strayPull := by
  unfold State.takeResult
  split
  · next c m hc =>
    split
    · next hm =>
      obtain ⟨ordered, strip⟩ := hm
      rw [h c hc strip ordered rfl]
    · rfl
  · rfl

/-- R122, R125, R128: a result that matches the task at place `k` writes its record, and the last one ends the pull. -/
theorem State.takeResult_matched {s u : State} {c : CurrentPull} {y : Task} {m : PullMode} {unit wire k : Nat}
    {r : PullRecord} (hc : s.puller.current = some c) (ordered : s.pullState = .ordered)
    (hk : c.placeOf unit wire = some k) (hy : c.tasks[k]? = some y) (force : Nat)
    (hr : y.record s.puller.nextPull s.mgmt.time c.strip (pullVerdict (s.tables.limit y.loop) m (min force 1000))
      (some (min force 1000)) (some m) = r)
    (hu : s.reports r c.limit (moveRun (s.puller.run r.head) r.verdict) = u) :
    let tasks := c.tasks.set k { y with result := some s.puller.nextPull }
    s.takeResult c.strip unit wire force (some m) =
      if tasks.all (fun z => z.result.isSome) then
        (u.pullOver c.timedOut).releaseGate.withPulls
          { s.puller.logged r with timer := none, current := none } (s.store.answered r)
      else u.withPulls { s.puller.logged r with current := some { c with tasks := tasks } } (s.store.answered r) := by
  intro tasks
  have written : s.writePull k (pullVerdict (s.tables.limit y.loop) m (min force 1000)) (some (min force 1000))
      (some m) = u.withPulls { s.puller.logged r with current := some { c with tasks := tasks } }
        (s.store.answered r) := by
    rw [State.writePull_eq hc hy, hr, hu]
  unfold State.takeResult
  rw [hc]
  dsimp only
  rw [if_pos ⟨ordered, rfl⟩, hk]
  dsimp only
  rw [hy, Option.elim_some, written, State.endPull_over]
  rfl

theorem State.takeResult_frame (s : State) (strip unit wire force : Nat) (mode : Option PullMode) :
    Frame pullBlocks s (s.takeResult strip unit wire force mode) := by
  have stray : Frame pullBlocks s s.strayPull := by simp [Frame, State.strayPull]
  unfold State.takeResult
  split
  · split
    · split
      · exact stray
      · extract_lets f loop t
        have written : Frame pullBlocks s t := s.writePull_frame _ _ _ _
        exact Frame.ite (written.trans t.endPull_frame) written
    · exact stray
  · exact stray

/-- R125 to R127, R131: what a result with a verdict does outside the pull controller and the bond records. -/
theorem State.reports_judged (s : State) (r : PullRecord) (limit run : Nat) (fails : Prop) [Decidable fails]
    (hv : r.verdict = if fails then .fail else .pass) :
    let judged : State := { s with track := { s.track with pull := s.track.pull.map fun x => { x with
      passes := if fails then x.passes else min 255 (x.passes + 1)
      fails := if fails then min 255 (x.fails + 1) else x.fails } } }
    s.reports r limit run = (if fails ∧ limit ≤ run then judged.raise .pullFail (.head r.head) else judged).send .u
      (.pullReport r.number r.verdict r.force r.mode) := by
  have counted : (fun x : Strip => x.countPull r.verdict) = fun x => { x with
      passes := if fails then x.passes else min 255 (x.passes + 1)
      fails := if fails then min 255 (x.fails + 1) else x.fails } := by
    rw [hv]
    by_cases h : fails
    · simp only [h, if_true]; rfl
    · simp only [h, if_false]; rfl
  have alarm : r.verdict = .fail ↔ fails := by
    rw [hv]
    split <;> simp_all
  simp only [State.reports, counted, alarm]
  rfl

/-- R127: the run of failures once a result is judged. -/
theorem moveRun_judged (n : Nat) (fails : Prop) [Decidable fails] :
    moveRun n (if fails then .fail else .pass) = if fails then min 255 (n + 1) else 0 := by
  split <;> rfl

/-- R77, R125: what the record `r` leaves from `s` to `t`, whatever becomes of the pull. -/
structure ResultLogged (s : State) (r : PullRecord) (t : State) : Prop where
  puller : t.puller = { s.puller.logged r with current := t.puller.current, timer := t.puller.timer }
  store : t.store = s.store.answered r
  units : t.track.pull.map (fun x => (x.id, x.units)) = s.track.pull.map fun x => (x.id, x.units)

theorem ResultLogged.of {s v : State} {r : PullRecord} {f : Strip → Strip} (pulled : s.track.Pulled f v.track)
    (hf : ∀ x, ((f x).id, (f x).units) = (x.id, x.units)) (old : State) (c : Option CurrentPull) (n : Option Nat) :
    ResultLogged s r ((v.withPulls { s.puller.logged r with current := c, timer := n } (s.store.answered r)).markChanges
      old) where
  puller := by rw [State.markChanges_puller]; rfl
  store := State.markChanges_store _ old
  units := by
    rw [State.markChanges_track]
    exact pulled.units hf

section
variable {s t : State} {r : PullRecord} (h : ResultLogged s r t)
include h

theorem ResultLogged.log : t.puller.log = (if s.puller.log.length < 256 then s.puller.log else s.puller.log.drop 1) ++
    [r] := (congrArg Puller.log h.puller).trans (Puller.logged_log _ r)

theorem ResultLogged.nextPull : t.puller.nextPull = nextInCycle s.puller.nextPull :=
  (congrArg Puller.nextPull h.puller).trans (Puller.logged_nextPull _ r)

theorem ResultLogged.last : t.puller.last = some ⟨r.verdict, r.force, r.mode⟩ :=
  (congrArg Puller.last h.puller).trans (Puller.logged_last _ r)

theorem ResultLogged.run : t.puller.run r.head = moveRun (s.puller.run r.head) r.verdict ∧
    t.puller.run (otherHead r.head) = s.puller.run (otherHead r.head) := by
  rw [h.puller, Puller.run_of, Puller.run_of]
  exact ⟨Puller.logged_run _ r, Puller.logged_run_other _ r⟩

theorem ResultLogged.stats : t.puller.stats r.head = (s.puller.stats r.head).move r.verdict (r.force.getD 0) ∧
    t.puller.stats (otherHead r.head) = s.puller.stats (otherHead r.head) := by
  rw [h.puller, Puller.stats_of, Puller.stats_of]
  exact ⟨Puller.logged_stats _ r, Puller.logged_stats_other _ r⟩

theorem ResultLogged.same : t.puller.stray = s.puller.stray ∧ t.puller.timeout = s.puller.timeout ∧
    t.puller.ordersQueued = s.puller.ordersQueued := by
  obtain ⟨timeout, orders, stray, -⟩ := s.puller.logged_same r
  exact ⟨(congrArg Puller.stray h.puller).trans stray, (congrArg Puller.timeout h.puller).trans timeout,
    (congrArg Puller.ordersQueued h.puller).trans orders⟩

end

/-- R125, R128: what a result that matches leaves, where `reported` is its alarm and its report: the last one ends the
pull. -/
theorem ResultLogged.outcome {s u reported : State} {r : PullRecord} {c : CurrentPull} {tasks : List Task} {last : Bool}
    (strips : s.track.Pulled (fun x => x.countPull r.verdict) reported.track) (ordered : s.pullState = .ordered)
    (hu : u = if last then (reported.pullOver c.timedOut).releaseGate.withPulls
        { s.puller.logged r with timer := none, current := none } (s.store.answered r)
      else reported.withPulls { s.puller.logged r with current := some { c with tasks := tasks } }
        (s.store.answered r)) :
    let t := u.markChanges s
    let told := reported.pullOver c.timedOut
    ResultLogged s r t ∧
      if last then t.puller.current = none ∧ t.puller.timer = none ∧ t.pullState = .complete ∧
        AlarmsAs told t ∧ GateJudged id told t
      else t.puller.current = some { c with tasks := tasks } ∧ t.puller.timer = s.puller.timer ∧
        t.pullState = .ordered ∧ AlarmsAs reported t ∧ t.track = reported.track ∧ t.ports = reported.ports := by
  intro t told
  obtain ⟨x, hx, still⟩ := State.pull_of_ordered ordered
  have same (x : Strip) := (x.countPull_same r.verdict).1
  have state : t.pullState = u.pullState := by rw [State.pullState, State.markChanges_track]; rfl
  cases last with
  | true =>
    obtain rfl : u = told.releaseGate.withPulls { s.puller.logged r with timer := none, current := none }
      (s.store.answered r) := hu
    have gated := (strips.trans (reported.pullOver_pulled c.timedOut)).trans told.releaseGate_pulled
    refine ⟨.of gated same s _ _, congrArg Puller.current (State.markChanges_puller _ s),
      congrArg Puller.timer (State.markChanges_puller _ s), state.trans (gated.state hx), ?_⟩
    have alarms := told.releaseGate.withPulls_alarmsAs { s.puller.logged r with timer := none, current := none }
      (s.store.answered r)
    exact State.releaseGate_leaves id alarms rfl rfl s
  | false =>
    obtain rfl : u = reported.withPulls { s.puller.logged r with current := some { c with tasks := tasks } }
      (s.store.answered r) := hu
    obtain ⟨-, -, -, timer⟩ := s.puller.logged_same r
    exact ⟨.of strips same s _ _, congrArg Puller.current (State.markChanges_puller _ s),
      (congrArg Puller.timer (State.markChanges_puller _ s)).trans timer,
      state.trans ((strips.state hx).trans ((x.countPull_same _).2.trans still)),
      (reported.withPulls_alarmsAs _ _).trans (State.markChanges_alarmsAs _ s), State.markChanges_track _ s,
      State.markChanges_ports _ s⟩

/-! ## The statement -/

/-- R122: a PULL-RESULT in its turn. -/
theorem exec_pullResult {e : Envelope} {strip : W16} {unit wire : Byte} {force : W16} {mode : Byte} {s : State}
    (turn : s.inTurn .pt (.pullResult e strip unit wire force mode) = true) :
    let sent := (s.takeRx .pt (.pullResult e strip unit wire force mode)).send .u (.forwarded ⟨e.dst, e.src, 0x31,
      [strip.extractLsb' 8 8, strip.extractLsb' 0 8, unit, wire, force.extractLsb' 8 8, force.extractLsb' 0 8, mode] ++
        e.extra⟩)
    exec (.pullResult e strip unit wire force mode) s = .next ((sent.takeResult strip.toNat unit.toNat wire.toNat
      force.toNat (pullModeOf mode)).markChanges s) := by
  intro sent
  change Host.Outcome.next (s.taken .pt (.pullResult e strip unit wire force mode) _) = _
  rw [s.taken_inTurn .pt _ _ turn, State.forward_of _ (c := .pullResult e strip unit wire force mode) rfl]
  rfl

/-- Settles O46: a result that matches is one pull record with its alarm and its report, and behind the last one the
end of the pull. -/
theorem pullResultsAreJudged : Obligations.PullResultsAreJudged := by
  unfold Obligations.PullResultsAreJudged
  intro e strip unit wire force mode s c tasks limit awaited place lift f n sent matched turn
  have told : Frame [.ports] s sent := (s.takeRx_frame .pt c).trans (State.send_frame _ .u _)
  refine ⟨_, exec_pullResult turn, fun unmatched => ?_, fun hm k hk y hy m mode_m => ?_⟩
  · have stray : sent.takeResult strip.toNat unit.toNat wire.toNat force.toNat (pullModeOf mode) = sent.strayPull := by
      refine State.takeResult_stray fun p hc hp ordered known => ?_
      have hc : s.puller.current = some p := hc
      by_contra some_place
      refine unmatched ⟨by simp [hc, hp], ordered, ?_, ?_⟩
      · by_contra high
        rw [(pullModeOf_none mode).mpr (by omega)] at known
        cases known
      · rw [Option.isSome_iff_ne_none]
        simp only [place, tasks, hc]
        exact some_place
    rw [stray]
    exact ⟨Frame.markChanges ((told.mono (by simp)).trans (by simp [Frame, State.strayPull])) s,
      State.markChanges_ports _ s, State.markChanges_puller _ s⟩
  · have frame : Frame pullBlocks s ((sent.takeResult strip.toNat unit.toNat wire.toNat force.toNat
        (pullModeOf mode)).markChanges s) :=
      ((told.mono (by simp)).trans (sent.takeResult_frame _ _ _ _ _)).markChanges s
    intro l fails h verdict run was counts last record counted judged alarmed reported complete told
    obtain ⟨stands, ordered, -, -⟩ := hm
    obtain ⟨p, hc, hp⟩ := State.current_of_strip stands
    have all_tasks : tasks = p.tasks := by simp only [tasks, hc]; rfl
    have same_limit : limit = p.limit := by simp only [limit, hc]; rfl
    have matches_k : p.placeOf unit.toNat wire.toNat = some k := by rw [← hk]; simp only [place, all_tasks]; rfl
    rw [all_tasks] at hy
    have written : y.record n s.mgmt.time p.strip (pullVerdict (s.tables.limit y.loop) m f) (some f) (some m) =
        record := by
      unfold Task.record
      rw [y.attributed_of mode_m, pullVerdict_of _ _ mode_m, hp]
    have moved : moveRun (s.puller.run record.head) record.verdict = run := moveRun_judged _ fails
    have reports : sent.reports record p.limit (moveRun (sent.puller.run record.head) record.verdict) = reported := by
      rw [show moveRun (sent.puller.run record.head) record.verdict = run from moved,
        sent.reports_judged record p.limit run fails rfl, ← same_limit]
      rfl
    have strips : s.track.Pulled (fun x => x.countPull record.verdict) reported.track :=
      reports ▸ sent.reports_pulled record p.limit _
    have outcome := State.takeResult_matched (s := sent) hc ordered matches_k hy force.toNat written reports
    rw [← all_tasks] at outcome
    rw [← hp, show pullModeOf mode = some m from mode_m] at frame ⊢
    obtain ⟨tables, mgmt, engineA, engineB, pending⟩ := frame.pull_rest
    obtain ⟨logged, ends⟩ := ResultLogged.outcome strips ordered outcome
    obtain ⟨run_self, run_other⟩ := logged.run
    obtain ⟨stats_self, stats_other⟩ := logged.stats
    obtain ⟨stray, timeout, orders⟩ := logged.same
    refine ⟨logged.log, logged.nextPull, logged.last, run_self.trans moved, run_other, stats_other,
      stats_self.trans (PullStats.move_result _ f fails), stray, logged.store.trans (Store.answered_eq _ _), ?_,
      timeout, orders, logged.units, tables, mgmt, engineA, engineB, pending⟩
    have same_told : told = reported.pullOver p.timedOut := by
      simp only [told, hc]
      rfl
    rw [same_told, hc]
    exact ends

end Sys2Proof.Machine
end

section
/-! SUPPORT. PULL-ORDERs, and pulls that end without all their results (R121, R125, R128 to R131). -/

namespace Sys2Proof.Machine

/-! ## PULL-ORDERs (R121) -/

theorem PortRec.hasRoom_pt (p : PortRec) : p.hasRoom .pt false = decide (p.tx.length < 8) := Bool.and_true _

/-- R121: there are orders to queue where tasks of the current pull are left. -/
theorem Puller.unordered_iff (p : Puller) : p.unordered = true ↔
    ((p.current.elim [] fun c => c.tasks.drop p.ordersQueued).take 8) ≠ [] := by
  unfold Puller.unordered
  cases p.current <;> simp

theorem State.pulled_self (s : State) (x : PullState) (h : s.pullState = x) : s.track.repulled x = s.track := by
  have same : s.track.pull.map (fun y => { y with pullState := x }) = s.track.pull := by
    cases hp : s.track.pull with
    | none => rfl
    | some y => rw [State.pullState, hp] at h; subst h; rfl
  rw [Track.repulled, same]

/-- R121: the order that is queued. -/
theorem State.queueOrder_some {s : State} {c : CurrentPull} (hc : s.puller.current = some c)
    (h : (s.pullState = .waiting ∨ s.pullState = .ordered) ∧ s.puller.unordered = true ∧
      (s.port .pt).state = .live ∧ (s.port .pt).hasRoom .pt false = true) :
    s.queueOrder = { s.send .pt (.pullOrder c.strip (s.puller.nextTasks c)) with
      track := s.track.repulled .ordered
      puller := { s.puller with
        ordersQueued := s.puller.ordersQueued + (s.puller.nextTasks c).length
        timer := if s.pullState = .waiting then some s.puller.timeout else s.puller.timer } } := by
  unfold State.queueOrder
  rw [hc]
  dsimp only
  rw [if_pos h]
  obtain ⟨hw | ho, -⟩ := h
  · simp only [hw, beq_self_eq_true, if_true]
    rfl
  · have first : (s.pullState == PullState.waiting) = false := by rw [ho]; rfl
    have later : ¬s.pullState = .waiting := by rw [ho]; simp
    rw [first, s.pulled_self .ordered ho, if_neg later]
    rfl

/-- R121: a PULL-ORDER is queued where it may be. -/
theorem pullOrder_queued (s : State) :
    let rest := s.puller.current.elim [] fun c => c.tasks.drop s.puller.ordersQueued
    let next := rest.take 8
    ∃ t, exec .pullOrderQueued s = .next t ∧
      if (s.pullState = .waiting ∨ s.pullState = .ordered) ∧ next ≠ [] ∧
          (s.port .pt).state = .live ∧ (s.port .pt).tx.length < 8 then
        Frame [.track, .puller, .ports] s t ∧ PortsBut [.pt] s t ∧
        t.ports = (s.send .pt (.pullOrder (s.puller.current.elim 0 fun c => c.strip)
          (next.map fun y => (y.unit, y.wire, y.loop)))).ports ∧
        t.puller = { s.puller with
          ordersQueued := s.puller.ordersQueued + next.length
          timer := if s.pullState = .waiting then some s.puller.timeout else s.puller.timer } ∧
        t.track = { s.track with pull := s.track.pull.map fun x => { x with pullState := .ordered } }
      else Like s t := by
  intro rest next
  refine ⟨s.happens State.queueOrder, rfl, ?_⟩
  have room : (s.port .pt).hasRoom .pt false = true ↔ (s.port .pt).tx.length < 8 := by simp [PortRec.hasRoom_pt]
  have may := s.puller.unordered_iff
  change s.puller.unordered = true ↔ next ≠ [] at may
  split
  · next h =>
    rw [← may, ← room] at h
    have some_pull : ∃ c, s.puller.current = some c := by
      cases hc : s.puller.current with
      | none =>
        obtain ⟨-, unordered, -⟩ := h
        rw [Puller.unordered, hc] at unordered
        cases unordered
      | some c => exact ⟨c, rfl⟩
    obtain ⟨c, hc⟩ := some_pull
    have queued := State.queueOrder_some hc h
    have tasks : s.puller.nextTasks c = next.map fun y => (y.unit, y.wire, y.loop) := by
      simp only [Puller.nextTasks, next, rest, hc, Option.elim_some]
    rw [tasks] at queued
    have ports : (s.happens State.queueOrder).ports = (s.send .pt (.pullOrder c.strip
        (next.map fun y => (y.unit, y.wire, y.loop)))).ports := by
      rw [State.happens_ports, queued]
    refine ⟨s.happens_frame _ (by rw [queued]; simp [Frame]), fun x _ hx => ?_, by rw [ports, hc]; rfl, ?_, ?_⟩
    · rw [State.port, ports]
      exact s.send_port_ne .pt x _ (by simpa using hx)
    · rw [State.happens_puller, queued, List.length_map]
    · rw [State.happens_track, queued]
      rfl
  · next h =>
    rw [← may, ← room] at h
    have idle : s.queueOrder = s := by
      unfold State.queueOrder
      split
      · rfl
      · rw [if_neg h]
    rw [State.happens, idle]
    exact s.markChanges_like s

/-! ## NO-RESULT records (R125, R129, R130) -/

/-- R125: the records that `f` makes of the elements of a list, numbered from `n` on. -/
def numbered {α β : Type} (f : Nat → α → β) : Nat → List α → List β
  | _, [] => []
  | n, y :: l => f n y :: numbered f (nextInCycle n) l

section
variable {α β : Type} (f : Nat → α → β)

theorem numbered_length (n : Nat) (l : List α) : (numbered f n l).length = l.length := by
  induction l generalizing n with
  | nil => rfl
  | cons y l ih => simp only [numbered, List.length_cons, ih]

theorem mem_numbered {n : Nat} {l : List α} {r : β} (h : r ∈ numbered f n l) : ∃ k, ∃ y ∈ l, r = f k y := by
  induction l generalizing n with
  | nil => cases h
  | cons y l ih =>
    obtain rfl | h := List.mem_cons.mp h
    · exact ⟨n, y, List.mem_cons_self, rfl⟩
    · obtain ⟨k, z, hz, hr⟩ := ih h
      exact ⟨k, z, List.mem_cons_of_mem _ hz, hr⟩

theorem numbered_filter (p : β → Bool) (q : α → Bool) (hp : ∀ n y, p (f n y) = q y) (n : Nat) (l : List α) :
    ((numbered f n l).filter p).length = (l.filter q).length := by
  induction l generalizing n with
  | nil => rfl
  | cons y l ih =>
    simp only [numbered, List.filter_cons, hp]
    cases q y <;> simp [ih]

/-- The records and the number after them, gathered from the left. -/
theorem foldl_numbered (n : Nat) (l : List α) (done : List β) :
    l.foldl (fun (a : List β × Nat) y => (a.1 ++ [f a.2 y], if a.2 = 4294967295 then 1 else a.2 + 1)) (done, n) =
      (done ++ numbered f n l, nextInCycle^[l.length] n) := by
  induction l generalizing n done with
  | nil => simp [numbered]
  | cons y l ih =>
    rw [List.foldl_cons, ih, List.append_assoc]
    rfl

end

/-- R125, R129: the NO-RESULT records of the tasks `l`, numbered from `n` on. -/
def noResults (time strip n : Nat) (l : List Task) : List PullRecord :=
  numbered (fun n y => y.record n time strip .noResult none none) n l

/-- R125, R131: one NO-RESULT record, but for its task. -/
def State.logNoResult (s : State) (r : PullRecord) : State :=
  (s.send .u (.pullReport r.number .noResult none none)).withPulls (s.puller.logged r) (s.store.answered r)

/-- The same state with another current pull. -/
def State.withCurrent (s : State) (c : CurrentPull) : State :=
  { s with puller := { s.puller with current := some c } }

theorem State.withCurrent_self (s : State) {c : CurrentPull} (hc : s.puller.current = some c) :
    s.withCurrent c = s := by
  rw [State.withCurrent, ← hc]

/-- R131: the PULL-REPORTs of the records `rs`. -/
def State.sendNoResults (s : State) (rs : List PullRecord) : State :=
  rs.foldl (fun (v : State) p => v.send .u (.pullReport p.number .noResult none none)) s

theorem State.sendNoResults_withPulls (rs : List PullRecord) (s : State) (p : Puller) (y : Store) :
    (s.withPulls p y).sendNoResults rs = (s.sendNoResults rs).withPulls p y := by
  induction rs generalizing s with
  | nil => rfl
  | cons r rs ih => exact ih (s.send .u (.pullReport r.number .noResult none none))

theorem State.foldl_logNoResult (rs : List PullRecord) (s : State) : rs.foldl State.logNoResult s =
    (s.sendNoResults rs).withPulls (rs.foldl Puller.logged s.puller) (rs.foldl Store.answered s.store) := by
  induction rs generalizing s with
  | nil => rfl
  | cons r rs ih =>
    rw [List.foldl_cons, ih, State.logNoResult, State.sendNoResults_withPulls]
    rfl

theorem State.foldl_logNoResult_current (rs : List PullRecord) (s : State) (c : CurrentPull) :
    rs.foldl State.logNoResult (s.withCurrent c) = (rs.foldl State.logNoResult s).withCurrent c := by
  induction rs generalizing s with
  | nil => rfl
  | cons r rs ih =>
    have one : (s.withCurrent c).logNoResult r = (s.logNoResult r).withCurrent c :=
      congrArg (fun p => (s.send .u (.pullReport r.number .noResult none none)).withPulls p (s.store.answered r))
        (s.puller.logged_current r (some c))
    rw [List.foldl_cons, List.foldl_cons, one, ih]

/-- R125, R127: a record without a result counts on no strip and raises nothing. -/
theorem State.reports_noResult (s : State) (r : PullRecord) (limit run : Nat) (h : r.verdict = .noResult) :
    s.reports r limit run = s.send .u (.pullReport r.number .noResult r.force r.mode) := by
  have uncounted : s.updatePullStrip (fun x => x.countPull .noResult) = s := by
    simp only [State.updatePullStrip, Strip.countPull, Option.map_id']
  unfold State.reports
  dsimp only
  rw [h, if_neg (by rintro ⟨h, -⟩; cases h), uncounted]

/-- R125: the NO-RESULT record of the task `y`, at place `k`. -/
theorem State.writePull_noResult {s : State} {k : Nat} {c : CurrentPull} {y : Task} (hc : s.puller.current = some c)
    (hy : c.tasks[k]? = some y) :
    s.writePull k .noResult none none =
      (s.logNoResult (y.record s.puller.nextPull s.mgmt.time c.strip .noResult none none)).withCurrent
        { c with tasks := c.tasks.set k { y with result := some s.puller.nextPull } } := by
  rw [State.writePull_eq hc hy, State.reports_noResult _ _ _ _ rfl]
  rfl

/-- R129, R130: what is done for the task at place `k`. -/
def CurrentPull.giveNoResult (c : CurrentPull) (s : State) (k : Nat) : State :=
  if (c.tasks[k]?).elim false (fun t => t.result.isNone) then s.writePull k .noResult none none else s

/-- R129: every task from `l` on, behind the tasks `done` that stand as `before`, has its record. -/
theorem CurrentPull.foldl_giveNoResult (c : CurrentPull) (l before done : List Task) (s : State)
    (same : before.length = done.length) (tasks : c.tasks = before ++ l)
    (hc : s.puller.current = some { c with tasks := done ++ l }) :
    ∃ answered, (List.range' done.length l.length).foldl c.giveNoResult s =
      ((noResults s.mgmt.time c.strip s.puller.nextPull (l.filter fun y => y.result.isNone)).foldl
        State.logNoResult s).withCurrent { c with tasks := answered } := by
  induction l generalizing before done s with
  | nil => exact ⟨done ++ [], (s.withCurrent_self hc).symm⟩
  | cons y l ih =>
    have at_k : c.tasks[done.length]? = some y := by rw [tasks, ← same]; simp
    have now : (done ++ y :: l)[done.length]? = some y := by simp
    rw [List.length_cons, List.range'_succ, List.foldl_cons, CurrentPull.giveNoResult, at_k, Option.elim_some]
    by_cases hy : y.result.isNone = true
    · rw [if_pos hy, State.writePull_noResult hc now,
        List.filter_cons_of_pos (p := fun y : Task => y.result.isNone) hy]
      obtain ⟨answered, h⟩ := ih (before ++ [y]) (done ++ [{ y with result := some s.puller.nextPull }])
        ((s.logNoResult (y.record s.puller.nextPull s.mgmt.time c.strip .noResult none none)).withCurrent
          { c with tasks := (done ++ y :: l).set done.length { y with result := some s.puller.nextPull } })
        (by simp [same]) (by simp [tasks]) (by simp [State.withCurrent])
      refine ⟨answered, ?_⟩
      rw [List.length_append] at h
      refine h.trans ?_
      rw [State.foldl_logNoResult_current]
      have number := s.puller.logged_nextPull (y.record s.puller.nextPull s.mgmt.time c.strip .noResult none none)
      simp only [noResults, numbered, List.foldl_cons, ← number]
      rfl
    · rw [if_neg hy, List.filter_cons_of_neg (p := fun y : Task => y.result.isNone) hy]
      obtain ⟨answered, h⟩ := ih (before ++ [y]) (done ++ [y]) s (by simp [same]) (by simp [tasks]) (by simp [hc])
      refine ⟨answered, ?_⟩
      rw [List.length_append] at h
      exact h

/-- R129, R130: all that giving NO-RESULT to the tasks that wait does. -/
theorem State.giveNoResults_eq {s : State} {c : CurrentPull} (hc : s.puller.current = some c) :
    ∃ answered, s.giveNoResults =
      ((noResults s.mgmt.time c.strip s.puller.nextPull (c.tasks.filter fun y => y.result.isNone)).foldl
        State.logNoResult s).withCurrent { c with tasks := answered } := by
  obtain ⟨answered, h⟩ := c.foldl_giveNoResult c.tasks [] [] s rfl rfl hc
  refine ⟨answered, h ▸ ?_⟩
  unfold State.giveNoResults
  rw [hc]
  dsimp only
  rw [List.range_eq_range']
  rfl

/-! ## The pull controller and the bond records behind the NO-RESULT records (R77, R125, R126) -/

theorem noResults_spec {time strip n : Nat} {l : List Task} {r : PullRecord} (h : r ∈ noResults time strip n l) :
    r.verdict = .noResult ∧ r.force = none ∧ r.mode = none := by
  obtain ⟨k, y, -, rfl⟩ := mem_numbered _ h
  exact ⟨rfl, rfl, rfl⟩

/-- What each step of a fold leaves, the fold leaves. -/
theorem foldl_leaves {α β γ : Type} (g : β → γ) (f : β → α → β) (l : List α)
    (h : ∀ a ∈ l, ∀ b, g (f b a) = g b) (b : β) : g (l.foldl f b) = g b := by
  induction l generalizing b with
  | nil => rfl
  | cons a l ih =>
    exact (ih (fun c hc => h c (List.mem_cons_of_mem _ hc)) _).trans (h a List.mem_cons_self b)

theorem Puller.foldl_logged_nextPull (rs : List PullRecord) (p : Puller) :
    (rs.foldl Puller.logged p).nextPull = nextInCycle^[rs.length] p.nextPull := by
  induction rs generalizing p with
  | nil => rfl
  | cons r rs ih => rw [List.foldl_cons, ih, p.logged_nextPull, List.length_cons, Function.iterate_succ_apply]

/-- R125 step 2: the log keeps its length once it is full. -/
theorem Puller.foldl_logged_log (rs : List PullRecord) (p : Puller) :
    (rs.foldl Puller.logged p).log = (p.log ++ rs).drop (min 256 p.log.length + rs.length - 256) := by
  induction rs generalizing p with
  | nil =>
    have kept : min 256 p.log.length + 0 - 256 = 0 := by omega
    simp only [List.foldl_nil, List.length_nil, kept, List.append_nil, List.drop_zero]
  | cons r rs ih =>
    rw [List.foldl_cons, ih, p.logged_log, addLog_eq]
    by_cases room : p.log.length < 256
    · have gone : min 256 (p.log ++ [r]).length + rs.length = min 256 p.log.length + (r :: rs).length := by
        simp only [List.length_append, List.length_cons, List.length_nil]; omega
      rw [if_pos room, gone, List.append_assoc]
      rfl
    · have gone : min 256 (p.log.drop 1 ++ [r]).length + rs.length - 256 = rs.length := by
        simp only [List.length_append, List.length_drop, List.length_cons, List.length_nil]; omega
      have full : min 256 p.log.length = 256 := by omega
      have first : (p.log ++ r :: rs).drop 1 = p.log.drop 1 ++ r :: rs := List.drop_append_of_le_length (by omega)
      rw [if_neg room, gone, full, Nat.add_sub_cancel_left, List.length_cons, Nat.add_comm rs.length,
        ← List.drop_drop, first, List.append_assoc]
      rfl

/-- R126: each head's records without a result are counted. -/
theorem Puller.foldl_logged_stats (rs : List PullRecord) (hr : ∀ r ∈ rs, r.verdict = .noResult) (h : Head)
    (p : Puller) :
    let given := (rs.filter fun r => r.head == h).length
    (rs.foldl Puller.logged p).stats h = if given = 0 then p.stats h
      else { p.stats h with noResults := min 65535 ((p.stats h).noResults + given) } := by
  induction rs generalizing p with
  | nil => rfl
  | cons r rs ih =>
    dsimp only at ih ⊢
    rw [List.foldl_cons, ih fun z hz => hr z (List.mem_cons_of_mem _ hz)]
    have verdict := hr r List.mem_cons_self
    by_cases hh : r.head = h
    · have moved : (p.logged r).stats h = { p.stats h with noResults := min 65535 ((p.stats h).noResults + 1) } := by
        rw [← hh, p.logged_stats, verdict]
        rfl
      rw [moved, List.filter_cons_of_pos (by simpa using hh), List.length_cons, if_neg (Nat.succ_ne_zero _)]
      split
      · next none => rw [none]
      · dsimp only
        congr 1
        omega
    · have moved : (p.logged r).stats h = p.stats h := by
        obtain rfl := (head_eq_or_other r.head h).resolve_left (Ne.symm hh)
        exact p.logged_stats_other r
      rw [moved, List.filter_cons_of_neg (by simpa using hh)]

theorem Puller.foldl_logged_last (rs : List PullRecord)
    (hr : ∀ r ∈ rs, r.verdict = .noResult ∧ r.force = none ∧ r.mode = none) (some_record : rs ≠ []) (p : Puller) :
    (rs.foldl Puller.logged p).last = some ⟨.noResult, none, none⟩ := by
  obtain ⟨l, r, rfl⟩ := List.eq_nil_or_concat rs |>.resolve_left some_record
  obtain ⟨verdict, force, mode⟩ := hr r (by simp)
  rw [List.concat_eq_append, List.foldl_append, List.foldl_cons, List.foldl_nil, Puller.logged_last, verdict, force,
    mode]

/-- R127: what records without a result leave of the pull controller. -/
theorem Puller.foldl_logged_same (rs : List PullRecord) (hr : ∀ r ∈ rs, r.verdict = .noResult) (p : Puller) :
    let q := rs.foldl Puller.logged p
    q.timeout = p.timeout ∧ q.ordersQueued = p.ordersQueued ∧ q.stray = p.stray ∧ q.runA = p.runA ∧
      q.runB = p.runB := by
  have same := foldl_leaves (fun q : Puller => (q.timeout, q.ordersQueued, q.stray, q.runA, q.runB)) Puller.logged rs
    (fun r h q => by
      simp only [Puller.logged, hr r h, moveRun]
      cases r.head <;> rfl) p
  simpa using same

theorem Store.foldl_answered (rs : List PullRecord) (y : Store) : rs.foldl Store.answered y =
    { y with records := rs.foldl (fun l p => l.map fun r =>
      if r.number = p.ballRecord ∨ r.number = p.stitchRecord then { r with pinned := false, pullRef := some p.number }
      else r) y.records } := by
  induction rs generalizing y with
  | nil => rfl
  | cons r rs ih => rw [List.foldl_cons, List.foldl_cons, ih, Store.answered_eq]

theorem Puller.foldl_logged_current (rs : List PullRecord) (p : Puller) (c : Option CurrentPull) :
    rs.foldl Puller.logged { p with current := c } = { rs.foldl Puller.logged p with current := c } := by
  induction rs generalizing p with
  | nil => rfl
  | cons r rs ih => rw [List.foldl_cons, List.foldl_cons, Puller.logged_current, ih]

/-! ## A pull that ends without all its results (R128 to R130) -/

/-- R128, R129: the pull controller once the records `rs` have ended the pull. -/
def Puller.ended (p : Puller) (rs : List PullRecord) : Puller :=
  { rs.foldl Puller.logged p with timer := none, current := none }

/-- R125, R129: the records of the tasks of the pull `c` that wait for their result. -/
def State.noResults (s : State) (c : CurrentPull) : List PullRecord :=
  Machine.noResults s.mgmt.time c.strip s.puller.nextPull (c.tasks.filter fun y => y.result.isNone)

theorem State.sendNoResults_track (s : State) (rs : List PullRecord) : (s.sendNoResults rs).track = s.track :=
  foldl_leaves State.track (fun v (p : PullRecord) => v.send .u (.pullReport p.number .noResult none none)) rs
    (fun _ _ _ => rfl) s

/-- R128, R131: the reports and the end of a pull that timed out concern the track and the ports alone. -/
theorem State.sendNoResults_over (s : State) (rs : List PullRecord) :
    Frame [.track, .ports] s ((s.sendNoResults rs).pullOver true) := by
  have sent : Frame [.ports] s (s.sendNoResults rs) := Frame.foldl _ (fun v p => v.send_frame .u _) rs s
  exact sent.comp (State.updatePullStrip_frame _ _) (by simp) (by simp)

/-- R125, R131: giving NO-RESULT sends the reports, and writes the records. -/
theorem State.giveNoResults_sends {s : State} {c : CurrentPull} (hc : s.puller.current = some c) :
    ∃ answered, s.giveNoResults = (s.sendNoResults (s.noResults c)).withPulls
      { (s.noResults c).foldl Puller.logged s.puller with current := some { c with tasks := answered } }
      ((s.noResults c).foldl Store.answered s.store) := by
  obtain ⟨answered, h⟩ := State.giveNoResults_eq hc
  exact ⟨answered, h.trans (by rw [State.foldl_logNoResult]; rfl)⟩

/-- R129: abort and cancel. -/
theorem State.endPull_noResults {s : State} {c : CurrentPull} (hc : s.puller.current = some c) :
    s.giveNoResults.endPull = ((s.sendNoResults (s.noResults c)).pullOver c.timedOut).releaseGate.withPulls
      (s.puller.ended (s.noResults c)) ((s.noResults c).foldl Store.answered s.store) := by
  obtain ⟨answered, h⟩ := State.giveNoResults_sends hc
  rw [h, State.endPull_over]
  rfl

/-- R138: a raise looks at no strip. -/
theorem State.raise_pullOver (s : State) (c : AlarmClass) (o : AlarmObject) :
    (s.raise c o).pullOver true = (s.pullOver true).raise c o := by
  have stops : (s.pullOver true).stops c o = s.stops c o := rfl
  change ({ s.raise c o with track := (s.raise c o).track.repulled .complete } : State) = _
  rw [State.raise_eq, State.raise_eq, stops]
  dsimp only
  cases s.stops c o <;> rfl

/-- R130: the pull station timer. -/
theorem State.endPull_timeout (s : State) (c : CurrentPull) :
    ((s.withCurrent { c with timedOut := true }).giveNoResults.raise .pullTimeout .pullStation).endPull =
      (((s.sendNoResults (s.noResults c)).pullOver true).raise .pullTimeout .pullStation).releaseGate.withPulls
        (s.puller.ended (s.noResults c)) ((s.noResults c).foldl Store.answered s.store) := by
  let late : Puller := { s.puller with current := some { c with timedOut := true } }
  obtain ⟨answered, h⟩ := State.giveNoResults_sends (s := s.withPulls late s.store) rfl
  change ((s.withPulls late s.store).giveNoResults.raise .pullTimeout .pullStation).endPull = _
  have logged : (s.noResults c).foldl Puller.logged late =
      { (s.noResults c).foldl Puller.logged s.puller with current := some { c with timedOut := true } } :=
    Puller.foldl_logged_current _ s.puller _
  change _ = ((s.withPulls late s.store).sendNoResults (s.noResults c)).withPulls
    { (s.noResults c).foldl Puller.logged late with
      current := some { c with timedOut := true, tasks := answered } } _ at h
  rw [h, logged, State.sendNoResults_withPulls, State.raise_withPulls, State.raise_withPulls, ← State.raise_pullOver]
  exact State.endPull_over ((s.sendNoResults (s.noResults c)).raise .pullTimeout .pullStation) _ _

/-- R77, R125, R128: what the end of a pull leaves of the pull controller, the bond records and the strips, from `s`
to `t`, where the records `rs` are without a result. -/
structure NoResultsEnd (s : State) (rs : List PullRecord) (t : State) : Prop where
  puller : t.puller = s.puller.ended rs
  store : t.store = rs.foldl Store.answered s.store
  pulled : ∃ f : Strip → Strip, s.track.Pulled f t.track ∧
    ∀ x, ((f x).id, (f x).units) = (x.id, x.units) ∧ (f x).pullState = .complete
  frame : Frame pullBlocks s t

/-- R100, R128, R131: what stands once the gate has judged `told`, where the pull is over. -/
theorem NoResultsEnd.of {s told u : State} {rs : List PullRecord} {f : Strip → Strip}
    (pulled : s.track.Pulled f told.track)
    (same : ∀ x, ((f x).id, (f x).units) = (x.id, x.units) ∧ (f x).pullState = .complete)
    (hu : u = told.releaseGate.withPulls (s.puller.ended rs) (rs.foldl Store.answered s.store))
    (frame : Frame pullBlocks s u) (behind : Ports → Ports) :
    let t := ({ u with ports := behind u.ports } : State).markChanges s
    NoResultsEnd s rs t ∧ AlarmsAs told t ∧ GateJudged behind told t := by
  intro t
  subst hu
  have alarms : AlarmsAs told.releaseGate { told.releaseGate.withPulls (s.puller.ended rs)
      (rs.foldl Store.answered s.store) with ports := behind told.releaseGate.ports } := ⟨rfl, rfl, rfl, rfl⟩
  refine ⟨⟨State.markChanges_puller _ s, State.markChanges_store _ s, ⟨f, ?_, same⟩, ?_⟩,
    State.releaseGate_leaves behind alarms rfl rfl s⟩
  · rw [State.markChanges_track]
    exact pulled.trans told.releaseGate_pulled
  · exact (frame.trans (by simp [Frame])).markChanges s

theorem State.sendNoResults_pulled (s : State) (rs : List PullRecord) (late : Bool) :
    s.track.Pulled (fun x => { x with pullState := .complete }) ((s.sendNoResults rs).pullOver late).track := by
  have completed := (s.sendNoResults rs).pullOver_pulled late
  rwa [State.sendNoResults_track] at completed

/-- R128, R129: abort and cancel, where `u` is `s` but for its ports. -/
theorem State.pull_ends {s u : State} {c : CurrentPull} (hc : s.puller.current = some c) (taken : Frame [.ports] s u)
    (behind : Ports → Ports) :
    let t := ({ u.giveNoResults.endPull with ports := behind u.giveNoResults.endPull.ports } : State).markChanges s
    let told := (u.sendNoResults (s.noResults c)).pullOver c.timedOut
    NoResultsEnd s (s.noResults c) t ∧ AlarmsAs told t ∧ GateJudged behind told t := by
  obtain ⟨-, -, -, -, -, -, store, track, puller, -, -, -, mgmt⟩ := id taken
  have puller : u.puller = s.puller := puller (by simp)
  have mgmt : u.mgmt = s.mgmt := mgmt (by simp)
  have records : u.noResults c = s.noResults c := by rw [State.noResults, puller, mgmt]; rfl
  have ended := State.endPull_noResults (s := u) (puller ▸ hc)
  have pulled := u.sendNoResults_pulled (s.noResults c) c.timedOut
  rw [records, puller, store (by simp)] at ended
  rw [track (by simp)] at pulled
  exact NoResultsEnd.of pulled (fun x => ⟨rfl, rfl⟩) ended
    ((taken.mono (by simp)).trans (u.giveNoResults_frame.trans (State.endPull_frame _))) behind

/-- R130: the pull station timer. -/
theorem State.pull_timesOut (s : State) (c : CurrentPull) :
    let u := ((s.withCurrent { c with timedOut := true }).giveNoResults.raise .pullTimeout .pullStation).endPull
    let told := ((s.sendNoResults (s.noResults c)).pullOver true).raise .pullTimeout .pullStation
    NoResultsEnd s (s.noResults c) (u.markChanges s) ∧ AlarmsAs told (u.markChanges s) ∧
      GateJudged id told (u.markChanges s) := by
  have begun : Frame pullBlocks s (s.withCurrent { c with timedOut := true }) := by simp [Frame, State.withCurrent]
  have pulled := (s.sendNoResults_pulled (s.noResults c) true).trans
    (State.raise_pulled _ .pullTimeout .pullStation)
  exact NoResultsEnd.of pulled (fun x => ⟨rfl, rfl⟩) (s.endPull_timeout c)
    (((begun.trans (State.giveNoResults_frame _)).trans ((State.raise_frame _ _ _).mono (by simp))).trans
      (State.endPull_frame _)) id

/-! ## The commands that end a pull, where the invariant holds -/

/-- R119, R121: a pull that is ORDERED is the current one, with its timer running. -/
theorem CurrentInv.ordered {s : State} (inv : CurrentInv s) (h : s.pullState = .ordered) :
    ∃ c, s.puller.current = some c ∧ s.puller.timer.isSome = true := by
  obtain ⟨idle, stands⟩ := inv
  obtain ⟨x, hx, hs⟩ := State.pull_of_ordered h
  cases hc : s.puller.current with
  | none =>
    obtain ⟨-, still⟩ := idle hc
    have quiet := still x hx
    simp [Strip.quiet, hs] at quiet
  | some c =>
    obtain ⟨-, strip, -⟩ := stands c hc
    obtain ⟨-, -, -, runs⟩ := strip x hx
    exact ⟨c, rfl, runs hs⟩

/-- R119, R121: a current pull is WAITING or ORDERED, at PULL, with a task that waits for its result. -/
theorem CurrentInv.stands {s : State} (inv : CurrentInv s) {c : CurrentPull} (hc : s.puller.current = some c) :
    (s.pullState = .waiting ∨ s.pullState = .ordered) ∧ (∃ x, s.track.pull = some x) ∧
      c.tasks.filter (fun y => y.result.isNone) ≠ [] := by
  obtain ⟨-, stands⟩ := inv
  obtain ⟨some_strip, strip, -, waits⟩ := stands c hc
  obtain ⟨x, hx⟩ := Option.isSome_iff_exists.mp some_strip
  refine ⟨?_, ⟨x, hx⟩, by simpa [List.filter_eq_nil_iff] using waits⟩
  obtain ⟨-, loud, -⟩ := strip x hx
  rw [State.pullState, hx]
  revert loud
  unfold Strip.quiet
  cases h : x.pullState <;> simp [h]

theorem State.takePullAbort_stray {s : State} {strip : Nat}
    (h : ¬(s.puller.current.any (fun p => p.strip == strip) = true ∧ s.pullState = .ordered)) :
    s.takePullAbort strip = s.strayPull := by
  unfold State.takePullAbort
  split
  · rfl
  · next c hc =>
    rw [if_neg]
    rintro ⟨ordered, rfl⟩
    exact h ⟨by simp [hc], ordered⟩

theorem State.takePullAbort_ends {s : State} {c : CurrentPull} (hc : s.puller.current = some c)
    (ordered : s.pullState = .ordered) : s.takePullAbort c.strip = s.giveNoResults.endPull := by
  unfold State.takePullAbort
  rw [hc]
  exact if_pos ⟨ordered, rfl⟩

/-- R129: PULL-ABORT in its turn. -/
theorem exec_pullAbort {e : Envelope} {strip : W16} {s : State} (turn : s.inTurn .pt (.pullAbort e strip) = true) :
    let abort := (s.takeRx .pt (.pullAbort e strip)).send .u (.forwarded ⟨e.dst, e.src, 0x32,
      [strip.extractLsb' 8 8, strip.extractLsb' 0 8] ++ e.extra⟩)
    exec (.pullAbort e strip) s = .next ((abort.takePullAbort strip.toNat).markChanges s) := by
  intro abort
  change Host.Outcome.next (s.taken .pt (.pullAbort e strip) _) = _
  rw [s.taken_inTurn .pt _ _ turn, State.forward_of _ (c := .pullAbort e strip) rfl]
  rfl

/-- R129, R179: PULL-CANCEL in its turn. -/
theorem exec_pullCancel {tag : Byte} {s : State} (turn : s.inTurn .u (.controlPullCancel tag) = true) :
    let u := s.takeRx .u (.controlPullCancel tag)
    exec (.controlPullCancel tag) s = .next (
      if s.puller.current.isSome ∧ (s.pullState = .waiting ∨ s.pullState = .ordered) then
        (u.giveNoResults.endPull.reply 3 tag .accepted).markChanges s
      else (u.reply 3 tag (.refused .inconsistent)).markChanges s) := by
  intro u
  change Host.Outcome.next (s.request (.controlPullCancel tag) 3 tag _) = _
  rw [s.request_inTurn _ 3 tag _ turn]
  change Host.Outcome.next ((fun b : State × Reply => (b.1.reply 3 tag b.2).markChanges s)
    (if s.puller.current.isSome ∧ (s.pullState = .waiting ∨ s.pullState = .ordered) then
      (u.giveNoResults.endPull, .accepted) else (u, .refused .inconsistent))) = _
  split <;> rfl

/-- R130: the expiry of the pull station timer. -/
theorem exec_pullStationTimer {s : State} {c : CurrentPull} (hc : s.puller.current = some c)
    (runs : s.puller.timer.isSome = true) (ordered : s.pullState = .ordered) :
    exec .pullStationTimerExpiry s = .next
      (((s.withCurrent { c with timedOut := true }).giveNoResults.raise .pullTimeout .pullStation).endPull.markChanges
        s) := by
  have late : ({ s with puller := { s.puller with
      current := s.puller.current.map fun c => { c with timedOut := true } } } : State) =
      s.withCurrent { c with timedOut := true } := by rw [hc]; rfl
  rw [← late]
  exact congrArg Host.Outcome.next (if_pos ⟨runs, ordered⟩)

/-! ## What the end of a pull leaves of the pull controller and the strips -/

/-- R124, R126: a record without a result is charged to the stitch head. -/
theorem noResults_given (time strip n : Nat) (l : List Task) (k : Head) :
    ((noResults time strip n l).filter fun r => r.head == k).length = (l.filter fun y => y.stitchHead == k).length :=
  numbered_filter _ (fun r : PullRecord => r.head == k) (fun y : Task => y.stitchHead == k) (fun _ _ => rfl) n l

section
variable {s t : State} {rs : List PullRecord} (h : NoResultsEnd s rs t)
include h

theorem NoResultsEnd.stats (hr : ∀ r ∈ rs, r.verdict = .noResult) (k : Head) :
    let given := (rs.filter fun r => r.head == k).length
    t.puller.stats k = if given = 0 then s.puller.stats k
      else { s.puller.stats k with noResults := min 65535 ((s.puller.stats k).noResults + given) } := by
  rw [h.puller]
  exact (Puller.stats_of _ k none none).trans (Puller.foldl_logged_stats rs hr k s.puller)

/-- What the records without a result leave of the pull controller's other registers. -/
theorem NoResultsEnd.same (hr : ∀ r ∈ rs, r.verdict = .noResult) :
    t.puller.timeout = s.puller.timeout ∧ t.puller.ordersQueued = s.puller.ordersQueued ∧
      t.puller.stray = s.puller.stray ∧ t.puller.runA = s.puller.runA ∧ t.puller.runB = s.puller.runB := by
  rw [h.puller]
  exact Puller.foldl_logged_same rs hr s.puller

theorem NoResultsEnd.last (hr : ∀ r ∈ rs, r.verdict = .noResult ∧ r.force = none ∧ r.mode = none)
    (some_record : rs ≠ []) : t.puller.last = some ⟨.noResult, none, none⟩ := by
  rw [h.puller]
  exact Puller.foldl_logged_last rs hr some_record s.puller

theorem NoResultsEnd.log : t.puller.log =
    (s.puller.log ++ rs).drop (min 256 s.puller.log.length + rs.length - 256) := by
  rw [h.puller]
  exact Puller.foldl_logged_log rs s.puller

theorem NoResultsEnd.nextPull : t.puller.nextPull = nextInCycle^[rs.length] s.puller.nextPull := by
  rw [h.puller]
  exact Puller.foldl_logged_nextPull rs s.puller

theorem NoResultsEnd.complete {x : Strip} (hx : s.track.pull = some x) : t.pullState = .complete := by
  obtain ⟨f, pulled, same⟩ := h.pulled
  exact (pulled.state hx).trans (same x).2

theorem NoResultsEnd.strips : t.track.strips.map (fun x => (x.id, x.units)) =
    s.track.strips.map fun x => (x.id, x.units) := by
  obtain ⟨f, pulled, same⟩ := h.pulled
  exact pulled.strips fun x => (same x).1

end

/-! ## The statement -/

/-- Settles O45: the tasks that wait have their records one after another, and the pull ends behind them. -/
theorem pullsAreOrderedAndEnd : Obligations.PullsAreOrderedAndEnd := by
  unfold Obligations.PullsAreOrderedAndEnd
  refine ⟨pullOrder_queued, ?_⟩
  intro e strip tag s inv tasks waiting record written given ended reported quietly abort
  have all_written : ∀ c, s.puller.current = some c →
      written = (s.noResults c, nextInCycle^[(s.noResults c).length] s.puller.nextPull) := by
    intro c hc
    rw [show (s.noResults c).length = waiting.length by
      simp only [waiting, tasks, hc]
      exact numbered_length _ _ _]
    simp only [written, foldl_numbered, List.nil_append]
    simp only [waiting, tasks, record, hc]
    rfl
  have ends : ∀ c, s.puller.current = some c → ∀ t, NoResultsEnd s (s.noResults c) t → ended t := by
    intro c hc t h
    obtain ⟨-, ⟨x, hx⟩, waits⟩ := inv.stands hc
    obtain ⟨timeout, orders, stray, runA, runB⟩ := h.same fun r hr => (noResults_spec hr).1
    obtain ⟨tables, mgmt, engineA, engineB, pending⟩ := h.frame.pull_rest
    have some_record : s.noResults c ≠ [] := by
      rw [← List.length_pos_iff, State.noResults, noResults, numbered_length, List.length_pos_iff]
      exact waits
    have gives (k : Head) : ((s.noResults c).filter fun r => r.head == k).length = given k := by
      simp only [given, waiting, tasks, hc]
      exact noResults_given _ _ _ _ k
    simp only [ended, all_written c hc]
    refine ⟨congrArg Puller.current h.puller, congrArg Puller.timer h.puller, h.complete hx, timeout, orders, stray,
      runA, runB, h.last (fun r => noResults_spec) some_record, h.log, h.nextPull, fun k _ => ?_,
      h.store.trans (Store.foldl_answered _ _), tables, mgmt, h.strips, engineA, engineB, pending⟩
    rw [← gives k]
    exact h.stats (fun r hr => (noResults_spec hr).1) k
  have reports : ∀ c, s.puller.current = some c → ∀ u, u.track = s.track →
      reported u = (u.sendNoResults (s.noResults c)).pullOver true := by
    intro c hc u hu
    simp only [reported, all_written c hc]
    rw [← hu, ← u.sendNoResults_track (s.noResults c)]
    rfl
  have ends_quietly : ∀ c, s.puller.current = some c → ∀ u behind, Frame [.ports] s u → quietly u behind
      (({ u.giveNoResults.endPull with ports := behind u.giveNoResults.endPull.ports } : State).markChanges s) := by
    intro c hc u behind hu
    obtain ⟨h, alarms, gate⟩ := State.pull_ends hc hu behind
    have told : (if s.puller.current.any (fun p => p.timedOut) = true then reported u
        else (reported u).conditionGone .pullTimeout .pullStation) =
        (u.sendNoResults (s.noResults c)).pullOver c.timedOut := by
      rw [reports c hc u (hu.track_eq (by simp)), hc, Option.any_some]
      cases c.timedOut <;> rfl
    simp only [quietly, told]
    exact ⟨ends c hc _ h, alarms, gate⟩
  refine ⟨fun turn => ?_, fun turn => ?_, ?_⟩
  · refine ⟨_, exec_pullAbort turn, ?_⟩
    have told : Frame [.ports] s abort := (s.takeRx_frame .pt _).trans (State.send_frame _ .u _)
    split
    · next h =>
      obtain ⟨stands, ordered⟩ := h
      obtain ⟨c, hc, hp⟩ := State.current_of_strip stands
      rw [← hp, State.takePullAbort_ends (s := abort) hc ordered]
      exact ends_quietly c hc abort id told
    · next h =>
      rw [State.takePullAbort_stray (s := abort) h]
      exact ⟨Frame.markChanges ((told.mono (by simp)).trans (by simp [Frame, State.strayPull])) s,
        State.markChanges_ports _ s, State.markChanges_puller _ s⟩
  · refine ⟨_, exec_pullCancel turn, ?_⟩
    by_cases stands : s.puller.current.isSome = true
    · obtain ⟨c, hc⟩ := Option.isSome_iff_exists.mp stands
      rw [if_pos (And.intro stands (inv.stands hc).1), if_pos stands]
      exact ends_quietly c hc _ (fun p => p.enqueue .u false (.controlReply 3 tag .accepted)) (s.takeRx_frame .u _)
    · rw [if_neg (mt And.left stands), if_neg stands]
      exact ⟨((s.takeRx_frame .u _).trans (State.reply_frame _ _ _ _)).markChanges s, State.markChanges_ports _ s⟩
  · by_cases ordered : s.pullState = .ordered
    · obtain ⟨c, hc, runs⟩ := inv.ordered ordered
      obtain ⟨h, alarms, gate⟩ := s.pull_timesOut c
      have told := s.sendNoResults_over (s.noResults c)
      have raised := (AlarmsAs.of_frame told (by simp) (by simp) (by simp) (by simp)).raise (told.tables_eq (by simp))
        .pullTimeout .pullStation
      refine ⟨_, exec_pullStationTimer hc runs ordered, ?_⟩
      rw [if_pos ordered, reports c hc s rfl]
      exact ⟨ends c hc _ h, raised.trans alarms, gate⟩
    · exact ⟨s, congrArg Host.Outcome.next (if_neg fun h => ordered h.2), by rw [if_neg ordered]⟩

end Sys2Proof.Machine
end
